-- ==== Sys2Proof/Word.lean ====
section
/-! DEFINITION. The byte of the local port and of the profile memory. -/

namespace Sys2Proof

/-- One byte, as the two-wire ports carry it (R172, R186). -/
abbrev Byte := BitVec 8

end Sys2Proof
end

