-- ==== Sys2Proof/Syntax.lean ====
section
/-! DEFINITION. The commands of the block: one constructor of Instr per row of spec/opcode_table.json, with the row's operands
(notes/assumptions/2.md says how the operands were chosen, since the table gives none). -/

namespace Sys2Proof

/-- A slot of the shelf, 0..31 (00_scope, Units and number conventions). -/
abbrev Slot := Fin 32

/-- The claimed profile of a station (R33, R75). -/
inductive PowerLevel where
  | full
  | reduced
  deriving DecidableEq, Repr

/-- The phase a station announces (R3, R33, R76). -/
inductive Phase where
  | waiting
  | precharging
  | bringup
  | admitted
  | retiring
  | stopped
  deriving DecidableEq, Repr

/-- The four kinds of notice (R33). -/
inductive NoticeKind where
  | standing
  | bid
  | yield
  | leave
  deriving DecidableEq, Repr

/-- The contents of a notice as a frame carries them, less kind and check field (R33, R184). A frame whose mate present bit is
clear has mate `none`, whatever its slot bits hold. -/
structure Notice where
  cls         : Fin 4
  slot        : Slot
  phase       : Phase
  profile     : PowerLevel
  bidOpen     : Bool
  carrying    : Bool
  handoverReq : Bool
  claim       : Fin 1024
  amount      : Fin 1024
  capacity    : Fin 4096
  mate        : Option Slot
  deriving DecidableEq, Repr

/-- What a reset event reads of the station's analogue inputs and of PADR0..1 (R46, R101, R172): the voltages in decivolts and
the load current in current units, before the samplers limit them to 1023. -/
structure ResetSense where
  feedA : Nat
  feedB : Nat
  vBulk : Nat
  iLoad : Nat
  padr  : Fin 4
  deriving DecidableEq, Repr

/-- What entry into LOADING reads (R161, R162): GA4..GA0 as a binary value, GAP, and whether PM_SDA is held low while the
attempts of the event begin. -/
structure Straps where
  ga       : Slot
  gap      : Bool
  pmSdaLow : Bool
  deriving DecidableEq, Repr

/-- The payload's directly read answers (R1): RAIL_PG3..0, PAY_READY, QUIESCED and PROF_ACK. -/
structure Answers where
  railPg   : BitVec 4
  payReady : Bool
  quiesced : Bool
  profAck  : Bool
  deriving DecidableEq, Repr

/-- The two debouncers of DEBOUNCER_FIRST_SETTLING (R1). -/
inductive Debounced where
  | stepInput
  | carryingInput
  deriving DecidableEq, Repr

/-- How a data byte written reaches the local port (R172): `addressed`, after the start, the address and the offset byte of a write
transaction; `following`, as the next byte of the write transaction in progress, at the current offset. -/
inductive Addressing where
  | addressed
  | following
  deriving DecidableEq, Repr

/-- A data byte written to the local port (R172). -/
structure PortByte where
  value : Byte
  via   : Addressing
  deriving DecidableEq, Repr

/-- The commands. Where a row is the end of a timer or of a count, the command carries its sender's word that the end has come
(notes/assumptions/3.md). -/
inductive Instr where
  /-- POWER_ON_RESET (R159): SEATED low or not, the reset event's samples, and the payload's answers as they stand. -/
  | powerOnReset (seated : Bool) (sense : ResetSense) (answers : Answers)
  /-- RESTART_N_FALL (R166). -/
  | restartNFall (sense : ResetSense) (straps : Straps)
  /-- SEATED_DEBOUNCED_SEATED (R160). -/
  | seatedDebouncedSeated
  /-- LOSS_OF_SEATING (R157). -/
  | lossOfSeating
  /-- SETTLE_EXPIRY (R160, R161). -/
  | settleExpiry (straps : Straps)
  /-- PROFILE_ATTEMPT_COMPLETE (R162): the 110 bytes read, and the level of PM_SDA at which a next attempt would begin. -/
  | profileAttemptComplete (image : List Byte) (pmSdaLow : Bool)
  /-- PROFILE_NO_RESPONSE (R162, R186). -/
  | profileNoResponse (pmSdaLow : Bool)
  /-- ATTEMPT_TIMER_EXPIRY (R162). -/
  | attemptTimerExpiry (pmSdaLow : Bool)
  /-- RELEARN_EXPIRY (R165, R167). -/
  | relearnExpiry
  /-- TRANSMISSION_BEGIN (R26). -/
  | transmissionBegin
  /-- LOST_ARBITRATION (R27). -/
  | lostArbitration
  /-- CLASH (R28). -/
  | clash
  /-- LOOPBACK (R29): the own frame is complete; the sample after its 64th bit is recessive or not (R24). -/
  | loopback (endRecessive : Bool)
  /-- STANDING_NOTICE (R5). -/
  | standingNotice (n : Notice)
  /-- BID_NOTICE (R6). -/
  | bidNotice (n : Notice)
  /-- YIELD_NOTICE (R7). -/
  | yieldNotice (n : Notice)
  /-- LEAVE_NOTICE (R8). -/
  | leaveNotice (n : Notice)
  /-- INVALID_FRAME (R24, R31): the 64 bits sampled, the start bit first, and the sample after them. -/
  | invalidFrame (bits : BitVec 64) (endRecessive : Bool)
  /-- DISTURBANCE (R23). -/
  | disturbance
  /-- LINE_STUCK (R25). -/
  | lineStuck
  /-- LINE_FREED (R25). -/
  | lineFreed
  /-- CLASH_WAIT_EXPIRY (R28). -/
  | clashWaitExpiry
  /-- QUALITY_INTERVAL_END (R32). -/
  | qualityIntervalEnd
  /-- TRANSMIT_CONGESTION (R38). -/
  | transmitCongestion
  /-- PERIODIC_NOTICE_EXPIRY (R40). -/
  | periodicNoticeExpiry
  /-- ENTRY_STALE (R12): the age of the slot's entry reaches 200 ms. -/
  | entryStale (slot : Slot)
  /-- PEER_EXPIRED (R13): the age of the slot's entry reaches 1000 ms. -/
  | peerExpired (slot : Slot)
  /-- FEED_SAMPLE (R43): the magnitudes of FEEDA_S and FEEDB_S in decivolts. -/
  | feedSample (a b : Nat)
  /-- RIDE_THROUGH_EXPIRY (R51). -/
  | rideThroughExpiry
  /-- BID_WINDOW_EXPIRY (R83). -/
  | bidWindowExpiry
  /-- BACKOFF_EXPIRY (R85). -/
  | backoffExpiry
  /-- COOLDOWN_EXPIRY (R96). -/
  | cooldownExpiry
  /-- PROF_ACK_CHANGE (R90): the new level. -/
  | profAckChange (level : Bool)
  /-- SHED_WAIT_EXPIRY (R90). -/
  | shedWaitExpiry
  /-- UPGRADE_WINDOW_EXPIRY (R92). -/
  | upgradeWindowExpiry
  /-- UPGRADE_HOLD_EXPIRY (R73). -/
  | upgradeHoldExpiry
  /-- UPGRADE_RETRY_HOLD_EXPIRY (R93). -/
  | upgradeRetryHoldExpiry
  /-- CARRYING_CHANGE (R76): the new debounced level. -/
  | carryingChange (level : Bool)
  /-- PATH_SAMPLE (R101): the bulk node in decivolts and the load in current units. -/
  | pathSample (vBulk iLoad : Nat)
  /-- PRECHARGE_TIMEOUT (R106): the path sample at which the elapsed count reaches D. -/
  | prechargeTimeout (vBulk iLoad : Nat)
  /-- SLOW_TRIP (R109): the path sample at which the slow-trip count reaches 4. -/
  | slowTrip (vBulk iLoad : Nat)
  /-- OVERCLAIM (R111): the path sample at which the overclaim count reaches 1000. -/
  | overclaim (vBulk iLoad : Nat)
  /-- CLOSING_EXPIRY (R107). -/
  | closingExpiry
  /-- DISCHARGE_SLOW (R118). -/
  | dischargeSlow
  /-- STEP_EDGE (R127): rising, or the falling edge that has no effect. -/
  | stepEdge (rising : Bool)
  /-- CONDITION_INPUT_CHANGE (R128): the levels of RAIL_PG3..0 and PAY_READY after the change. -/
  | conditionInputChange (railPg : BitVec 4) (payReady : Bool)
  /-- BRINGUP_TIMEOUT (R129). -/
  | bringupTimeout
  /-- DWELL_EXPIRY (R130). -/
  | dwellExpiry
  /-- TEARDOWN_DWELL_EXPIRY (R133). -/
  | teardownDwellExpiry
  /-- LATCH_OPENING (R141). -/
  | latchOpening
  /-- LATCH_CLOSING (R141, R143). -/
  | latchClosing
  /-- EJECT_FIRST_SETTLING (R141): whether the latch settles open. -/
  | ejectFirstSettling (opened : Bool)
  /-- FORCE_TIMER_EXPIRY (R141, R147). -/
  | forceTimerExpiry
  /-- HANDOVER_TIMER_EXPIRY (R146). -/
  | handoverTimerExpiry
  /-- QUIESCED_RISE (R148): the level of QUIESCED after a change; `true` is the rise, `false` the fall. -/
  | quiescedRise (level : Bool)
  /-- QUIESCE_TIMEOUT (R148). -/
  | quiesceTimeout
  /-- RETIRE, code 0x01 (R142). -/
  | retire
  /-- CANCEL_RETIRE, code 0x02 (R143). -/
  | cancelRetire
  /-- FORCE_RETIRE, code 0x03 (R147). -/
  | forceRetire
  /-- CLEAR_FAULT, code 0x04 (R97). -/
  | clearFault
  /-- FORCE_OFF, code 0x05 (R95). -/
  | forceOff
  /-- RESTART, code 0xA5 (R166, R179). -/
  | restart (sense : ResetSense) (straps : Straps)
  /-- UNKNOWN_COMMAND (R178): a byte written to CMD that names no command. -/
  | unknownCommand (code : Byte)
  /-- EVENTS_CLEAR (R176): a byte written to EVENTS, at 0x20 (flags 1..8) or, with `high`, at 0x21 (flags 9..16). -/
  | eventsClear (high : Bool) (value : PortByte)
  /-- MASK_WRITE (R177): a byte written to MASK, at 0x22 or, with `high`, at 0x23. -/
  | maskWrite (high : Bool) (value : PortByte)
  /-- VIEWSEL_WRITE (R174). -/
  | viewselWrite (value : PortByte)
  /-- OFFSET_WRITE (R172): the offset byte of a write transaction. -/
  | offsetWrite (offset : Byte)
  /-- REGISTER_WRITE (R172): a byte written at an offset that takes no writes. -/
  | registerWrite (offset : Byte) (value : PortByte)
  /-- SNAPSHOT_READ (R172, R173): a data byte read; a field's first byte loads its buffer. With an offset, it is the first byte of a
  read transaction joined to a write of that offset byte; with none, it is read at the current offset. -/
  | snapshotRead (offset : Option Byte)
  /-- VIEWDATA_READ (R174): the read of VIEWDATA's first byte. -/
  | viewdataRead
  /-- LAMP_BLINK_TOGGLE (R182). -/
  | lampBlinkToggle
  /-- GAP_COMPLETE (R23). -/
  | gapComplete
  /-- START_BIT (R23). -/
  | startBit
  /-- DEBOUNCER_FIRST_SETTLING (R1). -/
  | debouncerFirstSettling (which : Debounced) (level : Bool)
  deriving DecidableEq, Repr

end Sys2Proof
end

