-- ==== Sys2Proof/Decode.lean ====
section
/-! DEFINITION. The commands that a word spells by the table's bits: none, since no row of spec/opcode_table.json gives bits. -/

namespace Sys2Proof

/-- No row of the table has fixed bits or fields, so no word spells a command. -/
def decodeTableWord (_nbits _w : Nat) : Option Instr := none

end Sys2Proof
end

