-- ==== Sys2Proof/Config.lean ====
section
/-! DEFINITION. The free values: constants without a body, so that nothing can be proved of the value chosen. -/

namespace Sys2Proof.Config

/-- The checksum that times a clash wait where the manual names none (notes/assumptions/8.md): a clash of a notice still in
flight after a loss of seating that could queue no LEAVE, when no profile image is valid and no copy of one is kept (R28, R37).
Applied to State.freeCount, which advances at each use. -/
opaque freeChecksum : Nat → BitVec 16

end Sys2Proof.Config
end

