-- ==== Sys2Proof/Machine/State.lean ====
section
/-! DEFINITION. The state of the station, block by block (00_scope, Functional blocks), and its value after a power-on reset.
Values that a rule defines from others (the rank, the claims, V_min8, the sums of the view, the gates, the lamps, ALERT) are
functions over this state and are not stored a second time. -/

namespace Sys2Proof.Machine

/-- A timer: `none` stopped, `some n` running with n milliseconds left; `some 0` has run out and its expiry is not yet taken. -/
abbrev Timer := Option Nat

/-! ## Feed Supervisor -/

/-- The state of a feed (03, Feed states). -/
inductive FeedState where
  | absent
  | low
  | good
  | high
  deriving DecidableEq, Repr

/-- One feed: its latest sample (R43), its state, and the pending state with its count (R45). -/
structure Feed where
  sample  : Nat
  state   : FeedState
  pending : Option FeedState
  count   : Nat
  deriving DecidableEq, Repr

/-- The Feed Supervisor: both feeds, V_f (R47), the window of eight V_f values, the newest first (R48), the ride-through timer
and the undervoltage condition (R51). -/
structure FeedSupervisor where
  a      : Feed
  b      : Feed
  vF     : Nat
  window : List Nat
  ride   : Timer
  uv     : Bool
  deriving DecidableEq, Repr

/-! ## Shelf Line Interface -/

/-- The line status (R23). -/
inductive LineStatus where
  | idle
  | busy
  | stuck
  deriving DecidableEq, Repr

/-- A queued notice (R34): its kind, the milliseconds since its first request (counted up to the 250 of R38), and whether LINE
has been raised for it (R38). -/
structure Queued where
  kind      : NoticeKind
  waited    : Nat
  congested : Bool
  deriving DecidableEq, Repr

/-- The notice in flight (R26): what it was queued as, the contents composed for it and the 64 bits it drives; whether it may
no longer return to the queue (R36, R37, R39); whether it is the BID of a bid that has closed since (R81); and whether its
transmission began with a PROF_FULL assertion pending (R92). -/
structure InFlight where
  kind         : NoticeKind
  waited       : Nat
  congested    : Bool
  contents     : Notice
  bits         : BitVec 64
  dropped      : Bool
  voided       : Bool
  afterUpgrade : Bool
  deriving DecidableEq, Repr

/-- The clash wait (R28): none, awaiting the next completed gap, or running. -/
inductive ClashWait where
  | stopped
  | awaitingGap (ms : Nat)
  | running (ms : Nat)
  deriving DecidableEq, Repr

/-- The copy a LEAVE is composed from (R37): the own class and slot, F, the mate and the profile checksum. -/
structure LeaveCopy where
  cls      : Fin 4
  slot     : Slot
  f        : Nat
  mate     : Option Slot
  checksum : BitVec 16
  deriving DecidableEq, Repr

/-- The Shelf Line Interface (R42). `gapSeen`: a gap has completed since the last reset (R23). `deaf`: the frame on the line is
the remainder of one this station clashed in (R28). -/
structure LineInterface where
  line       : LineStatus
  gap        : Nat
  gapSeen    : Bool
  deaf       : Bool
  queue      : List Queued
  inFlight   : Option InFlight
  clashCount : Nat
  clashWait  : ClashWait
  errors     : Nat
  quality    : Timer
  impaired   : Bool
  periodic   : Timer
  leaveCopy  : Option LeaveCopy
  deriving DecidableEq, Repr

/-! ## Shelf View -/

/-- A peer entry (R3). The rank is class × 32 + slot (Entry.rank). -/
structure Entry where
  slot        : Slot
  cls         : Fin 4
  phase       : Phase
  profile     : PowerLevel
  bidOpen     : Bool
  carrying    : Bool
  handoverReq : Bool
  claim       : Fin 1024
  amount      : Fin 1024
  capacity    : Fin 4096
  capValid    : Bool
  mate        : Option Slot
  bid         : Option (Fin 1024)
  age         : Nat
  stale       : Bool
  deriving DecidableEq, Repr

/-- The Shelf View (R2): open or closed, and its entries in ascending slot. -/
structure ShelfView where
  opened : Bool
  table  : List Entry
  deriving DecidableEq, Repr

/-! ## Admission Engine -/

/-- The substates of ADMITTED (R76). -/
inductive AdmittedSub where
  | steady
  | upgradeBid
  | shedding
  deriving DecidableEq, Repr

/-- The substates of RETIRING (R76). -/
inductive RetiringSub where
  | handover
  | held
  | draining
  | teardown
  deriving DecidableEq, Repr

/-- The engine's state (R76). `none`: the station is in a state of Start Control's, and the engine holds no state of its own. -/
inductive Engine where
  | none
  | waiting
  | bidding
  | backoff
  | powering
  | bringup
  | admitted (sub : AdmittedSub)
  | retiring (sub : RetiringSub)
  | discharging
  | cooldown
  | released
  | stopped
  deriving DecidableEq, Repr

/-- The waiting reason (R75, R78). -/
inductive WaitReason where
  | none
  | feed
  | line
  | denied
  | busy
  | noRoom
  deriving DecidableEq, Repr

/-- The counted faults (R94). -/
inductive CountedFault where
  | prechargeTimeout
  | closeFail
  | trip
  | bringupTimeout
  deriving DecidableEq, Repr

/-- The fault causes (R75, R188). -/
inductive FaultCause where
  | none
  | prechargeTimeout
  | closeFail
  | trip
  | bringupTimeout
  | feedUv
  | feedOv
  | retryExhausted
  | forcedOff
  | slotClash
  | gaParity
  | profileBad
  deriving DecidableEq, Repr

/-- The discharge exit (R75, R95). -/
inductive DischargeExit where
  | none
  | waiting
  | cooldown
  | released
  | stopped
  deriving DecidableEq, Repr

/-- The retire source (R75, R142). -/
inductive RetireSource where
  | none
  | latch
  | command
  deriving DecidableEq, Repr

/-- The own record (R75), with the bring-up fault pending of R87, the claim voltage the engine holds (R58; `none` before it is
first formed) and the claim kept from a restart to the end of LOADING while the main switch stays closed (R168). The own claim
is Sys2Proof.Machine.ownClaim. -/
structure OwnRecord where
  engine          : Engine
  reason          : WaitReason
  profile         : PowerLevel
  bid             : Option Nat
  window          : Timer
  reservation     : Option Nat
  iSet            : Option Nat
  deadline        : Option Nat
  retryCount      : Nat
  cause           : FaultCause
  subcause        : Option CountedFault
  exit            : DischargeExit
  source          : RetireSource
  carrying        : Bool
  backoff         : Timer
  cooldown        : Timer
  upgradeHold     : Timer
  retryHold       : Timer
  shedWait        : Timer
  excursion       : Bool
  profFullPending : Bool
  bringupFault    : Bool
  vC              : Option Nat
  keptClaim       : Nat
  deriving DecidableEq, Repr

/-! ## Power Path and the held domain -/

/-- The path state (R100). The gates and the main switch latch follow from it. -/
inductive PathState where
  | opened
  | precharge
  | closing
  | closed
  | tripped
  deriving DecidableEq, Repr

/-- The Power Path (R100, R119), with its copies of I_min, V_sag and I_trip (R163). -/
structure PowerPath where
  path        : PathState
  vBulk       : Nat
  iLoad       : Nat
  iSet        : Nat
  deadline    : Nat
  ramp        : Nat
  limit       : Nat
  foldback    : Bool
  half        : Bool
  elapsed     : Nat
  closing     : Timer
  slowCount   : Nat
  overCount   : Nat
  overclaim   : Bool
  discharge   : Timer
  discharged  : Bool
  slowMark    : Bool
  tripPending : Bool
  iMin        : Nat
  vSag        : Nat
  iTrip       : Nat
  deriving DecidableEq, Repr

/-- The held outputs (00_scope, the held domain; R112): RAIL_EN3..0, PAY_RST, LANE_EN1..0, CLK_EN, PROF_FULL, DRAIN and
TAKEOVER, each 1 or `true` where asserted. The main switch latch is closed in path state CLOSED alone (R100). -/
structure HeldOutputs where
  rails    : BitVec 4
  payRst   : Bool
  lanes    : BitVec 2
  clk      : Bool
  profFull : Bool
  drain    : Bool
  takeover : Bool
  deriving DecidableEq, Repr

/-! ## Bring-up Program -/

/-- The action of a step (R120). -/
inductive StepAction where
  | note
  | railOn (n : Fin 4)
  | releaseReset
  | attachLane (g : Fin 2)
  | attachClock
  deriving DecidableEq, Repr

/-- The condition of a step (R120). -/
inductive StepCondition where
  | always
  | powerGood (n : Fin 4)
  | ready
  deriving DecidableEq, Repr

/-- A step record as loaded (R120), its times in milliseconds. -/
structure StepRecord where
  action   : StepAction
  cond     : StepCondition
  paced    : Bool
  dwell    : Nat
  timeout  : Nat
  teardown : Nat
  deriving DecidableEq, Repr

/-- The program state (R123). -/
inductive ProgramState where
  | off
  | forward
  | up
  | teardown
  deriving DecidableEq, Repr

/-- The substate of a forward run (R123). -/
inductive ForwardSub where
  | pace
  | condition
  | dwell
  deriving DecidableEq, Repr

/-- The Bring-up Program (R123), less the latches, which are held outputs, and the step table, which is in the profile.
`foundUp`: the current step of a reconcile run was up when it began (R138). -/
structure BringUp where
  prog      : ProgramState
  sub       : ForwardSub
  reconcile : Bool
  foundUp   : Bool
  pointer   : Nat
  completed : Nat
  stepTimer : Timer
  dwell     : Timer
  teardown  : Timer
  edge      : Bool
  timedOut  : Nat
  deriving DecidableEq, Repr

/-! ## Retire Coordinator -/

/-- The Retire Coordinator (R140), less the retire source (own record) and DRAIN and TAKEOVER (held outputs). `latchSettled`:
the EJECT debouncer has settled since the last reset (R141). -/
structure RetireCoordinator where
  latchOpen    : Bool
  latchSettled : Bool
  force        : Timer
  latchHeld    : Bool
  handover     : Timer
  quiesce      : Timer
  handoverReq  : Bool
  mateGone     : Bool
  deriving DecidableEq, Repr

/-! ## Inputs from the payload -/

/-- The levels of the payload's answers as last told: the debounced STEP and CARRYING, each with whether its debouncer has
settled since the last reset, and the directly read inputs (R1). -/
structure Inputs where
  stepLevel       : Bool
  stepSettled     : Bool
  carryingLevel   : Bool
  carryingSettled : Bool
  railPg          : BitVec 4
  payReady        : Bool
  quiesced        : Bool
  profAck         : Bool
  deriving DecidableEq, Repr

/-! ## Local Port and Indicators -/

/-- The result part of the command status (R178). -/
inductive CmdResult where
  | none
  | accepted
  | refusedState
  | refusedSource
  | unknown
  deriving DecidableEq, Repr

/-- The multi-byte fields of the local port, each with a snapshot buffer (R173, 11_formats). -/
inductive PortField where
  | status
  | fault
  | claim
  | ceff
  | lc
  | vf
  | vmin8
  | vbulk
  | iload
  | feeds
  | events
  | mask
  | cmdstat
  | viewdata
  deriving DecidableEq, Repr

/-- A loaded snapshot buffer. A field with none listed has its buffer at its reset value, all bytes 0 (R183). -/
structure Snapshot where
  field : PortField
  bytes : List Byte
  deriving DecidableEq, Repr

/-- The port transaction in progress (R172, R183): none, a write's or a read's. -/
inductive PortTransaction where
  | none
  | writing
  | reading
  deriving DecidableEq, Repr

/-- The Local Port and Indicators (R183). Flag n of R175 is bit n − 1 of `flags` and of `mask`. `readByte` is the data byte last
returned to a reader. Of the ends of `transaction` the table tells the resets' alone (notes/assumptions/21.md). `lampLit` is the
phase of the blink pattern and `lampTimer` the rest of its half-period (R182). -/
structure LocalPort where
  flags       : BitVec 16
  mask        : BitVec 16
  lastCmd     : Byte
  result      : CmdResult
  offset      : Byte
  viewSel     : Byte
  buffers     : List Snapshot
  readByte    : Byte
  transaction : PortTransaction
  address     : BitVec 7
  lampLit     : Bool
  lampTimer   : Timer
  deriving DecidableEq, Repr

/-! ## Start Control -/

/-- The start state (R159). -/
inductive StartState where
  | unseated
  | settling
  | loading
  | relearn
  | done
  deriving DecidableEq, Repr

/-- The load subcause (R159, R162). -/
inductive LoadSubcause where
  | none
  | noResponse
  | format
  | version
  | checksum
  | steps
  deriving DecidableEq, Repr

/-- The values of a valid profile image, brought into range (R56, R120, R163). -/
structure ProfileData where
  cls        : Fin 4
  retryLimit : Nat
  k          : Nat
  pFull      : Nat
  pRed       : Option Nat
  vPlan      : Nat
  vSag       : Nat
  f          : Nat
  rsv        : Nat
  u          : Nat
  cB         : Nat
  iMax       : Nat
  iMin       : Nat
  pPk        : Nat
  iTrip      : Nat
  tHandover  : Nat
  tQuiesce   : Nat
  mate       : Option Slot
  steps      : List StepRecord
  checksum   : BitVec 16
  deriving DecidableEq, Repr

/-- Start Control (R159). `seated` is the debounced level of SEATED; `profile` is `none` while the image is invalid. -/
structure StartControl where
  start     : StartState
  seated    : Bool
  slot      : Option Slot
  profile   : Option ProfileData
  attempts  : Nat
  settle    : Timer
  attempt   : Timer
  relearn   : Timer
  forcedOff : Bool
  loadSub   : LoadSubcause
  deriving DecidableEq, Repr

/-! ## The whole station -/

/-- The station: its nine blocks, the held outputs, the inputs; `freeCount`, the model's own counter of free values used; and
`pending`, the commands waiting, first in, first out. -/
structure State where
  fs        : FeedSupervisor
  sli       : LineInterface
  sv        : ShelfView
  ae        : OwnRecord
  pp        : PowerPath
  held      : HeldOutputs
  bp        : BringUp
  rc        : RetireCoordinator
  inp       : Inputs
  lpi       : LocalPort
  sc        : StartControl
  freeCount : Nat
  pending   : List Instr
  deriving DecidableEq, Repr

/-- The reasons for a fault. No command of the manual stops the station, so no meaning raises one: the type has no
constructor, and that a fault never comes is a fact of the type (safe). -/
inductive Fault where
  deriving DecidableEq, Repr

/-- The reasons a command is refused. -/
inductive Refusal where
  /-- Raised by exec for a row whose meaning is not written (none is left so). Safe: the machine stops where the station goes on. -/
  | notModelled (mnemonic : String)
  /-- Raised by the three rows that Instr.wellFormed checks, where the operands are not ones the row can have: an image that is
  not 110 bytes, a code that does name a command, an offset that does take writes. Such a command is none of the table's. Safe:
  the machine stops, and nothing can be proved of what follows. -/
  | illFormed
  deriving DecidableEq, Repr

/-! ## Reset values, block by block -/

/-- A feed that reads 0 dV at an initial classification: ABSENT, nothing pending (R46). -/
def Feed.reset : Feed := { sample := 0, state := .absent, pending := none, count := 0 }

/-- The Feed Supervisor after an initial classification of two feeds at 0 dV: no feed is GOOD, so the ride-through timer runs
(R46, R51, R55). -/
def FeedSupervisor.reset : FeedSupervisor :=
  { a := Feed.reset, b := Feed.reset, vF := 0, window := [0, 0, 0, 0, 0, 0, 0, 0], ride := some 10, uv := false }

/-- R42, the columns Power-on reset and Controller restart. -/
def LineInterface.reset : LineInterface :=
  { line := .idle, gap := 0, gapSeen := false, deaf := false, queue := [], inFlight := none, clashCount := 0,
    clashWait := .stopped, errors := 0, quality := some 1000, impaired := false, periodic := none, leaveCopy := none }

/-- R21: empty and closed. -/
def ShelfView.empty : ShelfView := { opened := false, table := [] }

/-- R75, the reset columns. -/
def OwnRecord.reset : OwnRecord :=
  { engine := .none, reason := .none, profile := .reduced, bid := none, window := none, reservation := none, iSet := none,
    deadline := none, retryCount := 0, cause := .none, subcause := none, exit := .none, source := .none, carrying := false,
    backoff := none, cooldown := none, upgradeHold := none, retryHold := none, shedWait := none, excursion := false,
    profFullPending := false, bringupFault := false, vC := none, keptClaim := 0 }

/-- R119, the column Power-on reset, with the samples of the reset event at 0: the path is OPEN and the discharged condition
holds. The copies of I_min, V_sag and I_trip have no reset value in the manual (notes/assumptions/6.md). -/
def PowerPath.reset : PowerPath :=
  { path := .opened, vBulk := 0, iLoad := 0, iSet := 0, deadline := 0, ramp := 0, limit := 0, foldback := false, half := false,
    elapsed := 0, closing := none, slowCount := 0, overCount := 0, overclaim := false, discharge := none, discharged := true,
    slowMark := false, tripPending := false, iMin := 0, vSag := 0, iTrip := 0 }

/-- Every held output deasserted (R112, R159). -/
def HeldOutputs.deasserted : HeldOutputs :=
  { rails := 0, payRst := false, lanes := 0, clk := false, profFull := false, drain := false, takeover := false }

/-- R123, the column Power-on reset. -/
def BringUp.reset : BringUp :=
  { prog := .off, sub := .pace, reconcile := false, foundUp := false, pointer := 0, completed := 0, stepTimer := none,
    dwell := none, teardown := none, edge := false, timedOut := 0 }

/-- R140, the column Power-on reset; the latch level before the first settling is the model's (notes/assumptions/6.md). -/
def RetireCoordinator.reset : RetireCoordinator :=
  { latchOpen := false, latchSettled := false, force := none, latchHeld := false, handover := none, quiesce := none,
    handoverReq := false, mateGone := false }

/-- Input levels, all low, before anything is told of them (notes/assumptions/6.md). -/
def Inputs.reset : Inputs :=
  { stepLevel := false, stepSettled := false, carryingLevel := false, carryingSettled := false, railPg := 0, payReady := false,
    quiesced := false, profAck := false }

/-- R183, the column Power-on reset, with PADR0..1 at 0; the lamp is dark. -/
def LocalPort.reset : LocalPort :=
  { flags := 0, mask := 0xFFFF, lastCmd := 0, result := .none, offset := 0, viewSel := 0, buffers := [], readByte := 0,
    transaction := .none, address := 0x58, lampLit := true, lampTimer := none }

/-- R159, the column Power-on reset, with SEATED high. -/
def StartControl.reset : StartControl :=
  { start := .unseated, seated := false, slot := none, profile := none, attempts := 0, settle := none, attempt := none,
    relearn := none, forcedOff := false, loadSub := .none }

/-- The station right after a power-on reset (R159) of an unseated part whose analogue inputs read 0 and whose PADR pins are
low; POWER_ON_RESET with other readings gives the other states a power-on reset can leave. -/
def State.reset : State :=
  { fs := FeedSupervisor.reset, sli := LineInterface.reset, sv := ShelfView.empty, ae := OwnRecord.reset, pp := PowerPath.reset,
    held := HeldOutputs.deasserted, bp := BringUp.reset, rc := RetireCoordinator.reset, inp := Inputs.reset,
    lpi := LocalPort.reset, sc := StartControl.reset, freeCount := 0, pending := [] }

end Sys2Proof.Machine
end

