-- ==== Sys2Proof/Machine/Flags.lean ====
section
/-! DEFINITION. The sixteen sticky event flags (R175), ALERT (R177), and the flag writes (R176, R177). -/

namespace Sys2Proof.Machine

/-- The event flags, in the order of R175. -/
inductive EventFlag where
  | phase
  | fault
  | profile
  | held
  | quiesceTimeout
  | dischargeSlow
  | capacityMismatch
  | mateMismatch
  | line
  | peerExpired
  | overclaim
  | overcommit
  | denied
  | feed
  | profileClamped
  | restarted
  deriving DecidableEq, Repr

/-- The bit of a flag: flag n of R175 stands in bit n − 1. -/
def flagBit : EventFlag → Nat
  | .phase => 0
  | .fault => 1
  | .profile => 2
  | .held => 3
  | .quiesceTimeout => 4
  | .dischargeSlow => 5
  | .capacityMismatch => 6
  | .mateMismatch => 7
  | .line => 8
  | .peerExpired => 9
  | .overclaim => 10
  | .overcommit => 11
  | .denied => 12
  | .feed => 13
  | .profileClamped => 14
  | .restarted => 15

/-- The flag word with one flag set. -/
def flagWord (f : EventFlag) : BitVec 16 := 1#16 <<< flagBit f

/-- Raises an event: its flag is set, and stays set if it was (R175). -/
def raise (f : EventFlag) (s : State) : State := { s with lpi := { s.lpi with flags := s.lpi.flags ||| flagWord f } }

/-- Raises an event where a condition holds. -/
def raiseIf (c : Bool) (f : EventFlag) (s : State) : State := if c then raise f s else s

/-- Whether a flag is set. -/
def flagSet (f : EventFlag) (s : State) : Bool := s.lpi.flags.getLsbD (flagBit f)

/-- ALERT is asserted while at least one flag is both set and enabled (R177). -/
def alertAsserted (s : State) : Bool := s.lpi.flags &&& s.lpi.mask != 0

/-- A byte placed at flags 1..8 or, with `high`, at flags 9..16 (11_formats, EVENTS and MASK). -/
def flagByte (high : Bool) (v : Byte) : BitVec 16 := if high then v ++ (0 : BitVec 8) else (0 : BitVec 8) ++ v

/-- The flags after a byte written to EVENTS: each flag written as 1 is cleared, every other stays (R176). -/
def flagsCleared (flags : BitVec 16) (high : Bool) (v : Byte) : BitVec 16 := flags &&& ~~~ flagByte high v

/-- The mask after a byte written to MASK: that byte of it is replaced (R177). -/
def maskWritten (mask : BitVec 16) (high : Bool) (v : Byte) : BitVec 16 :=
  (mask &&& ~~~ flagByte high 0xFF) ||| flagByte high v

end Sys2Proof.Machine
end

