-- ==== Sys2Proof/Machine/Operands.lean ====
section
/-! DEFINITION. The forms in which operands reach the station: the notice frame (R184, R185), the entry a notice decodes to
(R4), and the profile memory image with its step records (R121, R163, R186, R187). -/

namespace Sys2Proof.Machine

/-! ## The notice frame -/

/-- The 3-bit code of a kind (11_formats, The notice frame). -/
def kindCode : NoticeKind → BitVec 3
  | .standing => 0
  | .bid => 1
  | .yield => 2
  | .leave => 3

/-- The 3-bit code of a phase (11_formats). -/
def phaseCode : Phase → BitVec 3
  | .waiting => 0
  | .precharging => 1
  | .bringup => 2
  | .admitted => 3
  | .retiring => 4
  | .stopped => 5

/-- Kind codes 4..7 are invalid (R31). -/
def kindOfCode (c : BitVec 3) : Option NoticeKind :=
  match c.toNat with
  | 0 => some .standing
  | 1 => some .bid
  | 2 => some .yield
  | 3 => some .leave
  | _ => none

/-- Phase codes 6..7 are invalid (R31). -/
def phaseOfCode (c : BitVec 3) : Option Phase :=
  match c.toNat with
  | 0 => some .waiting
  | 1 => some .precharging
  | 2 => some .bringup
  | 3 => some .admitted
  | 4 => some .retiring
  | 5 => some .stopped
  | _ => none

/-- A profile bit is 1 for full (11_formats). -/
def levelIsFull : PowerLevel → Bool
  | .full => true
  | .reduced => false

/-- The 55 bits from the rank field to the mate field, first sent in the most significant place (11_formats, R184). -/
def frameBody (k : NoticeKind) (n : Notice) : BitVec 55 :=
  BitVec.ofFin (w := 2) n.cls ++ BitVec.ofFin (w := 5) n.slot ++ kindCode k ++ phaseCode n.phase
    ++ BitVec.ofBool (levelIsFull n.profile) ++ BitVec.ofBool n.bidOpen ++ BitVec.ofBool n.carrying ++ BitVec.ofBool n.handoverReq
    ++ BitVec.ofFin (w := 10) n.claim ++ BitVec.ofFin (w := 10) n.amount ++ BitVec.ofFin (w := 12) n.capacity
    ++ BitVec.ofBool n.mate.isSome ++ BitVec.ofFin (w := 5) (n.mate.getD 0)

/-- One shift of the check register: the generator x^8 + x^2 + x + 1, neither reflected nor complemented (R185). -/
def crcStep (r : BitVec 8) (bit : Bool) : BitVec 8 :=
  if r.msb != bit then (r <<< 1) ^^^ 0x07 else r <<< 1

/-- The CRC-8 of the 55 bits, first sent first, from a register of 0 (R185). -/
def crc8 (body : BitVec 55) : BitVec 8 :=
  (List.range 55).foldl (fun r i => crcStep r (body.getMsbD i)) 0

/-- The 64 bits of a frame, the dominant start bit in the most significant place (R184). -/
def encodeFrame (k : NoticeKind) (n : Notice) : BitVec 64 :=
  BitVec.ofBool false ++ frameBody k n ++ crc8 (frameBody k n)

/-- The bits from the rank field to the mate field of a sampled frame. -/
def bodyOfFrame (bits : BitVec 64) : BitVec 55 := bits.extractLsb' 8 55

/-- The check field of a sampled frame. -/
def checkOfFrame (bits : BitVec 64) : BitVec 8 := bits.extractLsb' 0 8

/-- The fields of a sampled frame whose phase code is that of `phase` (R184): a mate field with its present bit 0 gives an absent
mate, whatever its slot bits hold. -/
def contentsOfBody (phase : Phase) (b : BitVec 55) : Notice :=
  { cls := (b.extractLsb' 53 2).toFin
    slot := (b.extractLsb' 48 5).toFin
    phase := phase
    profile := if b.getLsbD 41 then .full else .reduced
    bidOpen := b.getLsbD 40
    carrying := b.getLsbD 39
    handoverReq := b.getLsbD 38
    claim := (b.extractLsb' 28 10).toFin
    amount := (b.extractLsb' 18 10).toFin
    capacity := (b.extractLsb' 6 12).toFin
    mate := if b.getLsbD 5 then some (b.extractLsb' 0 5).toFin else none }

/-- A frame that has passed its end check is valid where its check field matches, its kind is 0..3 and its phase is 0..5 (R31);
then it gives its kind and its contents. -/
def decodeFrame (bits : BitVec 64) : Option (NoticeKind × Notice) :=
  let b := bodyOfFrame bits
  if crc8 b = checkOfFrame bits then
    match kindOfCode (b.extractLsb' 45 3), phaseOfCode (b.extractLsb' 42 3) with
    | some k, some p => some (k, contentsOfBody p b)
    | _, _ => none
  else none

/-! ## The entry a notice decodes to -/

/-- A capacity is valid in 50..4000 cu (R3, R4). -/
def capacityValid (c : Fin 4096) : Bool := 50 ≤ c.val && c.val ≤ 4000

/-- A mate field that names the sender's own slot is taken as an absent mate (R4). -/
def mateTaken (n : Notice) : Option Slot :=
  match n.mate with
  | some m => if m = n.slot then none else some m
  | none => none

/-- The bid a notice leaves in its sender's entry: from BID_OPEN in a STANDING (R5), present in a BID (R6), absent in a YIELD
(R7). -/
def bidTaken (k : NoticeKind) (n : Notice) : Option (Fin 1024) :=
  match k with
  | .standing => if n.bidOpen then some n.amount else none
  | .bid => some n.amount
  | .yield => none
  | .leave => none

/-- The entry written from a frame: every field of R3, FRESH, age 0 (R4, R5, R6, R7). -/
def entryOf (k : NoticeKind) (n : Notice) : Entry :=
  { slot := n.slot, cls := n.cls, phase := n.phase, profile := n.profile, bidOpen := n.bidOpen, carrying := n.carrying,
    handoverReq := n.handoverReq, claim := n.claim, amount := n.amount, capacity := n.capacity,
    capValid := capacityValid n.capacity, mate := mateTaken n, bid := bidTaken k n, age := 0, stale := false }

/-- The rank of an entry: class × 32 + slot (R3). -/
def Entry.rank (e : Entry) : Nat := e.cls.val * 32 + e.slot.val

/-! ## The profile memory image -/

/-- The byte at an address of the image. -/
def imageByte (img : List Byte) (i : Nat) : Nat := (img.getD i 0).toNat

/-- A 16-bit value, its most significant byte at the lower address (11_formats, The profile memory image). -/
def imageWord (img : List Byte) (i : Nat) : Nat := imageByte img i * 256 + imageByte img (i + 1)

/-- The byte sum of bytes 0..107, modulo 65536 (R186). -/
def imageSum (img : List Byte) : Nat := ((img.take 108).foldl (fun acc b => acc + b.toNat) 0) % 65536

/-- The action an action byte codes, where it is valid (R187). -/
def actionOfByte (b : Nat) : Option StepAction :=
  let op := b % 16
  match b / 16 with
  | 0 => if op = 0 then some .note else none
  | 1 => if h : op < 4 then some (.railOn ⟨op, h⟩) else none
  | 2 => if op = 0 then some .releaseReset else none
  | 3 => if h : op < 2 then some (.attachLane ⟨op, h⟩) else none
  | 4 => if op = 0 then some .attachClock else none
  | _ => none

/-- The condition that byte 1 of a record codes, where it is valid; its bit 7 is the pacing (R187). -/
def conditionOfByte (b : Nat) : Option StepCondition :=
  let op := b % 16
  match b / 16 % 8 with
  | 0 => if op = 0 then some .always else none
  | 1 => if h : op < 4 then some (.powerGood ⟨op, h⟩) else none
  | 2 => if op = 0 then some .ready else none
  | _ => none

/-- A value brought to the nearer end of a range, and whether it was out of range (R163). -/
def clampTo (lo hi v : Nat) : Nat × Bool := (max lo (min v hi), v < lo || hi < v)

/-- Record n (from 1) of the image at bytes 30 + 6 × n on, with its timeout brought into 10..5000 ms (R121, R187); the second
part says whether the timeout was out of range. -/
def stepAt (img : List Byte) (n : Nat) : Option (StepRecord × Bool) :=
  let at0 := 30 + 6 * n
  match actionOfByte (imageByte img at0), conditionOfByte (imageByte img (at0 + 1)) with
  | some a, some c =>
    let t := clampTo 10 5000 (imageWord img (at0 + 3))
    some ({ action := a, cond := c, paced := 128 ≤ imageByte img (at0 + 1), dwell := 4 * imageByte img (at0 + 2),
            timeout := t.1, teardown := 4 * imageByte img (at0 + 5) }, t.2)
  | _, _ => none

/-- Records 1 to n, where every one of them is valid (R186, Steps). -/
def stepsUpTo (img : List Byte) : Nat → Option (List StepRecord × Bool)
  | 0 => some ([], false)
  | n + 1 =>
    match stepsUpTo img n, stepAt img (n + 1) with
    | some (rs, c), some (r, c') => some (rs ++ [r], c || c')
    | _, _ => none

/-- A step whose action repeats that of an earlier step is loaded as NOTE; NOTE repeats nothing (R121). The second part says
whether any step was so replaced. -/
def withoutRepeats (earlier : List StepAction) : List StepRecord → List StepRecord × Bool
  | [] => ([], false)
  | r :: rest =>
    let rep := r.action ≠ .note && earlier.contains r.action
    let tail := withoutRepeats (r.action :: earlier) rest
    ((if rep then { r with action := .note } else r) :: tail.1, rep || tail.2)

/-- P_red as taken, beside the P_full taken (R163): 0 is absent; P_full or more is absent; 1..9 W is 10 W, or absent where P_full
is 10 W. -/
def pRedTaken (pFull stored : Nat) : Option Nat × Bool :=
  if stored = 0 then (none, false)
  else if pFull ≤ stored then (none, true)
  else if stored < 10 then (if pFull = 10 then none else some 10, true)
  else (some stored, false)

/-- V_plan as taken (R163): 0 is the default of 400 dV, without a mark. -/
def vPlanTaken (stored : Nat) : Nat × Bool := if stored = 0 then (400, false) else clampTo 360 600 stored

/-- The mate byte: bit 7 present, bits 4..0 the slot (R186). -/
def mateOfByte (b : Nat) : Option Slot := if 128 ≤ b then some (Fin.ofNat 32 b) else none

/-- The image's values brought into range, with whether any value or step was replaced (R121, R163). -/
def profileOfImage (img : List Byte) (stored : List StepRecord) (timeoutsClamped : Bool) : ProfileData × Bool :=
  let pFull := clampTo 10 1500 (imageWord img 6)
  let pRed := pRedTaken pFull.1 (imageWord img 8)
  let vPlan := vPlanTaken (imageWord img 10)
  let vSag := clampTo 360 500 (imageWord img 12)
  let f := clampTo 50 4000 (imageWord img 14)
  let rsv := clampTo 0 500 (imageWord img 16)
  let u := clampTo 0 200 (imageWord img 18)
  let k := clampTo 1 4 (imageByte img 5)
  let cB := clampTo 100 20000 (imageWord img 20)
  let iMax := clampTo 10 511 (imageWord img 22)
  let iMin := clampTo 5 iMax.1 (imageWord img 24)
  let pPk := clampTo 20 800 (imageWord img 26)
  let iTrip := clampTo 10 1023 (imageWord img 28)
  let retry := clampTo 0 3 (imageByte img 4)
  let tHandover := clampTo 100 10000 (imageWord img 30)
  let tQuiesce := clampTo 100 60000 (imageWord img 32)
  let steps := withoutRepeats [] stored
  ({ cls := Fin.ofNat 4 (imageByte img 3), retryLimit := retry.1, k := k.1, pFull := pFull.1, pRed := pRed.1, vPlan := vPlan.1,
     vSag := vSag.1, f := f.1, rsv := rsv.1, u := u.1, cB := cB.1, iMax := iMax.1, iMin := iMin.1, pPk := pPk.1,
     iTrip := iTrip.1, tHandover := tHandover.1, tQuiesce := tQuiesce.1, mate := mateOfByte (imageByte img 34),
     steps := steps.1, checksum := BitVec.ofNat 16 (imageWord img 108) },
   pFull.2 || pRed.2 || vPlan.2 || vSag.2 || f.2 || rsv.2 || u.2 || k.2 || cB.2 || iMax.2 || iMin.2 || pPk.2 || iTrip.2
     || retry.2 || tHandover.2 || tQuiesce.2 || timeoutsClamped || steps.2)

/-- The checks of a completed attempt, in order (R162, R186): the first that fails gives the load subcause; an image that passes
them all gives its profile and whether PROFILE_CLAMPED is due. -/
def loadImage (img : List Byte) : Except LoadSubcause (ProfileData × Bool) :=
  if imageByte img 0 ≠ 0xC4 || imageByte img 1 ≠ 0x60 then .error .format
  else if imageByte img 2 ≠ 0x01 then .error .version
  else if imageSum img ≠ imageWord img 108 then .error .checksum
  else
    let count := imageByte img 35
    if count = 0 || 12 < count then .error .steps
    else
      match stepsUpTo img count with
      | some (rs, c) => .ok (profileOfImage img rs c)
      | none => .error .steps

end Sys2Proof.Machine
end

