-- ==== Sys2Proof/Machine/Ops.lean ====
section
/-! DEFINITION. The named operations that several blocks share: durations, the own identity, the sums of the shelf view, the
budget arithmetic's claims, the announced phase, the requests for notices, and the settling of an event's consequences at its
end. -/

namespace Sys2Proof.Machine

/-! ## Durations, in milliseconds -/

/-- Settle timer (R160). -/
def settleMs : Nat := 100
/-- Attempt timer (R162). -/
def attemptMs : Nat := 20
/-- Relearn timer (R165). -/
def relearnMs : Nat := 250
/-- Quality interval (R32). -/
def qualityMs : Nat := 1000
/-- Periodic notice timer (R40). -/
def periodicMs : Nat := 50
/-- Congestion check (R38). -/
def congestionMs : Nat := 250
/-- Age at which an entry becomes STALE (R12). -/
def staleMs : Nat := 200
/-- Age at which an entry is removed (R13). -/
def expireMs : Nat := 1000
/-- Ride-through timer (R51). -/
def rideMs : Nat := 10
/-- Bid window (R81, R91). -/
def windowMs : Nat := 120
/-- Cooldown (R96). -/
def cooldownMs : Nat := 5000
/-- Shed wait (R90). -/
def shedWaitMs : Nat := 500
/-- Upgrade hold (R73). -/
def upgradeHoldMs : Nat := 10000
/-- Closing timer (R107). -/
def closingMs : Nat := 5
/-- Discharge timer (R118). -/
def dischargeMs : Nat := 2000
/-- Force timer (R141). -/
def forceMs : Nat := 10000
/-- Length of a completed gap, in bit times (R23). -/
def gapBits : Nat := 12

/-- Whether a timer runs. -/
def running (t : Timer) : Bool := t.isSome

/-- A timer has run out and its expiry is not yet taken. -/
def ranOut (t : Timer) : Bool := decide (t = some 0)

/-! ## The own identity -/

/-- The own rank, class × 32 + slot (R163); 0 while no slot or no profile is known. -/
def ownRank (s : State) : Nat :=
  match s.sc.profile, s.sc.slot with
  | some p, some sl => p.cls.val * 32 + sl.val
  | _, _ => 0

/-- The backoff and the upgrade retry hold: 200 + 10 × rank ms (R85, R93). -/
def backoffMs (s : State) : Nat := 200 + 10 * ownRank s

/-- The configured mate as the Retire Coordinator takes it: the own slot is no mate (R140). -/
def ownMate (s : State) : Option Slot :=
  match s.sc.profile with
  | some p =>
    match p.mate with
    | some m => if s.sc.slot = some m then none else some m
    | none => none
  | none => none

/-- The main switch latch is closed in CLOSED alone (R100): what the manual calls MAIN_G closed. -/
def mainClosed (s : State) : Bool := decide (s.pp.path = .closed)

/-- Whether a gate is on (R100). -/
def gateOn (s : State) : Bool := decide (s.pp.path = .precharge ∨ s.pp.path = .closing ∨ s.pp.path = .closed)

/-! ## The shelf view's table and its sums -/

/-- The entry of a slot. -/
def lookup (t : List Entry) (sl : Slot) : Option Entry := t.find? (fun e => decide (e.slot = sl))

/-- The table with an entry created or replaced, in ascending slot (R2, R5). -/
def insertEntry (e : Entry) : List Entry → List Entry
  | [] => [e]
  | x :: xs => if e.slot < x.slot then e :: x :: xs else if e.slot = x.slot then e :: xs else x :: insertEntry e xs

/-- The table without a slot's entry (R8, R13). -/
def removeEntry (sl : Slot) (t : List Entry) : List Entry := t.filter (fun e => decide (e.slot ≠ sl))

/-- The phases whose claims are load: PRECHARGING, BRINGUP, ADMITTED and RETIRING (R16). -/
def phaseLoads : Phase → Bool
  | .waiting => false
  | .precharging => true
  | .bringup => true
  | .admitted => true
  | .retiring => true
  | .stopped => false

/-- The claim an entry adds to the committed load (R16). -/
def loadOf (e : Entry) : Nat := if phaseLoads e.phase then e.claim.val else 0

/-- L_c (R16). -/
def committedLoad (t : List Entry) : Nat := (t.map loadOf).sum

/-- N_pre (R16). -/
def prechargingCount (t : List Entry) : Nat := (t.filter (fun e => decide (e.phase = .precharging))).length

/-- C_min: the least of F and every capacity marked valid (R17). -/
def cMin (f : Nat) (t : List Entry) : Nat := t.foldl (fun m e => if e.capValid then min m e.capacity.val else m) f

/-- C_eff: C_min less RSV, floored at 0 (R17). -/
def cEff (p : ProfileData) (t : List Entry) : Nat := cMin p.f t - p.rsv

/-- The amount of an entry's bid where the entry outranks `rank` (R19). -/
def betterBid (rank : Nat) (e : Entry) : Option Nat := if e.rank < rank then e.bid.map (·.val) else none

/-- B_better (R19). -/
def betterBids (rank : Nat) (t : List Entry) : Nat := (t.map (fun e => (betterBid rank e).getD 0)).sum

/-- NB_better: the better bids of entries in WAITING (R19). -/
def betterInitialBids (rank : Nat) (t : List Entry) : Nat :=
  (t.filter (fun e => (betterBid rank e).isSome && decide (e.phase = .waiting))).length

/-- The capacity mismatch condition (R18). -/
def capacityMismatch (s : State) : Bool :=
  match s.sc.profile with
  | some p => s.sv.table.any (fun e => e.capValid && e.capacity.val != p.f)
  | none => false

/-- The mate mismatch condition (R20), on the mate the own profile configures. -/
def mateMismatch (s : State) : Bool :=
  match s.sc.profile with
  | some p =>
    match p.mate with
    | some m =>
      match lookup s.sv.table m with
      | some e => decide (e.mate = none ∨ e.mate ≠ s.sc.slot)
      | none => false
    | none => false
  | none => false

/-- The entry of the configured mate (R145, R154, R155). -/
def mateEntry (s : State) : Option Entry := (ownMate s).bind (lookup s.sv.table)

/-! ## The feeds as neighbours read them -/

/-- V_min8: the least of the eight window values (R48). -/
def vMin8 (s : State) : Nat := s.fs.window.foldl min 1023

/-- Whether a feed is in a state. -/
def Feed.isIn (f : Feed) (st : FeedState) : Bool := decide (f.state = st)

/-- At least one feed is GOOD. -/
def anyGood (fs : FeedSupervisor) : Bool := fs.a.isIn .good || fs.b.isIn .good

/-- The feed overvoltage condition: either feed is HIGH (R52). -/
def overvoltage (fs : FeedSupervisor) : Bool := fs.a.isIn .high || fs.b.isIn .high

/-- Feeds fit: at least one feed GOOD and neither HIGH (R53). -/
def feedsFit (fs : FeedSupervisor) : Bool := anyGood fs && !overvoltage fs

/-- The single-feed indication: one feed GOOD and the other ABSENT (R50). -/
def singleFeed (fs : FeedSupervisor) : Bool :=
  (fs.a.isIn .good && fs.b.isIn .absent) || (fs.b.isIn .good && fs.a.isIn .absent)

/-! ## Claims -/

/-- Division rounded up (R57). -/
def ceilDiv (a b : Nat) : Nat := (a + b - 1) / b

/-- V_c = min(V_plan, max(V_min8, 360)) (R58). -/
def claimVoltage (p : ProfileData) (vMin : Nat) : Nat := min p.vPlan (max vMin 360)

/-- S_full (R59). -/
def sFull (p : ProfileData) (vC : Nat) : Nat := ceilDiv (100 * p.pFull) vC

/-- S_red, absent where P_red is (R59). -/
def sRed (p : ProfileData) (vC : Nat) : Option Nat := p.pRed.map (fun w => ceilDiv (100 * w) vC)

/-- The steady claim of a profile level. A reduced level without P_red is claimed by no reachable state; it counts as full. -/
def steadyClaim (p : ProfileData) (vC : Nat) : PowerLevel → Nat
  | .full => sFull p vC
  | .reduced => (sRed p vC).getD (sFull p vC)

/-- The steady claim of the claimed profile at the V_c the engine holds; 0 where none has been formed. -/
def ownSteady (s : State) : Nat :=
  match s.sc.profile, s.ae.vC with
  | some p, some v => steadyClaim p v s.ae.profile
  | _, _ => 0

/-- The own claim (R60). With no engine state of its own, a station whose main switch is closed holds the claim of before the
restart through LOADING and the steady claim of the profile PROF_FULL shows in RELEARN (R168). -/
def ownClaim (s : State) : Nat :=
  match s.ae.engine with
  | .none =>
    match s.pp.path, s.sc.start with
    | .closed, .relearn => ownSteady s
    | .closed, _ => s.ae.keptClaim
    | _, _ => 0
  | .waiting => 0
  | .bidding => 0
  | .backoff => 0
  | .powering => s.ae.reservation.getD 0
  | .bringup => ownSteady s
  | .admitted _ => ownSteady s
  | .retiring _ => ownSteady s
  | .discharging => 0
  | .cooldown => 0
  | .released => 0
  | .stopped => 0

/-! ## What is announced -/

/-- The causes of STOPPED in which the station is silent (R39, R97). -/
def silentCause : FaultCause → Bool
  | .slotClash => true
  | .gaParity => true
  | .profileBad => true
  | _ => false

/-- The silent states (R39). -/
def silent (s : State) : Bool :=
  match s.sc.start with
  | .done => decide (s.ae.engine = .stopped) && silentCause s.ae.cause
  | _ => true

/-- The phase each engine state announces (R76). -/
def phaseOf : Engine → Option Phase
  | .none => none
  | .waiting => some .waiting
  | .bidding => some .waiting
  | .backoff => some .waiting
  | .powering => some .precharging
  | .bringup => some .bringup
  | .admitted _ => some .admitted
  | .retiring _ => some .retiring
  | .discharging => some .stopped
  | .cooldown => some .waiting
  | .released => some .stopped
  | .stopped => some .stopped

/-- The announced phase; none while the station is silent (R39, R97, 11_formats, STATUS 0x03). -/
def announcedPhase (s : State) : Option Phase := if silent s then none else phaseOf s.ae.engine

/-- BID_OPEN is set while the own record holds an open bid (R33). -/
def bidOpen (s : State) : Bool := s.ae.bid.isSome

/-! ## Requests for notices -/

/-- Whether a notice of a kind is queued. -/
def isQueued (k : NoticeKind) (q : List Queued) : Bool := q.any (fun x => decide (x.kind = k))

/-- The queue without the notices of a kind. -/
def dequeue (k : NoticeKind) (q : List Queued) : List Queued := q.filter (fun x => decide (x.kind ≠ k))

/-- A LEAVE is queued or in flight (R34). -/
def leaveUnderway (l : LineInterface) : Bool :=
  isQueued .leave l.queue || (match l.inFlight with | some f => decide (f.kind = .leave) | none => false)

/-- A newly requested notice at the tail, unless one of its kind is queued (R34). -/
def joinTail (k : NoticeKind) (q : List Queued) : List Queued :=
  if isQueued k q then q else q ++ [{ kind := k, waited := 0, congested := false }]

/-- The queue after a request for a STANDING, a BID or a YIELD (R34, R35). -/
def queueAfter (k : NoticeKind) (q : List Queued) : List Queued :=
  match k with
  | .yield => if isQueued .bid q then dequeue .bid q else joinTail .yield q
  | k => joinTail k q

/-- A request for a STANDING, a BID or a YIELD: discarded in a silent state (R39) and beside a LEAVE queued or in flight (R34). -/
def requestNotice (k : NoticeKind) (s : State) : State :=
  if silent s || leaveUnderway s.sli then s else { s with sli := { s.sli with queue := queueAfter k s.sli.queue } }

/-- Takes a change of the own record that may change the announced phase: where it does, PHASE is raised and a prompt STANDING
requested (R41, R76). The first announcement after a silent state is such a change. -/
def announceFrom (before after : State) : State :=
  match announcedPhase after with
  | some p => if announcedPhase before = some p then after else requestNotice .standing (raise .phase after)
  | none => after

/-! ## Bytes written to the local port -/

/-- A byte written at a register's offset is taken (R172): an addressed one always, a following one while a write transaction is in
progress and its current offset is the register's. After a restart none is, and the byte is discarded (R179). -/
def portTakes (via : Addressing) (o : Byte) (s : State) : Bool :=
  match via with
  | .addressed => true
  | .following => decide (s.lpi.transaction = .writing) && decide (s.lpi.offset = o)

/-- The effect of a byte written at a register's offset: an event of the byte's acknowledge (R172); none where it is not taken. -/
def writeByte (b : PortByte) (o : Byte) (effect : State → State) (s : State) : State :=
  if portTakes b.via o s then effect s else s

/-! ## The status lamp -/

/-- The patterns of the status lamp (R182). -/
inductive LampPattern where
  | dark
  | amberBlink1
  | greenBlink2
  | greenSteady
  | alternate1
  | amberBlink4
  | amberSteady
  deriving DecidableEq, Repr

/-- The pattern of a station state (R182). -/
def lampPattern (s : State) : LampPattern :=
  match s.ae.engine with
  | .none => .dark
  | .waiting => .amberBlink1
  | .bidding => .amberBlink1
  | .backoff => .amberBlink1
  | .cooldown => .amberBlink1
  | .powering => .greenBlink2
  | .bringup => .greenBlink2
  | .admitted _ => match s.ae.profile with | .full => .greenSteady | .reduced => .alternate1
  | .retiring .held => .amberBlink4
  | .retiring .handover => .greenBlink2
  | .retiring .draining => .greenBlink2
  | .retiring .teardown => .greenBlink2
  | .discharging => if s.ae.exit = .released then .greenBlink2 else .amberBlink1
  | .released => if s.pp.discharged then .dark else .greenBlink2
  | .stopped => .amberSteady

/-- The half-period of a pattern that changes; none for a steady or a dark one (R182). -/
def halfPeriod : LampPattern → Timer
  | .dark => none
  | .amberBlink1 => some 500
  | .greenBlink2 => some 250
  | .greenSteady => none
  | .alternate1 => some 500
  | .amberBlink4 => some 125
  | .amberSteady => none

/-- STAT_G (R182). -/
def statGreen (s : State) : Bool :=
  match lampPattern s with
  | .greenBlink2 => s.lpi.lampLit
  | .greenSteady => true
  | .alternate1 => s.lpi.lampLit
  | _ => false

/-- STAT_A (R182). -/
def statAmber (s : State) : Bool :=
  match lampPattern s with
  | .amberBlink1 => s.lpi.lampLit
  | .amberBlink4 => s.lpi.lampLit
  | .amberSteady => true
  | .alternate1 => !s.lpi.lampLit
  | _ => false

/-- The SAFE lamp: RELEASED with the discharged condition holding (R181). -/
def safeLamp (s : State) : Bool := decide (s.ae.engine = .released) && s.pp.discharged

/-- The FAULT pin: asserted in STOPPED, whatever the cause (R180). -/
def faultPin (s : State) : Bool := decide (s.ae.engine = .stopped)

/-- PCH_G (R100). -/
def prechargeGate (s : State) : Bool := decide (s.pp.path = .precharge ∨ s.pp.path = .closing)

/-- MAIN_G, ramping or on (R100). -/
def mainGate (s : State) : Bool := decide (s.pp.path = .closing ∨ s.pp.path = .closed)

/-! ## The end of an event -/

/-- The changes of the own record, other than of the announced phase, that request a prompt STANDING (R41): a rise of the own
claim, a change of the claimed profile, of BID_OPEN, of CARRYING or of HANDOVER_REQ. A completed shed changes the profile. -/
def standingDue (before after : State) : Bool :=
  decide (ownClaim before < ownClaim after) || decide (before.ae.profile ≠ after.ae.profile)
    || (bidOpen before != bidOpen after) || (before.ae.carrying != after.ae.carrying)
    || (before.rc.handoverReq != after.rc.handoverReq)

/-- The periodic timer starts on leaving a silent state and stops on entering one (R40). -/
def settlePeriodic (before after : State) : State :=
  if silent after then { after with sli := { after.sli with periodic := none } }
  else if silent before then { after with sli := { after.sli with periodic := some periodicMs } }
  else after

/-- LINE is raised once for a notice that stands at the head 250 ms or more after its request (R38). -/
def settleCongestion (s : State) : State :=
  match s.sli.queue with
  | h :: rest =>
    if congestionMs ≤ h.waited && !h.congested then
      raise .line { s with sli := { s.sli with queue := { h with congested := true } :: rest } }
    else s
  | [] => s

/-- A change of pattern restarts the lamp's timing, lit (or green) from the event of the change (R182). -/
def settleLamp (before after : State) : State :=
  if lampPattern before = lampPattern after then after
  else { after with lpi := { after.lpi with lampLit := true, lampTimer := halfPeriod (lampPattern after) } }

/-- The consequences of an event that are drawn once, at its end, from the state before it and the state it left: the prompt
STANDING of R41, the periodic timer of R40, the congestion check of R38 and the lamp of R182. -/
def settle (before after : State) : State :=
  let s1 := if standingDue before after then requestNotice .standing after else after
  settleLamp before (settleCongestion (settlePeriodic before s1))

/-- A meaning's answer: the state its body leaves, settled. -/
def answer (before after : State) : Host.Outcome State Fault Refusal := .next (settle before after)

end Sys2Proof.Machine
end

