-- ==== Sys2Proof/Machine/Budget.lean ====
section
/-! DEFINITION. The budget arithmetic of chapter 04: headroom, profile choice, inrush setpoint, the denial test, the precharge
deadline, the overcommit sum and the upgrade tests. -/

namespace Sys2Proof.Machine

/-- C_eff of the station; 0 while no profile is valid, and then read by nothing (R17, R21). -/
def ownCEff (s : State) : Nat :=
  match s.sc.profile with
  | some p => cEff p s.sv.table
  | none => 0

/-- The feed gate: the feeds are fit and V_min8 ≥ V_sag (R64). -/
def feedGate (p : ProfileData) (s : State) : Bool := feedsFit s.fs && decide (p.vSag ≤ vMin8 s)

/-- The line is neither STUCK nor IMPAIRED (R78, R83). -/
def lineFine (s : State) : Bool := decide (s.sli.line ≠ .stuck) && !s.sli.impaired

/-- Headroom at bid time: C_eff − L_c, signed (R62). -/
def headroomAtBid (p : ProfileData) (s : State) : Int := (cEff p s.sv.table : Int) - committedLoad s.sv.table

/-- Headroom at resolution: C_eff − L_c − B_better, signed (R62). -/
def headroomAtResolution (p : ProfileData) (s : State) : Int :=
  (cEff p s.sv.table : Int) - committedLoad s.sv.table - betterBids (ownRank s) s.sv.table

/-- The profile choice (R63). Equality fits (R57). -/
def profileChoice (p : ProfileData) (vC : Nat) (h : Int) : Option PowerLevel :=
  if (sFull p vC : Int) ≤ h then some .full
  else
    match sRed p vC with
    | some r => if (r : Int) ≤ h then some .reduced else none
    | none => none

/-- The pass-element limit I_pk (R64). -/
def passLimit (p : ProfileData) (vF : Nat) : Nat := 100 * p.pPk / vF

/-- The reasons an evaluation returns no setpoint (R65). -/
inductive NoSetpoint where
  | noProfile
  | feedGate
  | belowMinimum
  deriving DecidableEq, Repr

/-- The result of an evaluation (R65). -/
inductive Evaluation where
  | setpoint (level : PowerLevel) (iSet reservation : Nat)
  | noSetpoint (why : NoSetpoint)
  deriving DecidableEq, Repr

/-- The evaluation at a headroom: profile choice, feed gate, setpoint, reservation (R63, R64, R65). -/
def evaluate (p : ProfileData) (vC vF : Nat) (gate : Bool) (h : Int) : Evaluation :=
  match profileChoice p vC h with
  | none => .noSetpoint .noProfile
  | some level =>
    if gate then
      let iCap := min p.iMax (min (passLimit p vF) h.toNat)
      if iCap < p.iMin then .noSetpoint .belowMinimum
      else .setpoint level iCap (max (steadyClaim p vC level) iCap)
    else .noSetpoint .feedGate

/-- The denial test: the station could not be admitted into an empty shelf (R66). -/
def deniedBy (p : ProfileData) (vC vF cEffNow : Nat) : Bool :=
  (decide (cEffNow < sFull p vC) && (match sRed p vC with | some r => decide (cEffNow < r) | none => true))
    || decide (min p.iMax (min (passLimit p vF) cEffNow) < p.iMin)

/-- The nominal precharge time in milliseconds (R67). -/
def nominalPrecharge (cB vF iSet : Nat) : Nat := ceilDiv (cB * vF) (1000 * iSet)

/-- The precharge deadline D (R68). -/
def prechargeDeadline (cB vF iSet : Nat) : Nat := min (2 * nominalPrecharge cB vF iSet + 50) 2000

/-- The bid-time evaluation as the values stand (R62, R65). -/
def bidEvaluation (p : ProfileData) (vC : Nat) (s : State) : Evaluation :=
  evaluate p vC s.fs.vF (feedGate p s) (headroomAtBid p s)

/-- The resolution evaluation as the values stand (R62, R83). -/
def resolutionEvaluation (p : ProfileData) (vC : Nat) (s : State) : Evaluation :=
  evaluate p vC s.fs.vF (feedGate p s) (headroomAtResolution p s)

/-- The bid conditions in their order (R78): the reason of the first that fails, or the setpoint that the bid takes. -/
def bidConditions (p : ProfileData) (vC : Nat) (s : State) : Except WaitReason (PowerLevel × Nat × Nat) :=
  if !feedGate p s then .error .feed
  else if !lineFine s then .error .line
  else if deniedBy p vC s.fs.vF (cEff p s.sv.table) then .error .denied
  else if p.k ≤ prechargingCount s.sv.table then .error .busy
  else
    match bidEvaluation p vC s with
    | .setpoint level iSet resv => .ok (level, iSet, resv)
    | .noSetpoint _ => .error .noRoom

/-- The tests of a resolution in their order (R83): the setpoint taken, where all pass. -/
def resolution (p : ProfileData) (vC : Nat) (s : State) : Option (PowerLevel × Nat × Nat) :=
  if !lineFine s then none
  else
    match resolutionEvaluation p vC s with
    | .setpoint level iSet resv =>
      if prechargingCount s.sv.table + betterInitialBids (ownRank s) s.sv.table < p.k then some (level, iSet, resv) else none
    | .noSetpoint _ => none

/-- The overcommit sum Q: the own claim and the loads of better-ranked entries (R69). -/
def overcommitSum (s : State) : Nat :=
  ownClaim s + (s.sv.table.map (fun e => if e.rank < ownRank s then loadOf e else 0)).sum

/-- The station is over while Q > C_eff (R69). -/
def isOver (s : State) : Bool := decide (ownCEff s < overcommitSum s)

/-- The upgrade opening test, with P_red present (R71). -/
def upgradeOpening (p : ProfileData) (vC : Nat) (s : State) : Bool :=
  p.pRed.isSome && decide (committedLoad s.sv.table + sFull p vC + p.u ≤ cEff p s.sv.table) && !running s.ae.upgradeHold
    && lineFine s

/-- The upgrade amount S_full − S_red (R71). -/
def upgradeAmount (p : ProfileData) (vC : Nat) : Nat := sFull p vC - (sRed p vC).getD (sFull p vC)

/-- The upgrade resolution: the line is fine (R92) and the test of R72 holds. -/
def upgradeResolution (p : ProfileData) (vC : Nat) (s : State) : Bool :=
  lineFine s
    && decide (committedLoad s.sv.table + betterBids (ownRank s) s.sv.table + sFull p vC ≤ cEff p s.sv.table)

end Sys2Proof.Machine
end

