-- ==== Sys2Proof/Machine/Admission.lean ====
section
/-! DEFINITION. The Admission Engine short of ADMITTED (chapter 05): waiting, bidding, backoff, cooldown, the discharge and its
exits, the retry rule, and the answers to a feed fault. -/

namespace Sys2Proof.Machine

/-! ## Bids -/

/-- Marks a BID in flight as the BID of a bid that has closed: its "notice sent" is not that of a later bid's BID (R81). -/
def voidBidInFlight (l : LineInterface) : LineInterface :=
  match l.inFlight with
  | some f => if f.kind = .bid then { l with inFlight := some { f with voided := true } } else l
  | none => l

/-- The open bid is removed, BID_OPEN clears and the window closes (R81, R84, R98), without a YIELD. -/
def dropBid (s : State) : State :=
  { s with ae := { s.ae with bid := none, window := none }, sli := voidBidInFlight s.sli }

/-- Closes an open bid with a YIELD (R81, R84, R93, R94, R98); without one, changes nothing. -/
def closeBid (s : State) : State := if s.ae.bid.isSome then requestNotice .yield (dropBid s) else s

/-- Sets the waiting reason; DENIED is raised where it becomes DENIED from any other value (R79). -/
def setReason (r : WaitReason) (s : State) : State :=
  raiseIf (decide (r = .denied ∧ s.ae.reason ≠ .denied)) .denied { s with ae := { s.ae with reason := r } }

/-- Entry into BIDDING (R80); the STANDING that BID_OPEN requests follows at the event's end. -/
def enterBidding (level : PowerLevel) (resv : Nat) (s : State) : State :=
  requestNotice .bid
    { s with ae := { s.ae with engine := .bidding, reason := .none, profile := level, reservation := some resv,
                               bid := some resv, window := none } }

/-- The evaluation of R77 in WAITING: BIDDING where every bid condition of R78 holds, and otherwise the waiting reason. -/
def evaluateWaiting (s : State) : State :=
  if s.ae.engine = .waiting then
    match s.sc.profile, s.ae.vC with
    | some p, some vC =>
      match bidConditions p vC s with
      | .ok (level, _, resv) => enterBidding level resv s
      | .error r => setReason r s
    | _, _ => s
  else s

/-- Entry into WAITING, with its entry evaluation (R77); the reservation of a bid that has closed goes (R75). -/
def enterWaiting (s : State) : State :=
  evaluateWaiting
    (announceFrom s { s with ae := { s.ae with engine := .waiting, reason := .none, exit := .none, reservation := none } })

/-- Entry into BACKOFF (R85); the reservation of the bid that has closed goes (R75). -/
def enterBackoff (s : State) : State :=
  announceFrom s { s with ae := { s.ae with engine := .backoff, reservation := none, backoff := some (backoffMs s) } }

/-! ## DISCHARGING -/

/-- A latch retire whose latch already stands closed at the entry into DISCHARGING with exit RELEASED leads to WAITING: the
source becomes NONE and the fault cause NONE (R152). -/
def latchReturn (ae : OwnRecord) (latchOpen : Bool) : OwnRecord :=
  if ae.exit = .released ∧ ae.source = .latch ∧ latchOpen = false then
    { ae with exit := .waiting, source := .none, cause := .none, subcause := none }
  else ae

/-- The own record as an entry into DISCHARGING leaves it: the attempt's records, the bid, the excursion, the pending bring-up
fault and the timers of the state left are gone (R75, R90, R93, R95, R98). The upgrade hold runs on (R73). -/
def dischargingRecord (exit : DischargeExit) (ae : OwnRecord) : OwnRecord :=
  { ae with engine := .discharging, exit := exit, reason := .none, bid := none, window := none, reservation := none,
            iSet := none, deadline := none, backoff := none, cooldown := none, retryHold := none, shedWait := none,
            excursion := false, bringupFault := false }

/-- DISCHARGING is entered, its completion not yet tested (R95): an open bid closes with a YIELD, the phase is announced. -/
def beginDischarging (exit : DischargeExit) (s : State) : State :=
  let s1 := closeBid s
  announceFrom s1 { s1 with ae := latchReturn (dischargingRecord exit s1.ae) s1.rc.latchOpen }

/-- The completion of a discharge (R95): the engine enters the state its exit names, and the exit becomes none. -/
def completeDischarge (s : State) : State :=
  if s.ae.engine = .discharging ∧ s.pp.discharged then
    match s.ae.exit with
    | .none => s
    | .waiting => enterWaiting s
    | .cooldown =>
      announceFrom s { s with ae := { s.ae with engine := .cooldown, exit := .none, cooldown := some cooldownMs } }
    | .released => announceFrom s { s with ae := { s.ae with engine := .released, exit := .none } }
    | .stopped => announceFrom s { s with ae := { s.ae with engine := .stopped, exit := .none } }
  else s

/-- Entry into DISCHARGING; a discharged condition already standing completes it at once (R95, R117). -/
def enterDischarging (exit : DischargeExit) (s : State) : State := completeDischarge (beginDischarging exit s)

/-! ## Faults -/

/-- The fault cause of a counted fault. -/
def causeOf : CountedFault → FaultCause
  | .prechargeTimeout => .prechargeTimeout
  | .closeFail => .closeFail
  | .trip => .trip
  | .bringupTimeout => .bringupTimeout

/-- The retry limit of the loaded profile; 0 while none is valid (notes/assumptions/32.md). -/
def retryLimit (s : State) : Nat :=
  match s.sc.profile with
  | some p => p.retryLimit
  | none => 0

/-- The own record's part of the retry rule (R94). -/
def retryRecord (limit : Nat) (c : CountedFault) (ae : OwnRecord) : OwnRecord :=
  if ae.retryCount < limit then { ae with retryCount := ae.retryCount + 1, cause := causeOf c, subcause := none }
  else { ae with cause := .retryExhausted, subcause := some c }

/-- The discharge exit the retry rule sets: RELEASED where a retire is recorded, else COOLDOWN below the limit and STOPPED at it
(R94). -/
def retryExit (limit : Nat) (ae : OwnRecord) : DischargeExit :=
  if ae.source ≠ .none then .released else if ae.retryCount < limit then .cooldown else .stopped

/-- The retry rule up to the entry into DISCHARGING (R94). -/
def beginRetry (c : CountedFault) (s : State) : State :=
  beginDischarging (retryExit (retryLimit s) s.ae)
    (raise .fault { s with ae := retryRecord (retryLimit s) c s.ae })

/-- The retry rule (R94). -/
def retryRule (c : CountedFault) (s : State) : State := completeDischarge (beginRetry c s)

/-- An opening by a feed fault taken by the engine: the cause is set, FAULT raised and DISCHARGING entered; nothing is counted
(R99). -/
def takeFeedFault (cause : FaultCause) (exit : DischargeExit) (s : State) : State :=
  enterDischarging exit (raise .fault { s with ae := { s.ae with cause := cause, subcause := none } })

end Sys2Proof.Machine
end

