-- ==== Sys2Proof/Machine/PathOpening.lean ====
section
/-! DEFINITION. The opening of the power path (R112), the feed faults (R53, R99, R114) and the trip (R110). -/

namespace Sys2Proof.Machine

/-- The bulk node counts as discharged below 50 dV (R117). -/
def bulkDischarged (vBulk : Nat) : Bool := decide (vBulk < 50)

/-- The Power Path as an opening leaves it, on the way to OPEN or TRIPPED (R112): gates off, the attempt's records and the counts
cleared, the DISCHARGE_SLOW mark cleared, the discharge timer started and the discharged condition tested against the latest
sample; where the condition begins, the timer stops and TRIPPED returns to OPEN (R110, R117). -/
def openedPath (target : PathState) (pp : PowerPath) : PowerPath :=
  let done := bulkDischarged pp.vBulk
  { pp with path := if done then .opened else target, iSet := 0, deadline := 0, ramp := 0, limit := 0, foldback := false,
            half := false, elapsed := 0, closing := none, slowCount := 0, overCount := 0, overclaim := false,
            discharge := if done then none else some dischargeMs, discharged := done, slowMark := false }

/-- Every opening ends the program (R124); the timed-out step is kept. -/
def endedProgram (bp : BringUp) : BringUp := { BringUp.reset with timedOut := bp.timedOut }

/-- An opening ends a retire's waiting (R150), and the TAKEOVER it deasserts takes the mate-gone mark with it (R155). -/
def openedRetire (rc : RetireCoordinator) : RetireCoordinator :=
  { rc with handover := none, quiesce := none, handoverReq := false, mateGone := false }

/-- An opening cancels a pending PROF_FULL assertion (R92) and, while the engine holds no state of its own, sets the kept claim
to 0 and the claimed profile to reduced (R168). -/
def openedRecord (ae : OwnRecord) : OwnRecord :=
  if ae.engine = .none then { ae with profFullPending := false, keptClaim := 0, profile := .reduced }
  else { ae with profFullPending := false }

/-- The opening itself, before any neighbour acts on its cause (R112). With both gates off already it changes nothing. -/
def openGates (target : PathState) (s : State) : State :=
  if gateOn s then
    { s with pp := openedPath target s.pp, held := HeldOutputs.deasserted, bp := endedProgram s.bp, rc := openedRetire s.rc,
             ae := openedRecord s.ae }
  else s

/-- An opening that the Power Path makes for a counted fault of the attempt, reported to the engine in POWERING (R86, R106,
R107). -/
def failAttempt (c : CountedFault) (s : State) : State :=
  let s1 := openGates .opened s
  if s1.ae.engine = .powering then retryRule c s1 else s1

/-- A trip (R110): the retry rule, or the trip-pending mark while the engine holds no state of its own (R115). -/
def trip (s : State) : State :=
  let s1 := openGates .tripped s
  if s1.ae.engine = .none then { s1 with pp := { s1.pp with tripPending := true } } else retryRule .trip s1

/-- The engine's answer to a feed fault, by its state (R99). `opened`: the path opened for it. In a start state there is no
engine to answer; the FAULT flag is raised for the opening (R175; notes/assumptions/15.md). -/
def answerFeedFault (cause : FaultCause) (opened : Bool) (s : State) : State :=
  match s.ae.engine with
  | .none => raiseIf opened .fault s
  | .bidding => enterWaiting (closeBid s)
  | .powering => takeFeedFault cause .waiting s
  | .bringup => if s.ae.bringupFault then retryRule .bringupTimeout s else takeFeedFault cause .waiting s
  | .admitted .shedding =>
    takeFeedFault cause (if s.ae.source ≠ .none then .released else .waiting) s
  | .admitted .steady => takeFeedFault cause .waiting s
  | .admitted .upgradeBid => takeFeedFault cause .waiting s
  | .retiring _ => takeFeedFault cause .released s
  | .waiting => s
  | .backoff => s
  | .discharging => s
  | .cooldown => s
  | .released => s
  | .stopped => s

/-- A feed fault: the Power Path opens from PRECHARGE, CLOSING or CLOSED (R114), and the engine answers in the same event
(R99). -/
def feedFault (cause : FaultCause) (s : State) : State :=
  answerFeedFault cause (gateOn s) (openGates .opened s)

end Sys2Proof.Machine
end

