-- ==== Sys2Proof/Machine/Teardown.lean ====
section
/-! DEFINITION. The latches that steps drive (R122) and the teardown of the Bring-up Program (R132, R133, R134). -/

namespace Sys2Proof.Machine

/-- The step table of the loaded profile. -/
def stepTable (s : State) : List StepRecord :=
  match s.sc.profile with
  | some p => p.steps
  | none => []

/-- The held outputs with an action's latch at its brought-up level (R122). -/
def driveUp (a : StepAction) (h : HeldOutputs) : HeldOutputs :=
  match a with
  | .note => h
  | .railOn n => { h with rails := h.rails ||| (1#4 <<< n.val) }
  | .releaseReset => { h with payRst := false }
  | .attachLane g => { h with lanes := h.lanes ||| (1#2 <<< g.val) }
  | .attachClock => { h with clk := true }

/-- The held outputs after an action's inverse (R122). -/
def driveDown (a : StepAction) (h : HeldOutputs) : HeldOutputs :=
  match a with
  | .note => h
  | .railOn n => { h with rails := h.rails &&& ~~~(1#4 <<< n.val) }
  | .releaseReset => { h with payRst := true }
  | .attachLane g => { h with lanes := h.lanes &&& ~~~(1#2 <<< g.val) }
  | .attachClock => { h with clk := false }

/-- A step is up when its latch stands at its brought-up level; NOTE is always up (R122). -/
def stepIsUp (a : StepAction) (h : HeldOutputs) : Bool :=
  match a with
  | .note => true
  | .railOn n => h.rails.getLsbD n.val
  | .releaseReset => !h.payRst
  | .attachLane g => h.lanes.getLsbD g.val
  | .attachClock => h.clk

/-- The engine is in a state that holds its blade powered: one in which a teardown's opening is its to take (R87, R98). -/
def holdsBlade : Engine → Bool
  | .bringup => true
  | .admitted _ => true
  | .retiring _ => true
  | _ => false

/-- The completion of a teardown: the path is commanded open, and the engine takes the opening by the retry rule where a bring-up
fault is pending and by DISCHARGING with exit RELEASED otherwise (R134, R87, R98). -/
def teardownComplete (s : State) : State :=
  if gateOn s then
    let s1 := openGates .opened s
    if holdsBlade s.ae.engine then
      if s.ae.bringupFault then retryRule .bringupTimeout s1 else enterDischarging .released s1
    else s1
  else s

/-- The program as it stands in the teardown of step n: its pointer at the step, its other timers stopped (R133). -/
def undoing (n dwell : Nat) (bp : BringUp) : BringUp :=
  { bp with prog := .teardown, pointer := n, stepTimer := none, dwell := none, edge := false,
            teardown := if dwell = 0 then none else some dwell }

/-- Undoes steps n, n − 1, ... until a teardown dwell holds the teardown or it completes (R133, R134). -/
def undoFrom : Nat → State → State
  | 0, s => teardownComplete s
  | n + 1, s =>
    match (stepTable s)[n]? with
    | none => undoFrom n s
    | some r =>
      let s1 := { s with held := driveDown r.action s.held, bp := undoing (n + 1) r.teardown s.bp }
      if r.teardown = 0 then undoFrom n s1 else s1

/-- A teardown command (R132): in FORWARD it covers the completed steps, in UP every step, in TEARDOWN it is ignored, and in OFF
there is nothing to undo. -/
def teardownCommand (s : State) : State :=
  match s.bp.prog with
  | .off => teardownComplete s
  | .forward => undoFrom s.bp.completed { s with bp := undoing s.bp.pointer 0 s.bp }
  | .up => undoFrom (stepTable s).length { s with bp := undoing s.bp.pointer 0 s.bp }
  | .teardown => s

end Sys2Proof.Machine
end

