-- ==== Sys2Proof/Machine/Retirement.lean ====
section
/-! DEFINITION. The substates of RETIRING and the mate side of a handover (chapter 08). -/

namespace Sys2Proof.Machine

/-- An entry names this station's slot as its mate. -/
def namesOwn (s : State) (e : Entry) : Bool := e.mate.isSome && decide (e.mate = s.sc.slot)

/-- The handover condition on the mate's entry (R145). -/
def handoverCondition (s : State) : Bool :=
  match mateEntry s with
  | some e => !e.stale && decide (e.phase = .admitted) && e.carrying && namesOwn s e
  | none => false

/-- Entry into TEARDOWN (R149): the timers stop, TAKEOVER deasserts and the mark with it (R155), a pending PROF_FULL assertion
is cancelled (R92), and the Bring-up Program is commanded to tear down. -/
def enterTeardown (s : State) : State :=
  teardownCommand
    (announceFrom s
      { s with ae := { s.ae with engine := .retiring .teardown, profFullPending := false },
               held := { s.held with takeover := false },
               rc := { s.rc with handover := none, quiesce := none, mateGone := false } })

/-- T_quiesce of the loaded profile (R140). -/
def quiesceMs (s : State) : Nat :=
  match s.sc.profile with
  | some p => p.tQuiesce
  | none => 0

/-- T_handover of the loaded profile (R140). -/
def handoverMs (s : State) : Nat :=
  match s.sc.profile with
  | some p => p.tHandover
  | none => 0

/-- Entry into DRAINING (R148), from which QUIESCED already high leads on at once; a handover or a hold that ends clears
HANDOVER_REQ and stops its timer (R145, R147). -/
def enterDraining (s : State) : State :=
  let s1 :=
    { s with ae := { s.ae with engine := .retiring .draining }, held := { s.held with drain := true },
             rc := { s.rc with handover := none, handoverReq := false, quiesce := some (quiesceMs s) } }
  if s1.inp.quiesced then enterTeardown s1 else s1

/-- Entry into HANDOVER (R145): a latch-held condition forces it on (R147), and so does a handover condition that already
holds. -/
def enterHandover (s : State) : State :=
  let s1 :=
    { s with ae := { s.ae with engine := .retiring .handover },
             rc := { s.rc with handoverReq := true, handover := some (handoverMs s) } }
  if s1.rc.latchHeld || handoverCondition s1 then enterDraining s1 else s1

/-- Entry into RETIRING from ADMITTED (R144): the excursion ends, the upgrade retry hold stops, and the first substate is
HANDOVER with a mate configured and CARRYING set, else DRAINING. -/
def enterRetiring (s : State) : State :=
  let s1 :=
    announceFrom s
      { s with ae := { s.ae with engine := .retiring .draining, excursion := false, retryHold := none, shedWait := none } }
  if (ownMate s).isSome && s.ae.carrying then enterHandover s1 else enterDraining s1

/-- The handover condition's evaluation at a view change in HANDOVER or HELD (R145, R146). -/
def evaluateHandover (s : State) : State :=
  if (s.ae.engine = .retiring .handover ∨ s.ae.engine = .retiring .held) ∧ handoverCondition s then enterDraining s else s

/-- A force in HANDOVER or HELD (R147). -/
def forceRetire (s : State) : State :=
  if s.ae.engine = .retiring .handover ∨ s.ae.engine = .retiring .held then enterDraining s else s

/-- The mate-gone mark after a view change while TAKEOVER is asserted: set by the mate's entry showing STOPPED or being removed
(R155). -/
def mateGoneAfter (before s : State) : Bool :=
  s.rc.mateGone
    || (match mateEntry s with
        | some e => decide (e.phase = .stopped)
        | none => (mateEntry before).isSome)

/-- What the mate's entry shows ends an asserted TAKEOVER: a cancel while the mark is clear, or a return while it is set (R155). -/
def takeoverEnds (mark : Bool) (e : Entry) : Bool :=
  decide (e.phase = .admitted) && ((!mark && !e.handoverReq) || (mark && e.carrying))

/-- TAKEOVER and its mark after a view change (R155). -/
def maintainTakeover (before s : State) : State :=
  if s.held.takeover then
    let mark := mateGoneAfter before s
    match mateEntry s with
    | some e =>
      if takeoverEnds mark e then
        { s with held := { s.held with takeover := false }, rc := { s.rc with mateGone := false } }
      else { s with rc := { s.rc with mateGone := mark } }
    | none => { s with rc := { s.rc with mateGone := mark } }
  else s

/-- In ADMITTED, a mate's entry that requests a handover and names this station's slot (R154). -/
def takeoverWanted (s : State) : Bool :=
  match s.ae.engine, mateEntry s with
  | .admitted _, some e => e.handoverReq && namesOwn s e
  | _, _ => false

/-- The evaluation of R154, at entry into ADMITTED and at each view change there. -/
def evaluateTakeover (s : State) : State :=
  if takeoverWanted s ∧ s.held.takeover = false then
    { s with held := { s.held with takeover := true }, rc := { s.rc with mateGone := false } }
  else s

end Sys2Proof.Machine
end

