-- ==== Sys2Proof/Machine/Admitted.lean ====
section
/-! DEFINITION. ADMITTED: the overcommit test, shedding and upgrade (R88 to R93), the entry into ADMITTED, and what a retire
request and a cancel do in each state (R98, R142, R143). -/

namespace Sys2Proof.Machine

/-- Whether P_red is present. -/
def hasReduced (s : State) : Bool :=
  match s.sc.profile with
  | some p => p.pRed.isSome
  | none => false

/-- The completion of a shed (R90): the profile becomes reduced, the claim with it, PROFILE is raised and the upgrade hold
starts; the overcommit test is made with the new claim, OVERCOMMIT being raised where the station is still over, be the excursion
the one that began the shed or one begun since (notes/assumptions/29.md); a retire held in SHEDDING is then taken (R98). The
upgrade opening test of the same evaluation fails on the hold just started (R71). -/
def completeShed (s : State) : State :=
  let s1 := raise .profile
    { s with ae := { s.ae with engine := .admitted .steady, profile := .reduced, shedWait := none,
                               upgradeHold := some upgradeHoldMs } }
  let still := isOver s1
  let s2 := raiseIf still .overcommit { s1 with ae := { s1.ae with excursion := still } }
  if s2.ae.source ≠ .none then enterRetiring s2 else s2

/-- Entry into SHEDDING (R89, R90): a pending PROF_FULL assertion is cancelled, PROF_FULL deasserts and the shed wait starts;
PROF_ACK already low completes the shed. -/
def enterShedding (s : State) : State :=
  let s1 :=
    { s with ae := { s.ae with engine := .admitted .shedding, profFullPending := false, shedWait := some shedWaitMs },
             held := { s.held with profFull := false } }
  if s1.inp.profAck then s1 else completeShed s1

/-- An upgrade bid that fails (R93): the bid closes with a YIELD, STEADY, and the upgrade retry hold starts. -/
def failUpgrade (s : State) : State :=
  let s1 := closeBid s
  { s1 with ae := { s1.ae with engine := .admitted .steady, retryHold := some (backoffMs s) } }

/-- Entry into UPGRADE_BID (R91). -/
def enterUpgradeBid (p : ProfileData) (vC : Nat) (s : State) : State :=
  requestNotice .bid
    { s with ae := { s.ae with engine := .admitted .upgradeBid, bid := some (upgradeAmount p vC), window := none } }

/-- The beginning of an overcommit excursion, by substate and profile (R89). -/
def beginExcursion (sub : AdmittedSub) (s : State) : State :=
  let s1 := { s with ae := { s.ae with excursion := true } }
  match sub with
  | .steady => if s.ae.profile = .full ∧ hasReduced s then enterShedding s1 else raise .overcommit s1
  | .upgradeBid => raise .overcommit (failUpgrade s1)
  | .shedding => s1

/-- The upgrade opening test as R88 lets it be evaluated: in STEADY at the reduced profile, with no PROF_FULL pending and no
upgrade retry hold running. -/
def openUpgrade (sub : AdmittedSub) (s : State) : State :=
  match s.sc.profile, s.ae.vC with
  | some p, some vC =>
    if sub = .steady ∧ s.ae.profile = .reduced ∧ s.ae.profFullPending = false ∧ s.ae.retryHold = none
        ∧ upgradeOpening p vC s then
      enterUpgradeBid p vC s
    else s
  | _, _ => s

/-- The evaluation of R88 in ADMITTED: the overcommit test, and, where the station is not over, the upgrade opening test. -/
def evaluateAdmitted (s : State) : State :=
  match s.ae.engine with
  | .admitted sub =>
    if isOver s then
      if s.ae.excursion then s else beginExcursion sub s
    else openUpgrade sub { s with ae := { s.ae with excursion := false } }
  | _ => s

/-- Entry into ADMITTED in STEADY, with its entry evaluations (R87, R88, R154). -/
def enterAdmitted (s : State) : State :=
  evaluateTakeover (evaluateAdmitted (announceFrom s { s with ae := { s.ae with engine := .admitted .steady } }))

/-! ## Retire requests and cancels -/

/-- A retire request is accepted with source NONE and the engine in a state of its own other than STOPPED with a silent cause
(R142). -/
def retireAccepted (s : State) : Bool :=
  decide (s.ae.source = .none) && decide (s.ae.engine ≠ .none)
    && !(decide (s.ae.engine = .stopped) && silentCause s.ae.cause)

/-- The engine's response to an accepted retire request, by its state (R98). -/
def respondRetire (s : State) : State :=
  match s.ae.engine with
  | .none => s
  | .waiting => enterDischarging .released s
  | .bidding => enterDischarging .released s
  | .backoff => enterDischarging .released s
  | .cooldown => enterDischarging .released s
  | .powering => enterDischarging .released (openGates .opened s)
  | .bringup => if s.ae.bringupFault then s else enterTeardown s
  | .admitted .steady => enterRetiring s
  | .admitted .upgradeBid => enterRetiring (closeBid s)
  | .admitted .shedding => s
  | .retiring _ => s
  | .released => s
  | .discharging => { s with ae := { s.ae with exit := .released } }
  | .stopped => if silentCause s.ae.cause then s else enterDischarging .released s

/-- A retire request (R142): where accepted, its source is recorded and the engine responds. -/
def requestRetire (source : RetireSource) (s : State) : State :=
  if retireAccepted s then respondRetire { s with ae := { s.ae with source := source } } else s

/-- A station is in a cancellable state: RETIRING in HANDOVER, HELD or DRAINING, and SHEDDING with a retire held (R143). -/
def cancellable (s : State) : Bool :=
  match s.ae.engine with
  | .retiring .handover => true
  | .retiring .held => true
  | .retiring .draining => true
  | .admitted .shedding => decide (s.ae.source ≠ .none)
  | _ => false

/-- An honoured cancel (R143): in SHEDDING the held request is withdrawn; in RETIRING the timers stop, HANDOVER_REQ and DRAIN
clear, and the engine enters ADMITTED in STEADY with its entry evaluation. -/
def honourCancel (s : State) : State :=
  match s.ae.engine with
  | .admitted _ => { s with ae := { s.ae with source := .none } }
  | .retiring _ =>
    enterAdmitted
      { s with ae := { s.ae with source := .none }, held := { s.held with drain := false },
               rc := { s.rc with handover := none, quiesce := none, handoverReq := false } }
  | _ => s

end Sys2Proof.Machine
end

