-- ==== Sys2Proof/Machine/BringUp.lean ====
section
/-! DEFINITION. The forward run of the Bring-up Program and its commands (chapter 07): CLOSING_EXPIRY's run command, STEP_EDGE,
CONDITION_INPUT_CHANGE, BRINGUP_TIMEOUT, DWELL_EXPIRY and TEARDOWN_DWELL_EXPIRY. -/

namespace Sys2Proof.Machine

/-- A step's condition on the payload's answers (R128). -/
def conditionMet (c : StepCondition) (i : Inputs) : Bool :=
  match c with
  | .always => true
  | .powerGood n => i.railPg.getLsbD n.val
  | .ready => i.payReady

/-- The condition test of the step in CONDITION (R128). When it is met the step timer stops and the dwell begins; the second
part says that the step ends in this event, by a dwell of 0 ms (R130) or because a reconcile run found it up (R138). -/
def testCondition (r : StepRecord) (s : State) : State × Bool :=
  if conditionMet r.cond s.inp then
    let ends := s.bp.foundUp || decide (r.dwell = 0)
    ({ s with bp := { s.bp with sub := .dwell, stepTimer := none, dwell := if ends then none else some r.dwell } }, ends)
  else (s, false)

/-- A step's action event (R128): its latch is driven, unless a reconcile run found it up, and the completed count takes its
number. -/
def performStep (n : Nat) (r : StepRecord) (s : State) : State × Bool :=
  testCondition r
    { s with held := if s.bp.foundUp then s.held else driveUp r.action s.held,
             bp := { s.bp with completed := n, sub := .condition } }

/-- A step begins (R126, R138): the step timer starts; a paced step that is not found up waits in PACE, or consumes the
remembered edge. -/
def beginStep (n : Nat) (r : StepRecord) (s : State) : State × Bool :=
  let up := s.bp.reconcile && stepIsUp r.action s.held
  let s1 :=
    { s with bp := { s.bp with pointer := n, stepTimer := some r.timeout, dwell := none, foundUp := up, sub := .pace } }
  if up then performStep n r s1
  else if r.paced then
    if s1.bp.edge then performStep n r { s1 with bp := { s1.bp with edge := false } } else (s1, false)
  else performStep n r s1

/-- The completion of a run (R130): UP, and the engine in BRINGUP enters ADMITTED (R87). -/
def completeRun (s : State) : State :=
  let n := (stepTable s).length
  let s1 :=
    { s with bp := { s.bp with prog := .up, pointer := n, completed := n, edge := false, stepTimer := none, dwell := none } }
  if s1.ae.engine = .bringup then enterAdmitted s1 else s1

/-- Runs the remaining steps, the first of them being step n, until one waits (R130). -/
def runSteps : List StepRecord → Nat → State → State
  | [], _, s => completeRun s
  | r :: rest, n, s =>
    let x := beginStep n r s
    if x.2 then runSteps rest (n + 1) x.1 else x.1

/-- The run goes on after the current step where that step has ended. -/
def afterStep (x : State × Bool) : State :=
  if x.2 then runSteps ((stepTable x.1).drop x.1.bp.pointer) (x.1.bp.pointer + 1) x.1 else x.1

/-- The current step's record. -/
def currentStep (s : State) : Option StepRecord := (stepTable s)[s.bp.pointer - 1]?

/-- The program as a run command leaves it before step 1 (R125, R138). -/
def startedProgram (reconcile : Bool) (bp : BringUp) : BringUp :=
  { bp with prog := .forward, reconcile := reconcile, foundUp := false, completed := 0, edge := false, stepTimer := none,
            dwell := none, teardown := none, timedOut := if reconcile then bp.timedOut else 0 }

/-- The normal run command, taken in OFF (R125): PROF_FULL takes the claimed profile, PAY_RST asserts, step 1 begins. -/
def runNormal (s : State) : State :=
  if s.bp.prog = .off then
    runSteps (stepTable s) 1
      { s with held := { s.held with profFull := levelIsFull s.ae.profile, payRst := true }, bp := startedProgram false s.bp }
  else s

/-- The reconcile run command, taken in OFF (R138). -/
def runReconcile (s : State) : State :=
  if s.bp.prog = .off then runSteps (stepTable s) 1 { s with bp := startedProgram true s.bp } else s

/-- The command into UP by reconcile, taken in OFF (R137). -/
def commandUp (s : State) : State :=
  if s.bp.prog = .off then
    { s with bp := { s.bp with prog := .up, pointer := (stepTable s).length, completed := (stepTable s).length } }
  else s

/-- Entry into BRINGUP from a CLOSED report (R86, R87): the attempt is over, the claim becomes the steady claim, and the program
is commanded to run forward. -/
def enterBringup (s : State) : State :=
  runNormal
    (announceFrom s
      { s with ae := { s.ae with engine := .bringup, reservation := none, iSet := none, deadline := none,
                                 bringupFault := false } })

/-! ## The commands -/

/-- A rising edge of STEP (R127): consumed in PACE, remembered once in CONDITION or DWELL, discarded elsewhere. -/
def takeEdge (s : State) : State :=
  match s.bp.prog, s.bp.sub with
  | .forward, .pace =>
    match currentStep s with
    | some r => afterStep (performStep s.bp.pointer r s)
    | none => s
  | .forward, .condition => { s with bp := { s.bp with edge := true } }
  | .forward, .dwell => { s with bp := { s.bp with edge := true } }
  | _, _ => s

/-- STEP_EDGE (R127). A falling edge changes the debounced level and nothing else. A rising one is an edge by its sender's word, whatever
level was held (notes/assumptions/27.md). -/
def execStepEdge (rising : Bool) (s : State) : Host.Outcome State Fault Refusal :=
  let s1 := { s with inp := { s.inp with stepLevel := rising, stepSettled := true } }
  answer s (if rising then takeEdge s1 else s1)

/-- CONDITION_INPUT_CHANGE (R128). -/
def execConditionInputChange (railPg : BitVec 4) (payReady : Bool) (s : State) : Host.Outcome State Fault Refusal :=
  let s1 := { s with inp := { s.inp with railPg := railPg, payReady := payReady } }
  answer s
    (if s.bp.prog = .forward ∧ s.bp.sub = .condition then
      match currentStep s1 with
      | some r => afterStep (testCondition r s1)
      | none => s1
    else s1)

/-- BRINGUP_TIMEOUT (R129): a step timer expires in PACE or CONDITION; the bring-up fault is pending, and the completed steps
are torn down (R87, R132). The step timer must have run out: a condition or an edge taken first may have begun the next step, whose
timer is new, and the expiry is then no timeout (R131). -/
def execBringupTimeout (s : State) : Host.Outcome State Fault Refusal :=
  answer s
    (if s.bp.prog = .forward ∧ s.bp.sub ≠ .dwell ∧ ranOut s.bp.stepTimer then
      teardownCommand
        { s with bp := { s.bp with timedOut := s.bp.pointer, edge := false }, ae := { s.ae with bringupFault := true } }
    else s)

/-- DWELL_EXPIRY (R130). -/
def execDwellExpiry (s : State) : Host.Outcome State Fault Refusal :=
  answer s
    (if s.bp.prog = .forward ∧ s.bp.sub = .dwell ∧ running s.bp.dwell then
      afterStep ({ s with bp := { s.bp with dwell := none } }, true)
    else s)

/-- TEARDOWN_DWELL_EXPIRY (R133, R134). -/
def execTeardownDwellExpiry (s : State) : Host.Outcome State Fault Refusal :=
  answer s
    (if s.bp.prog = .teardown ∧ running s.bp.teardown then
      undoFrom (s.bp.pointer - 1) { s with bp := { s.bp with teardown := none } }
    else s)

end Sys2Proof.Machine
end

