-- ==== Sys2Proof/Machine/PowerPathOps.lean ====
section
/-! DEFINITION. The Power Path's samples, closing and discharge (chapter 06): PATH_SAMPLE, PRECHARGE_TIMEOUT, SLOW_TRIP,
OVERCLAIM, CLOSING_EXPIRY and DISCHARGE_SLOW. -/

namespace Sys2Proof.Machine

/-- A reading of 0..1023 units; a higher one is given as 1023 (R43, R101). -/
def reading (v : Nat) : Nat := min v 1023

/-- The ramp value at a step: floor(I_set × k / 8) (R103). -/
def rampValue (iSet k : Nat) : Nat := iSet * k / 8

/-- The foldback flag after its test against V_f (R104). -/
def foldbackAfter (flag : Bool) (vF vSag : Nat) : Bool := if flag then decide (vF < vSag + 10) else decide (vF < vSag)

/-- The limit in use at a ramp step, in foldback or out of it (R103, R104). -/
def limitInUse (iSet iMin k : Nat) (foldback : Bool) : Nat :=
  let base := max (rampValue iSet k) iMin
  if foldback then min base (max (iSet / 2) iMin) else base

/-- The PRECHARGE command, taken in OPEN (R102): ramp step 1, counts and marks clear, the discharge timer stopped. -/
def commandPrecharge (iSet deadline : Nat) (s : State) : State :=
  if s.pp.path = .opened then
    { s with pp := { s.pp with path := .precharge, iSet := iSet, deadline := deadline, ramp := 1, elapsed := 0, half := false,
                               foldback := false, limit := limitInUse iSet s.pp.iMin 1 false, discharge := none,
                               discharged := false } }
  else s

/-- The first four steps of a path sample in PRECHARGE (R106): foldback, ramp step, limit in use, elapsed count. In foldback the
half-step mark makes two samples count as one (R105). -/
def prechargeAdvance (vF : Nat) (pp : PowerPath) : PowerPath :=
  let fold := foldbackAfter pp.foldback vF pp.vSag
  let k := min 8 (pp.ramp + 1)
  let counts := !fold || pp.half
  { pp with foldback := fold, ramp := k, limit := limitInUse pp.iSet pp.iMin k fold,
            half := if fold then !pp.half else pp.half,
            elapsed := if counts then min (pp.elapsed + 1) pp.deadline else pp.elapsed }

/-- The completion test: V_bulk ≥ V_f − 20 dV while the feeds are fit (R106). -/
def prechargeComplete (s : State) : Bool := decide (s.fs.vF ≤ s.pp.vBulk + 20) && feedsFit s.fs

/-- A path sample in PRECHARGE (R106). -/
def prechargeSample (s : State) : State :=
  let s1 := { s with pp := prechargeAdvance s.fs.vF s.pp }
  if prechargeComplete s1 then { s1 with pp := { s1.pp with path := .closing, closing := some closingMs } }
  else if s1.pp.deadline ≤ s1.pp.elapsed then failAttempt .prechargeTimeout s1
  else s1

/-- The slow-trip count after a sample that is no fast trip (R109). -/
def slowCountAfter (pp : PowerPath) : Nat := if pp.iTrip < pp.iLoad then pp.slowCount + 1 else 0

/-- The fast threshold: min(2 × I_trip, 1023) cu (R109). -/
def fastThreshold (iTrip : Nat) : Nat := min (2 * iTrip) 1023

/-- A sample trips: over the fast threshold, or the fourth consecutive one over I_trip (R109). -/
def sampleTrips (pp : PowerPath) : Bool :=
  decide (fastThreshold pp.iTrip < pp.iLoad) || decide (4 ≤ slowCountAfter pp)

/-- The overclaim monitor (R111). -/
def overclaimSample (s : State) : State :=
  if ownClaim s < s.pp.iLoad then
    if s.pp.overclaim then s
    else if 1000 ≤ s.pp.overCount + 1 then
      raise .overclaim { s with pp := { s.pp with overCount := 1000, overclaim := true } }
    else { s with pp := { s.pp with overCount := s.pp.overCount + 1 } }
  else { s with pp := { s.pp with overCount := 0, overclaim := false } }

/-- A path sample in CLOSED: the breaker, then the overclaim monitor (R101, R109, R111). -/
def closedSample (s : State) : State :=
  if sampleTrips s.pp then trip s
  else overclaimSample { s with pp := { s.pp with slowCount := slowCountAfter s.pp } }

/-- The discharged condition brought up to date (R117): at its beginning the discharge timer stops, TRIPPED returns to OPEN and
a DISCHARGING completes. -/
def updateDischarged (s : State) : State :=
  if gateOn s then { s with pp := { s.pp with discharged := false } }
  else if bulkDischarged s.pp.vBulk then
    if s.pp.discharged then s
    else
      completeDischarge
        { s with pp := { s.pp with discharged := true, discharge := none, path := .opened } }
  else { s with pp := { s.pp with discharged := false } }

/-- A path sample event (R101). -/
def pathSampleEvent (vBulk iLoad : Nat) (s : State) : State :=
  let s1 := { s with pp := { s.pp with vBulk := reading vBulk, iLoad := reading iLoad } }
  updateDischarged
    (match s1.pp.path with
     | .opened => s1
     | .precharge => prechargeSample s1
     | .closing => s1
     | .closed => closedSample s1
     | .tripped => s1)

/-! ## The commands -/

/-- PATH_SAMPLE (R101). -/
def execPathSample (vBulk iLoad : Nat) (s : State) : Host.Outcome State Fault Refusal :=
  answer s (pathSampleEvent vBulk iLoad s)

/-- PRECHARGE_TIMEOUT (R106): the path sample at which the elapsed count reaches D. It completes the precharge instead where it
shows completion, since the deadline is not tested at such a sample. -/
def execPrechargeTimeout (vBulk iLoad : Nat) (s : State) : Host.Outcome State Fault Refusal :=
  answer s
    (pathSampleEvent vBulk iLoad
      (if s.pp.path = .precharge then { s with pp := { s.pp with elapsed := s.pp.deadline } } else s))

/-- SLOW_TRIP (R109): the path sample that follows three consecutive ones over I_trip. -/
def execSlowTrip (vBulk iLoad : Nat) (s : State) : Host.Outcome State Fault Refusal :=
  answer s
    (pathSampleEvent vBulk iLoad (if s.pp.path = .closed then { s with pp := { s.pp with slowCount := 3 } } else s))

/-- OVERCLAIM (R111): the path sample that follows 999 consecutive ones over the claim; in an excursion the count stands. -/
def execOverclaim (vBulk iLoad : Nat) (s : State) : Host.Outcome State Fault Refusal :=
  answer s
    (pathSampleEvent vBulk iLoad
      (if s.pp.path = .closed ∧ s.pp.overclaim = false then { s with pp := { s.pp with overCount := 999 } } else s))

/-- CLOSING_EXPIRY (R107, R108): CLOSED where V_bulk ≥ V_f − 10 dV, and otherwise an opening with CLOSE_FAIL. -/
def execClosingExpiry (s : State) : Host.Outcome State Fault Refusal :=
  answer s
    (if s.pp.path = .closing ∧ running s.pp.closing then
      if s.fs.vF ≤ s.pp.vBulk + 10 then
        let s1 :=
          { s with pp := { s.pp with path := .closed, closing := none, slowCount := 0, overCount := 0, overclaim := false } }
        if s1.ae.engine = .powering then enterBringup s1 else s1
      else failAttempt .closeFail s
    else s)

/-- DISCHARGE_SLOW (R118): the discharge timer expires undischarged; raised once for the opening. -/
def execDischargeSlow (s : State) : Host.Outcome State Fault Refusal :=
  answer s
    (if running s.pp.discharge then
      raiseIf (!s.pp.discharged && !s.pp.slowMark) .dischargeSlow
        { s with pp := { s.pp with discharge := none, slowMark := s.pp.slowMark || !s.pp.discharged } }
    else s)

end Sys2Proof.Machine
end

