-- ==== Sys2Proof/Machine/FeedOps.lean ====
section
/-! DEFINITION. The Feed Supervisor (chapter 03) and what a feed change does in the Admission Engine: FEED_SAMPLE and
RIDE_THROUGH_EXPIRY, with the initial classification that resets make. -/

namespace Sys2Proof.Machine

/-- The target state of a feed from its sample and its present state (R44). -/
def feedTarget (st : FeedState) (v : Nat) : FeedState :=
  if v < 200 then .absent
  else if v < 360 then .low
  else if v < 380 then (match st with | .absent => .low | .low => .low | .good => .good | .high => .good)
  else if v ≤ 730 then .good
  else if v ≤ 750 then (match st with | .absent => .good | .low => .good | .good => .good | .high => .high)
  else .high

/-- The state taken at once by an initial classification: the GOOD column of R44 (R46). -/
def initialFeedState (v : Nat) : FeedState := feedTarget .good v

/-- A feed after an initial classification (R46). -/
def classifiedFeed (v : Nat) : Feed :=
  { sample := reading v, state := initialFeedState (reading v), pending := none, count := 0 }

/-- A feed after a sample event (R45): a change of state is taken at the fourth consecutive sample with that target. -/
def sampledFeed (f : Feed) (v : Nat) : Feed :=
  let x := reading v
  let target := feedTarget f.state x
  if target = f.state then { sample := x, state := f.state, pending := none, count := 0 }
  else
    let count := if f.pending = some target then f.count + 1 else 1
    if 4 ≤ count then { sample := x, state := target, pending := none, count := 0 }
    else { sample := x, state := f.state, pending := some target, count := count }

/-- V_f: the largest sample among GOOD feeds, or, with none GOOD, the larger of the two (R47). -/
def workingVoltage (a b : Feed) : Nat :=
  if a.isIn .good then (if b.isIn .good then max a.sample b.sample else a.sample)
  else if b.isIn .good then b.sample
  else max a.sample b.sample

/-- The ride-through timer after a sample event (R51). -/
def rideAfter (goodBefore goodAfter : Bool) (ride : Timer) : Timer :=
  if goodAfter then none else if goodBefore then some rideMs else ride

/-- The Feed Supervisor after a sample event, up to its fault conditions (R43, steps 1 to 4). -/
def sampledFeeds (fs : FeedSupervisor) (a b : Nat) : FeedSupervisor :=
  let fa := sampledFeed fs.a a
  let fb := sampledFeed fs.b b
  let v := workingVoltage fa fb
  let good := fa.isIn .good || fb.isIn .good
  { a := fa, b := fb, vF := v, window := v :: fs.window.take 7, ride := rideAfter (anyGood fs) good fs.ride,
    uv := fs.uv && !good }

/-- The Feed Supervisor after an initial classification (R46, R55). -/
def classifiedFeeds (a b : Nat) : FeedSupervisor :=
  let fa := classifiedFeed a
  let fb := classifiedFeed b
  let v := workingVoltage fa fb
  { a := fa, b := fb, vF := v, window := List.replicate 8 v,
    ride := if fa.isIn .good || fb.isIn .good then none else some rideMs, uv := false }

/-- The changes of a sample event that raise FEED (R50). -/
def feedEventDue (before after : FeedSupervisor) : Bool :=
  decide (before.a.state ≠ after.a.state) || decide (before.b.state ≠ after.b.state)
    || (singleFeed before != singleFeed after) || (before.uv != after.uv) || (overvoltage before != overvoltage after)

/-- The changes that are presented to the Admission Engine as a feed change (R49). -/
def feedChange (before after : State) : Bool :=
  decide (before.fs.a.state ≠ after.fs.a.state) || decide (before.fs.b.state ≠ after.fs.b.state)
    || decide (vMin8 before ≠ vMin8 after) || (before.fs.uv != after.fs.uv)
    || (overvoltage before.fs != overvoltage after.fs)

/-- The reservation recomputed at a V_c change in POWERING: max(S_p, I_set) (R61, R86). -/
def reservationAt (p : ProfileData) (vC : Nat) (ae : OwnRecord) : Option Nat :=
  if ae.engine = .powering then ae.iSet.map (fun i => max (steadyClaim p vC ae.profile) i) else ae.reservation

/-- The engine's taking of a feed change: V_c is formed again (R58); at a V_c change the claims follow and ADMITTED evaluates
(R60, R61, R88); WAITING evaluates at every feed change (R77). -/
def takeFeedChange (s : State) : State :=
  match s.sc.profile, s.ae.vC with
  | some p, some old =>
    let new := claimVoltage p (vMin8 s)
    let s1 :=
      if new = old then s
      else evaluateAdmitted { s with ae := { s.ae with vC := some new, reservation := reservationAt p new s.ae } }
    evaluateWaiting s1
  | _, _ => s

/-- A sample event of the Feed Supervisor (R43): FEED where R50 calls for it, a beginning overvoltage as a feed fault (R52, R53),
then the feed change (R49). -/
def feedSampleEvent (a b : Nat) (s : State) : State :=
  let s1 := { s with fs := sampledFeeds s.fs a b }
  let s2 := raiseIf (feedEventDue s.fs s1.fs) .feed s1
  let s3 := if overvoltage s1.fs && !overvoltage s.fs then feedFault .feedOv s2 else s2
  if feedChange s s1 then takeFeedChange s3 else s3

/-- FEED_SAMPLE (R43). -/
def execFeedSample (a b : Nat) (s : State) : Host.Outcome State Fault Refusal :=
  answer s (feedSampleEvent a b s)

/-- RIDE_THROUGH_EXPIRY (R51): the undervoltage condition begins, FEED is raised, the fault is handed on and the beginning is
presented as a feed change (R49). -/
def execRideThroughExpiry (s : State) : Host.Outcome State Fault Refusal :=
  answer s
    (if running s.fs.ride then
      takeFeedChange (feedFault .feedUv (raise .feed { s with fs := { s.fs with ride := none, uv := true } }))
    else s)

end Sys2Proof.Machine
end

