-- ==== Sys2Proof/Machine/LineOps.lean ====
section
/-! DEFINITION. The line side of the Shelf Line Interface (chapter 02): transmission, contention and clashes, the line status,
the line quality, the transmit queue's LEAVE, and the two commands that a slot clash and a sent notice share with the Admission
Engine. -/

namespace Sys2Proof.Machine

/-! ## The slot clash -/

/-- A notice in flight may no longer return to the queue (R36, R37, R39). -/
def dropInFlight (l : LineInterface) : LineInterface :=
  { l with inFlight := l.inFlight.map (fun f => { f with dropped := true }) }

/-- The queue is emptied without sending, and a notice in flight will not return to it (R39). -/
def purgeQueue (l : LineInterface) : LineInterface := { dropInFlight l with queue := [] }

/-- The own record as a stop with SLOT_CLASH leaves it (R30): the bid is abandoned without a YIELD, the discharge exit none, the
source NONE, the cause replaced, the retry count unchanged. -/
def slotClashRecord (ae : OwnRecord) : OwnRecord :=
  { ae with engine := .stopped, reason := .none, bid := none, window := none, reservation := none, iSet := none,
            deadline := none, cause := .slotClash, subcause := none, exit := .none, source := .none, backoff := none,
            cooldown := none, bringupFault := false }

/-- STOPPED with SLOT_CLASH (R30, R39, R97), the path opened as for an abort; taken in RELEARN, it is the engine's first state
of its own (R76, R165). -/
def stopSlotClash (s : State) : State :=
  let s1 := openGates .opened s
  raise .fault
    { s1 with
      ae := { slotClashRecord s1.ae with
              carrying := if s.ae.engine = .none then s.inp.carryingLevel else s1.ae.carrying }
      sli := purgeQueue s1.sli
      sc := { s1.sc with start := .done, relearn := none } }

/-- A slot clash stops the station where MAIN_G is open, and a state of the engine's own or RELEARN is there to leave (R30, R165). A
second clash on a LEAVE sent in UNSEATED finds neither, and stops nothing (notes/assumptions/28.md). -/
def slotClashStops (s : State) : Bool :=
  !mainClosed s
    && (match s.ae.engine with
        | .none => decide (s.sc.start = .relearn)
        | .stopped => !silentCause s.ae.cause
        | _ => true)

/-- A slot clash (R30): the clash count returns to 0, LINE is raised, and the station stops where MAIN_G is open. -/
def slotClash (s : State) : State :=
  let s1 := raise .line { s with sli := { s.sli with clashCount := 0 } }
  if slotClashStops s1 then stopSlotClash s1 else s1

/-! ## The queue's returns and the LEAVE -/

/-- The queue after a notice in flight comes back to it (R35, R36): not at all where it may not return or a LEAVE is queued; a
BID and a queued YIELD cancel; else to the head, in place of any of its kind. -/
def queueAfterReturn (f : InFlight) (q : List Queued) : List Queued :=
  if f.dropped || isQueued .leave q then q
  else if f.kind = .bid ∧ isQueued .yield q then dequeue .yield q
  else { kind := f.kind, waited := f.waited, congested := f.congested } :: dequeue f.kind q

/-- The notice in flight ends unsent and returns to the queue under R36. A LEAVE that may not return is removed, and its copy with
it (R37, R42). -/
def returnNotice (f : InFlight) (l : LineInterface) : LineInterface :=
  { l with inFlight := none, queue := queueAfterReturn f l.queue,
           leaveCopy := if f.kind = .leave ∧ f.dropped then none else l.leaveCopy }

/-- The copy a LEAVE is composed from, where the slot is known and the profile loaded (R37). -/
def leaveCopyOf (sc : StartControl) : Option LeaveCopy :=
  match sc.slot, sc.profile with
  | some sl, some p => some { cls := p.cls, slot := sl, f := p.f, mate := p.mate, checksum := p.checksum }
  | _, _ => none

/-- A LEAVE is requested from RELEARN on, with a known slot and a loaded profile, and not while transmission is barred (R37,
R39). -/
def leaveAllowed (s : State) : Bool :=
  decide (s.sc.start = .relearn ∨ s.sc.start = .done) && (leaveCopyOf s.sc).isSome
    && !(decide (s.ae.engine = .stopped) && silentCause s.ae.cause)

/-- The Shelf Line Interface at a loss of seating (R37, R42): the queue is purged, and the LEAVE queued where it is allowed, with
its copy; a notice in flight ends as it would have, but does not return. -/
def leaveRequested (allowed : Bool) (copy : Option LeaveCopy) (l : LineInterface) : LineInterface :=
  let l1 := { purgeQueue l with clashCount := 0, periodic := none }
  if allowed then { l1 with queue := [{ kind := .leave, waited := 0, congested := false }], leaveCopy := copy } else l1

/-! ## Composition -/

/-- The amount field: the open bid's amount, else I_set while PRECHARGING is announced, else 0 (R33). -/
def announcedAmount (s : State) : Nat :=
  match s.ae.bid with
  | some b => b
  | none => if s.ae.engine = .powering then s.ae.iSet.getD 0 else 0

/-- The contents of a STANDING, a BID or a YIELD, composed from the own record as it stands (R33). -/
def composeOwn (s : State) : Option Notice :=
  match s.sc.profile, s.sc.slot, phaseOf s.ae.engine with
  | some p, some sl, some ph =>
    some { cls := p.cls, slot := sl, phase := ph, profile := s.ae.profile, bidOpen := bidOpen s, carrying := s.ae.carrying,
           handoverReq := s.rc.handoverReq, claim := Fin.ofNat 1024 (ownClaim s), amount := Fin.ofNat 1024 (announcedAmount s),
           capacity := Fin.ofNat 4096 p.f, mate := p.mate }
  | _, _, _ => none

/-- The contents of a LEAVE, from the copy R37 keeps: STOPPED, reduced, every flag clear, claim and amount 0 (R33). -/
def composeLeave (c : LeaveCopy) : Notice :=
  { cls := c.cls, slot := c.slot, phase := .stopped, profile := .reduced, bidOpen := false, carrying := false,
    handoverReq := false, claim := 0, amount := 0, capacity := Fin.ofNat 4096 c.f, mate := c.mate }

/-- The contents a queued kind is composed with now. -/
def composeNotice (k : NoticeKind) (s : State) : Option Notice :=
  match k with
  | .leave => s.sli.leaveCopy.map composeLeave
  | .standing => composeOwn s
  | .bid => composeOwn s
  | .yield => composeOwn s

/-- A transmission may begin: IDLE with the gap complete, no notice in flight, no clash wait, not barred (R26). -/
def mayTransmit (s : State) : Bool :=
  decide (s.sli.line = .idle) && decide (gapBits ≤ s.sli.gap) && s.sli.inFlight.isNone
    && decide (s.sli.clashWait = .stopped) && !(decide (s.ae.engine = .stopped) && silentCause s.ae.cause)

/-- TRANSMISSION_BEGIN (R26): the head notice is composed, becomes the notice in flight, and its start bit is driven. -/
def execTransmissionBegin (s : State) : Host.Outcome State Fault Refusal :=
  answer s
    (match s.sli.queue with
     | h :: rest =>
       match composeNotice h.kind s with
       | some n =>
         if mayTransmit s then
           { s with sli := { s.sli with
                             line := .busy, gap := 0, deaf := false, queue := rest
                             inFlight := some { kind := h.kind, waited := h.waited, congested := h.congested, contents := n,
                                                bits := encodeFrame h.kind n, dropped := false, voided := false,
                                                afterUpgrade := s.ae.profFullPending } } }
         else s
       | none => s
     | [] => s)

/-! ## Contention and the loopback -/

/-- LOST_ARBITRATION (R27): the notice returns to the queue and the rest of the frame is received as a listener's. -/
def execLostArbitration (s : State) : Host.Outcome State Fault Refusal :=
  answer s
    (match s.sli.inFlight with
     | some f => { s with sli := { returnNotice f s.sli with deaf := false } }
     | none => s)

/-- The checksum that times a clash wait (R28, R37): the copy's while a LEAVE keeps one, else the loaded image's, else a free
value. -/
def clashChecksum (s : State) : BitVec 16 :=
  match s.sli.leaveCopy, s.sc.profile with
  | some c, _ => c.checksum
  | none, some p => p.checksum
  | none, none => Config.freeChecksum s.freeCount

/-- The model's counter of free values after a clash: advanced where clashChecksum used one. -/
def freeCountAfterClash (s : State) : Nat :=
  match s.sli.leaveCopy, s.sc.profile with
  | none, none => s.freeCount + 1
  | _, _ => s.freeCount

/-- The clash wait of a checksum: 1 + (checksum modulo 16) ms (R28). -/
def clashWaitMs (c : BitVec 16) : Nat := 1 + c.toNat % 16

/-- CLASH (R28): the line is released, the notice returns to the queue, a clash wait awaits the next completed gap, and the rest
of the frame is not received. A clash with the count at 1 is a slot clash (R30). -/
def execClash (s : State) : Host.Outcome State Fault Refusal :=
  answer s
    (match s.sli.inFlight with
     | some f =>
       let s1 :=
         { s with sli := { returnNotice f s.sli with
                           deaf := true, clashCount := s.sli.clashCount + 1
                           clashWait := .awaitingGap (clashWaitMs (clashChecksum s)) },
                  freeCount := freeCountAfterClash s }
       if 1 ≤ s.sli.clashCount then slotClash s1 else s1
     | none => s)

/-- The end of a frame: IDLE with the gap count at 0 (R23). -/
def endFrame (l : LineInterface) : LineInterface := { l with line := .idle, gap := 0, deaf := false }

/-- One error in the current quality interval; the count saturates at 255 (R32). -/
def countError (l : LineInterface) : LineInterface := { l with errors := min 255 (l.errors + 1) }

/-- "Notice sent" (R29) as the engine takes it: the BID of an open bid opens its window (R81, R91); a STANDING begun after an
upgrade's success asserts PROF_FULL (R92); a sent LEAVE needs its copy no longer (R37). -/
def noticeSent (f : InFlight) (s : State) : State :=
  match f.kind with
  | .bid =>
    if f.voided = false ∧ (s.ae.engine = .bidding ∨ s.ae.engine = .admitted .upgradeBid) ∧ s.ae.window = none then
      { s with ae := { s.ae with window := some windowMs } }
    else s
  | .standing =>
    if f.afterUpgrade ∧ s.ae.profFullPending then
      raise .profile
        { s with held := { s.held with profFull := true }, ae := { s.ae with profFullPending := false } }
    else s
  | .yield => s
  | .leave => { s with sli := { s.sli with leaveCopy := none } }

/-- LOOPBACK (R29): sent where the sample after it is recessive; else the notice returns to the queue and the error counts. -/
def execLoopback (endRecessive : Bool) (s : State) : Host.Outcome State Fault Refusal :=
  answer s
    (match s.sli.inFlight with
     | some f =>
       if endRecessive then
         noticeSent f { s with sli := { endFrame s.sli with inFlight := none, clashCount := 0 } }
       else { s with sli := countError (returnNotice f (endFrame s.sli)) }
     | none => s)

/-! ## The line status and its presentation to the engine -/

/-- The engine's taking of a change of the line status (R77, R81, R91): WAITING evaluates; a bid that waits for the line closes
when the line worsens (entry into STUCK, or IMPAIRED becoming set). -/
def takeLineChange (worse : Bool) (s : State) : State :=
  match s.ae.engine with
  | .waiting => evaluateWaiting s
  | .bidding => if worse && !running s.ae.window then enterBackoff (closeBid s) else s
  | .admitted .upgradeBid => if worse && !running s.ae.window then failUpgrade s else s
  | _ => s

/-- DISTURBANCE (R23): in IDLE before the gap is complete, the gap count returns to 0 and one error counts, unless the first gap
since a reset has not completed yet. -/
def execDisturbance (s : State) : Host.Outcome State Fault Refusal :=
  answer s
    (if s.sli.line = .idle ∧ s.sli.gap < gapBits then
      { s with sli := { (if s.sli.gapSeen then countError s.sli else s.sli) with gap := 0 } }
    else s)

/-- LINE_STUCK (R25). -/
def execLineStuck (s : State) : Host.Outcome State Fault Refusal :=
  answer s
    (if s.sli.line = .stuck then s
    else takeLineChange true (raise .line { s with sli := { s.sli with line := .stuck, deaf := false, clashCount := 0 } }))

/-- A completed gap (R23), at which a clash wait that awaits it starts to run (R28). -/
def completedGap (l : LineInterface) : LineInterface :=
  { l with line := .idle, gap := gapBits, gapSeen := true, deaf := false,
           clashWait := match l.clashWait with | .awaitingGap ms => .running ms | .stopped => .stopped | .running ms => .running ms }

/-- LINE_FREED (R25): IDLE with the gap already complete. -/
def execLineFreed (s : State) : Host.Outcome State Fault Refusal :=
  answer s
    (if s.sli.line = .stuck then takeLineChange false (raise .line { s with sli := completedGap s.sli }) else s)

/-- GAP_COMPLETE (R23): in IDLE, or after the rest of a frame this station clashed in, whose end no command of its own tells. -/
def execGapComplete (s : State) : Host.Outcome State Fault Refusal :=
  answer s
    (if (s.sli.line = .idle ∧ s.sli.gap < gapBits) ∨ (s.sli.line = .busy ∧ s.sli.deaf ∧ s.sli.inFlight = none) then
      { s with sli := completedGap s.sli }
    else s)

/-- START_BIT (R23): a frame begins, and this station receives it. -/
def execStartBit (s : State) : Host.Outcome State Fault Refusal :=
  answer s
    (if s.sli.line = .idle ∧ gapBits ≤ s.sli.gap then
      { s with sli := { s.sli with line := .busy, gap := 0, deaf := false } }
    else s)

/-- CLASH_WAIT_EXPIRY (R28). -/
def execClashWaitExpiry (s : State) : Host.Outcome State Fault Refusal :=
  answer s
    (match s.sli.clashWait with
     | .running _ => { s with sli := { s.sli with clashWait := .stopped } }
     | _ => s)

/-- IMPAIRED at an interval's end (R32). -/
def impairedAfter (impaired : Bool) (errors : Nat) : Bool :=
  if 8 ≤ errors then true else if errors ≤ 1 then false else impaired

/-- QUALITY_INTERVAL_END (R32): the next interval begins with a count of 0, and a change of IMPAIRED raises LINE and is presented
to the engine. -/
def execQualityIntervalEnd (s : State) : Host.Outcome State Fault Refusal :=
  let now := impairedAfter s.sli.impaired s.sli.errors
  let s1 := { s with sli := { s.sli with errors := 0, quality := some qualityMs, impaired := now } }
  answer s (if now = s.sli.impaired then s1 else takeLineChange now (raise .line s1))

/-- TRANSMIT_CONGESTION (R38): the head notice has waited 250 ms; LINE is raised once for it. -/
def execTransmitCongestion (s : State) : Host.Outcome State Fault Refusal :=
  answer s
    (match s.sli.queue with
     | h :: rest =>
       if h.congested then s
       else
         raise .line
           { s with sli := { s.sli with queue := { h with waited := max h.waited congestionMs, congested := true } :: rest } }
     | [] => s)

/-- PERIODIC_NOTICE_EXPIRY (R40): the timer restarts and a STANDING is requested. -/
def execPeriodicNoticeExpiry (s : State) : Host.Outcome State Fault Refusal :=
  answer s
    (if running s.sli.periodic then
      requestNotice .standing { s with sli := { s.sli with periodic := some periodicMs } }
    else s)

end Sys2Proof.Machine
end

