-- ==== Sys2Proof/Machine/ShelfViewOps.lean ====
section
/-! DEFINITION. The Shelf View's arrivals and ageing (chapter 01) with the reception of frames (R24, R31): STANDING_NOTICE,
BID_NOTICE, YIELD_NOTICE, LEAVE_NOTICE, INVALID_FRAME, ENTRY_STALE and PEER_EXPIRED. -/

namespace Sys2Proof.Machine

/-- The events that a view change begins (R18, R20), from the state before the change. -/
def viewEvents (before s : State) : State :=
  raiseIf (!mateMismatch before && mateMismatch s) .mateMismatch
    (raiseIf (!capacityMismatch before && capacityMismatch s) .capacityMismatch s)

/-- A view change (R10), its table already written: its events; the Admission Engine's evaluation in WAITING (R77) or ADMITTED
(R88); the Retire Coordinator's look at the mate's entry (R155, R154, R145). -/
def viewChanged (before s : State) : State :=
  evaluateHandover (evaluateTakeover (maintainTakeover before (evaluateAdmitted (evaluateWaiting (viewEvents before s)))))

/-- A state with another table of entries. -/
def withTable (t : List Entry) (s : State) : State := { s with sv := { s.sv with table := t } }

/-- An arrival that finds an entry FRESH and rewrites every field with the value it holds (R10). -/
def onlyRefreshes (t : List Entry) (e : Entry) : Bool :=
  match lookup t e.slot with
  | some x => decide (x = { e with age := x.age })
  | none => false

/-- A STANDING, a BID or a YIELD at the open view creates or replaces its sender's entry (R5, R6, R7, R9). -/
def entryArrives (e : Entry) (s : State) : State :=
  let s1 := withTable (insertEntry e s.sv.table) s
  if onlyRefreshes s.sv.table e then s1 else viewChanged s s1

/-- A LEAVE at the open view removes its sender's entry (R8). -/
def entryLeaves (sl : Slot) (s : State) : State :=
  if (lookup s.sv.table sl).isSome then viewChanged s (withTable (removeEntry sl s.sv.table) s) else s

/-- A valid frame that is not the loopback: dropped by a closed view (R2), a slot clash where it bears the own slot (R30, R31),
and otherwise an arrival. -/
def deliver (k : NoticeKind) (n : Notice) (s : State) : State :=
  if s.sv.opened then
    if s.sc.slot = some n.slot then slotClash s
    else
      match k with
      | .leave => entryLeaves n.slot s
      | k => entryArrives (entryOf k n) s
  else s

/-- A frame whose start bit the station has taken stands on the line (R23): the line is BUSY, or it is IDLE with the gap complete and
the frame's own start bit begins it. Before the first gap completes since a reset, and in every gap that is not complete, no sample
is a start bit, and the station receives no frame. -/
def frameStands (l : LineInterface) : Bool := decide (l.line = .busy) || l.deaf || decide (l.line = .idle ∧ gapBits ≤ l.gap)

/-- A frame of another station stands on a line that is not STUCK (R25), with no notice of this station in flight (R29). -/
def listens (l : LineInterface) : Bool := decide (l.line ≠ .stuck) && l.inFlight.isNone && frameStands l

/-- A frame is received: the station listens, and the frame is not the remainder of one it clashed in (R28). -/
def receives (l : LineInterface) : Bool := listens l && !l.deaf

/-- The end of a frame on the line with this station listening (R23); deaf to it, the station only sees it end (R28). -/
def frameEnds (l : LineInterface) : LineInterface := if listens l then endFrame l else l

/-- A valid frame's reception, whole and at its end (R31). -/
def receiveValid (k : NoticeKind) (n : Notice) (s : State) : State :=
  let s1 := { s with sli := frameEnds s.sli }
  if receives s.sli then deliver k n s1 else s1

/-- A sampled frame's reception: delivered where it passes its end check and the checks of R31, and otherwise counted as one
error (R24, R31, R32). -/
def receiveBits (bits : BitVec 64) (endRecessive : Bool) (s : State) : State :=
  let s1 := { s with sli := frameEnds s.sli }
  if receives s.sli then
    match decodeFrame bits with
    | some (k, n) => if endRecessive then deliver k n s1 else { s1 with sli := countError s1.sli }
    | none => { s1 with sli := countError s1.sli }
  else s1

/-- A FRESH entry made STALE, every other field kept (R12). -/
def staleEntry (e : Entry) : Entry := { e with stale := true }

/-! ## The commands -/

/-- STANDING_NOTICE (R5). -/
def execStandingNotice (n : Notice) (s : State) : Host.Outcome State Fault Refusal := answer s (receiveValid .standing n s)

/-- BID_NOTICE (R6). -/
def execBidNotice (n : Notice) (s : State) : Host.Outcome State Fault Refusal := answer s (receiveValid .bid n s)

/-- YIELD_NOTICE (R7). -/
def execYieldNotice (n : Notice) (s : State) : Host.Outcome State Fault Refusal := answer s (receiveValid .yield n s)

/-- LEAVE_NOTICE (R8). -/
def execLeaveNotice (n : Notice) (s : State) : Host.Outcome State Fault Refusal := answer s (receiveValid .leave n s)

/-- INVALID_FRAME (R24, R31). Bits that do form a valid frame are delivered as one. -/
def execInvalidFrame (bits : BitVec 64) (endRecessive : Bool) (s : State) : Host.Outcome State Fault Refusal :=
  answer s (receiveBits bits endRecessive s)

/-- ENTRY_STALE (R12): the age of a FRESH entry has reached 200 ms, a view change. An arrival taken first has returned the age to 0,
and the event finds nothing (R14). -/
def execEntryStale (sl : Slot) (s : State) : Host.Outcome State Fault Refusal :=
  answer s
    (match lookup s.sv.table sl with
     | some e =>
       if e.stale ∨ e.age < staleMs then s else viewChanged s (withTable (insertEntry (staleEntry e) s.sv.table) s)
     | none => s)

/-- PEER_EXPIRED (R13): the age of an entry has reached 1000 ms; it is removed, the event is raised, and the view has changed. An
arrival taken first has returned the age to 0, and the event finds nothing (R14). -/
def execPeerExpired (sl : Slot) (s : State) : Host.Outcome State Fault Refusal :=
  answer s
    (match lookup s.sv.table sl with
     | some e =>
       if e.age < expireMs then s else viewChanged s (raise .peerExpired (withTable (removeEntry sl s.sv.table) s))
     | none => s)

end Sys2Proof.Machine
end

