-- ==== Sys2Proof/Machine/AdmissionOps.lean ====
section
/-! DEFINITION. The Admission Engine's own expiries and the payload's answers it takes (chapter 05): BID_WINDOW_EXPIRY,
BACKOFF_EXPIRY, COOLDOWN_EXPIRY, PROF_ACK_CHANGE, SHED_WAIT_EXPIRY, the three upgrade expiries and CARRYING_CHANGE. -/

namespace Sys2Proof.Machine

/-- The own record as a successful resolution leaves it (R83): POWERING with the evaluation's profile, I_set, reservation and D,
the bid removed and its window closed. -/
def poweringRecord (level : PowerLevel) (iSet resv deadline : Nat) (ae : OwnRecord) : OwnRecord :=
  { ae with engine := .powering, profile := level, bid := none, window := none, reservation := some resv, iSet := some iSet,
            deadline := some deadline }

/-- A successful resolution (R83), with the PRECHARGE command (R102). -/
def winBid (p : ProfileData) (level : PowerLevel) (iSet resv : Nat) (s : State) : State :=
  let d := prechargeDeadline p.cB s.fs.vF iSet
  commandPrecharge iSet d (announceFrom s { s with ae := poweringRecord level iSet resv d s.ae })

/-- The resolution of a bid at its window's expiry (R83, R84). -/
def resolveBid (s : State) : State :=
  match s.sc.profile, s.ae.vC with
  | some p, some vC =>
    match resolution p vC s with
    | some (level, iSet, resv) => winBid p level iSet resv s
    | none => enterBackoff (closeBid s)
  | _, _ => s

/-- A notice in flight at an upgrade's success does not complete the pending assertion (R92). -/
def beganBeforeUpgrade (l : LineInterface) : LineInterface :=
  { l with inFlight := l.inFlight.map (fun f => { f with afterUpgrade := false }) }

/-- A successful upgrade (R92), up to the overcommit test that its change of claim calls for (R88). -/
def upgraded (s : State) : State :=
  { s with ae := { s.ae with engine := .admitted .steady, profile := .full, bid := none, window := none,
                             profFullPending := true },
           sli := beganBeforeUpgrade s.sli }

/-- The resolution of an upgrade bid at its window's expiry (R92, R93). -/
def resolveUpgrade (s : State) : State :=
  match s.sc.profile, s.ae.vC with
  | some p, some vC => if upgradeResolution p vC s then evaluateAdmitted (upgraded s) else failUpgrade s
  | _, _ => s

/-! ## The commands -/

/-- BID_WINDOW_EXPIRY (R83). -/
def execBidWindowExpiry (s : State) : Host.Outcome State Fault Refusal :=
  answer s (if s.ae.engine = .bidding ∧ running s.ae.window then resolveBid s else s)

/-- BACKOFF_EXPIRY (R85). -/
def execBackoffExpiry (s : State) : Host.Outcome State Fault Refusal :=
  answer s
    (if s.ae.engine = .backoff ∧ running s.ae.backoff then
      enterWaiting { s with ae := { s.ae with backoff := none } }
    else s)

/-- COOLDOWN_EXPIRY (R96). -/
def execCooldownExpiry (s : State) : Host.Outcome State Fault Refusal :=
  answer s
    (if s.ae.engine = .cooldown ∧ running s.ae.cooldown then
      enterWaiting { s with ae := { s.ae with cooldown := none } }
    else s)

/-- PROF_ACK_CHANGE (R90): seen low in SHEDDING, it completes the shed. -/
def execProfAckChange (level : Bool) (s : State) : Host.Outcome State Fault Refusal :=
  let s1 := { s with inp := { s.inp with profAck := level } }
  answer s (if s.ae.engine = .admitted .shedding ∧ level = false then completeShed s1 else s1)

/-- SHED_WAIT_EXPIRY (R90). -/
def execShedWaitExpiry (s : State) : Host.Outcome State Fault Refusal :=
  answer s (if s.ae.engine = .admitted .shedding ∧ running s.ae.shedWait then completeShed s else s)

/-- UPGRADE_WINDOW_EXPIRY (R92). -/
def execUpgradeWindowExpiry (s : State) : Host.Outcome State Fault Refusal :=
  answer s (if s.ae.engine = .admitted .upgradeBid ∧ running s.ae.window then resolveUpgrade s else s)

/-- UPGRADE_HOLD_EXPIRY (R73). -/
def execUpgradeHoldExpiry (s : State) : Host.Outcome State Fault Refusal :=
  answer s { s with ae := { s.ae with upgradeHold := none } }

/-- UPGRADE_RETRY_HOLD_EXPIRY (R93). -/
def execUpgradeRetryHoldExpiry (s : State) : Host.Outcome State Fault Refusal :=
  answer s { s with ae := { s.ae with retryHold := none } }

/-- CARRYING_CHANGE (R76): copied into the own record in every state of the engine's own. It is a change by its sender's word, whatever
level was held (notes/assumptions/27.md). -/
def execCarryingChange (level : Bool) (s : State) : Host.Outcome State Fault Refusal :=
  answer s
    { s with inp := { s.inp with carryingLevel := level, carryingSettled := true },
             ae := { s.ae with carrying := if s.ae.engine = .none then s.ae.carrying else level } }

end Sys2Proof.Machine
end

