-- ==== Sys2Proof/WellFormed.lean ====
section
/-! DEFINITION. Which operand values spell a command of the table: the checks exec makes before it gives a command its
meaning. -/

namespace Sys2Proof

/-- The command codes of R188. -/
def commandCodes : List Byte := [0x01, 0x02, 0x03, 0x04, 0x05, 0xA5]

/-- The offsets whose writes have rows of their own: EVENTS, MASK, CMD and VIEWSEL (R172, 11_formats). -/
def writableOffsets : List Byte := [0x20, 0x21, 0x22, 0x23, 0x24, 0x27]

/-- An attempt that completes has read the whole image (R162): 110 bytes. -/
def imageLengthOk (image : List Byte) : Bool := image.length == 110

/-- UNKNOWN_COMMAND is the write of a code that names no command (R178). -/
def codeIsUnknown (code : Byte) : Bool := !commandCodes.contains code

/-- REGISTER_WRITE is a write to a read-only register or to an offset that no register occupies (R172). -/
def offsetIsDiscarding (offset : Byte) : Bool := !writableOffsets.contains offset

/-- A command is well formed where its operands are ones its row can have; every other operand type admits only such values. -/
def Instr.wellFormed : Instr → Bool
  | .profileAttemptComplete image _ => imageLengthOk image
  | .unknownCommand code => codeIsUnknown code
  | .registerWrite offset _ => offsetIsDiscarding offset
  | _ => true

end Sys2Proof
end

