-- ==== Sys2Proof/Machine/RetireOps.lean ====
section
/-! DEFINITION. The ejector latch, the timers of a retire (chapter 08), and the commands written to CMD other than RESTART (R178):
RETIRE, CANCEL_RETIRE, FORCE_RETIRE, CLEAR_FAULT, FORCE_OFF and an unknown code. -/

namespace Sys2Proof.Machine

/-! ## The latch -/

/-- What a closing does beyond the level and the timer (R143, R152, R153): a cancel of a latch retire, the return of its
discharge to WAITING, or the return from RELEASED. -/
def takeClosing (s : State) : State :=
  if s.ae.source = .latch ∧ cancellable s then honourCancel s
  else if s.ae.engine = .discharging ∧ s.ae.source = .latch then
    { s with ae := { s.ae with exit := .waiting, source := .none, cause := .none, subcause := none } }
  else if s.ae.engine = .released then
    enterWaiting
      { s with ae := { s.ae with source := .none,
                                 cause := if silentCause s.ae.cause then s.ae.cause else .none,
                                 subcause := if silentCause s.ae.cause then s.ae.subcause else none } }
  else s

/-- LATCH_OPENING (R141): the level, the force timer, and a retire request with source LATCH (R142). It is an opening by its sender's
word, whatever level was held (notes/assumptions/27.md). -/
def execLatchOpening (s : State) : Host.Outcome State Fault Refusal :=
  answer s
    (requestRetire .latch
      { s with rc := { s.rc with latchOpen := true, latchSettled := true, force := some forceMs } })

/-- LATCH_CLOSING (R141, R143, R152, R153): the force timer stops and the latch-held condition ends. It is a closing by its sender's
word, whatever level was held (notes/assumptions/27.md). -/
def execLatchClosing (s : State) : Host.Outcome State Fault Refusal :=
  answer s
    (takeClosing
      { s with rc := { s.rc with latchOpen := false, latchSettled := true, force := none, latchHeld := false } })

/-- EJECT_FIRST_SETTLING (R141): neither an opening nor a closing; once per reset. -/
def execEjectFirstSettling (opened : Bool) (s : State) : Host.Outcome State Fault Refusal :=
  answer s
    (if s.rc.latchSettled then s
    else
      { s with rc := { s.rc with latchOpen := opened, latchSettled := true,
                                 force := if opened then some forceMs else none } })

/-- FORCE_TIMER_EXPIRY (R141, R147): the latch-held condition begins. -/
def execForceTimerExpiry (s : State) : Host.Outcome State Fault Refusal :=
  answer s
    (if running s.rc.force then forceRetire { s with rc := { s.rc with force := none, latchHeld := true } } else s)

/-! ## The timers of a retire -/

/-- HANDOVER_TIMER_EXPIRY (R146). -/
def execHandoverTimerExpiry (s : State) : Host.Outcome State Fault Refusal :=
  answer s
    (if s.ae.engine = .retiring .handover ∧ running s.rc.handover then
      raise .held
        { s with ae := { s.ae with engine := .retiring .held }, rc := { s.rc with handover := none } }
    else s)

/-- QUIESCED_RISE (R148); a fall changes the level alone. -/
def execQuiescedRise (level : Bool) (s : State) : Host.Outcome State Fault Refusal :=
  let s1 := { s with inp := { s.inp with quiesced := level } }
  answer s (if s.ae.engine = .retiring .draining ∧ level then enterTeardown s1 else s1)

/-- QUIESCE_TIMEOUT (R148). -/
def execQuiesceTimeout (s : State) : Host.Outcome State Fault Refusal :=
  answer s
    (if s.ae.engine = .retiring .draining ∧ running s.rc.quiesce then enterTeardown (raise .quiesceTimeout s) else s)

/-! ## The commands of the local port -/

/-- The write of a code to CMD at 0x24: the command status takes the code and its result, and the offset advances (R172, R178).
The rows of the codes stand for a byte whose offset is CMD's (notes/assumptions/21.md). -/
def commandTaken (code : Byte) (r : CmdResult) (s : State) : State :=
  { s with lpi := { s.lpi with lastCmd := code, result := r, offset := 0x25, transaction := .writing } }

/-- ACCEPTED or REFUSED_STATE. -/
def acceptedIf (c : Bool) : CmdResult := if c then .accepted else .refusedState

/-- RETIRE (R142). -/
def execRetire (s : State) : Host.Outcome State Fault Refusal :=
  answer s (requestRetire .command (commandTaken 0x01 (acceptedIf (retireAccepted s)) s))

/-- The answer to CANCEL_RETIRE (R143, R170). -/
def cancelAnswer (s : State) : CmdResult :=
  if s.ae.engine = .none then .refusedState
  else
    match s.ae.source with
    | .none => .refusedState
    | .latch => .refusedSource
    | .command => acceptedIf (cancellable s)

/-- CANCEL_RETIRE (R143). -/
def execCancelRetire (s : State) : Host.Outcome State Fault Refusal :=
  let s1 := commandTaken 0x02 (cancelAnswer s) s
  answer s (if cancelAnswer s = .accepted then honourCancel s1 else s1)

/-- FORCE_RETIRE is accepted in HANDOVER and HELD (R147). -/
def forceAccepted (s : State) : Bool := decide (s.ae.engine = .retiring .handover ∨ s.ae.engine = .retiring .held)

/-- FORCE_RETIRE (R147). -/
def execForceRetire (s : State) : Host.Outcome State Fault Refusal :=
  answer s (forceRetire (commandTaken 0x03 (acceptedIf (forceAccepted s)) s))

/-- The causes that CLEAR_FAULT accepts (R97). -/
def clearableCause : FaultCause → Bool
  | .slotClash => true
  | .retryExhausted => true
  | .forcedOff => true
  | _ => false

/-- CLEAR_FAULT is accepted in STOPPED with such a cause (R97). -/
def clearAccepted (s : State) : Bool := decide (s.ae.engine = .stopped) && clearableCause s.ae.cause

/-- The own record cleared of its fault (R97). -/
def clearedRecord (ae : OwnRecord) : OwnRecord := { ae with cause := .none, subcause := none, retryCount := 0 }

/-- The clearing of a fault (R97): WAITING with its entry evaluation, or, with the path still TRIPPED, DISCHARGING with exit
WAITING. What is announced is compared with the state before, since STOPPED with SLOT_CLASH is silent. -/
def clearFault (before s : State) : State :=
  if s.pp.path = .tripped then
    completeDischarge (announceFrom before { s with ae := dischargingRecord .waiting (clearedRecord s.ae) })
  else
    evaluateWaiting
      (announceFrom before { s with ae := { clearedRecord s.ae with engine := .waiting, reason := .none, exit := .none } })

/-- CLEAR_FAULT (R97). -/
def execClearFault (s : State) : Host.Outcome State Fault Refusal :=
  let s1 := commandTaken 0x04 (acceptedIf (clearAccepted s)) s
  answer s (if clearAccepted s then clearFault s s1 else s1)

/-- FORCE_OFF is accepted in LOADING and RELEARN and in every state of the engine other than STOPPED with a silent cause (R95,
R170, R178). -/
def forceOffAccepted (s : State) : Bool :=
  match s.ae.engine with
  | .none => decide (s.sc.start = .loading ∨ s.sc.start = .relearn)
  | .stopped => !silentCause s.ae.cause
  | _ => true

/-- FORCE_OFF in a start state: the path opens, FAULT is raised and the forced-off mark set (R170). -/
def forceOffStarting (s : State) : State :=
  let s1 := raise .fault (openGates .opened s)
  { s1 with sc := { s1.sc with forcedOff := true } }

/-- FORCE_OFF in a state of the engine's own (R95): the path opens, an open bid closes with a YIELD, the retire source is
cleared, the cause becomes FORCED_OFF, FAULT is raised, and DISCHARGING is entered with exit STOPPED. -/
def forceOffRunning (s : State) : State :=
  let s1 := closeBid (openGates .opened s)
  enterDischarging .stopped
    (raise .fault { s1 with ae := { s1.ae with source := .none, cause := .forcedOff, subcause := none } })

/-- FORCE_OFF (R95, R170). -/
def execForceOff (s : State) : Host.Outcome State Fault Refusal :=
  let s1 := commandTaken 0x05 (acceptedIf (forceOffAccepted s)) s
  answer s
    (if forceOffAccepted s then (if s.ae.engine = .none then forceOffStarting s1 else forceOffRunning s1) else s1)

/-- UNKNOWN_COMMAND (R178): the command status and nothing else. -/
def execUnknownCommand (code : Byte) (s : State) : Host.Outcome State Fault Refusal :=
  if codeIsUnknown code then .next (commandTaken code .unknown s) else .refused .illFormed

end Sys2Proof.Machine
end

