-- ==== Sys2Proof/Machine/StartOps.lean ====
section
/-! DEFINITION. Start Control (chapter 09): seating, loading, relearning and reconcile, with SEATED_DEBOUNCED_SEATED,
LOSS_OF_SEATING, SETTLE_EXPIRY, PROFILE_ATTEMPT_COMPLETE, PROFILE_NO_RESPONSE, ATTEMPT_TIMER_EXPIRY and RELEARN_EXPIRY. -/

namespace Sys2Proof.Machine

/-! ## Loading -/

/-- A stop in LOADING (R164): a closed path opens, the engine is in STOPPED with the cause and FAULT is raised; the forced-off and
trip-pending marks clear (R170, R115). -/
def stopLoading (cause : FaultCause) (s : State) : State :=
  let s1 := openGates .opened s
  raise .fault
    { s1 with ae := { s1.ae with engine := .stopped, cause := cause, subcause := none, carrying := s1.inp.carryingLevel },
              sc := { s1.sc with start := .done, attempt := none, forcedOff := false },
              pp := { s1.pp with tripPending := false } }

/-- A third failed attempt makes the profile bad, with the load subcause of that attempt (R162, R164). -/
def stopProfileBad (sub : LoadSubcause) (s : State) : State :=
  stopLoading .profileBad { s with sc := { s.sc with attempts := 3, loadSub := sub } }

/-- The next attempt begins (R162): the count advances and the timer starts. With PM_SDA held low it fails at once, and so does
each that follows it in the same event. -/
def beginAttempt (pmSdaLow : Bool) (s : State) : State :=
  if pmSdaLow then stopProfileBad .noResponse s
  else { s with sc := { s.sc with attempts := s.sc.attempts + 1, attempt := some attemptMs } }

/-- A failed attempt (R162). -/
def failLoad (sub : LoadSubcause) (pmSdaLow : Bool) (s : State) : State :=
  if 3 ≤ s.sc.attempts then stopProfileBad sub s
  else beginAttempt pmSdaLow { s with sc := { s.sc with loadSub := sub } }

/-- The ones among GA4..GA0 and GAP are odd in number (R161). -/
def parityHolds (st : Straps) : Bool :=
  let ga := BitVec.ofFin (w := 5) st.ga
  st.gap ^^ (ga.getLsbD 0 ^^ ga.getLsbD 1 ^^ ga.getLsbD 2 ^^ ga.getLsbD 3 ^^ ga.getLsbD 4)

/-- Entry into LOADING (R161). -/
def enterLoading (st : Straps) (s : State) : State :=
  let s1 :=
    { s with sc := { s.sc with start := .loading, slot := none, profile := none, attempts := 0, settle := none,
                               attempt := none, relearn := none } }
  if parityHolds st then beginAttempt st.pmSdaLow { s1 with sc := { s1.sc with slot := some st.ga } }
  else stopLoading .gaParity s1

/-- The claimed profile that PROF_FULL shows at the end of LOADING with the main switch closed (R168). -/
def levelFromStrobe (p : ProfileData) (profFull : Bool) : PowerLevel :=
  if profFull then .full else if p.pRed.isSome then .reduced else .full

/-- The loading completes (R163): the image's values are taken, V_c is formed, the Power Path takes its copies, and RELEARN is
entered with the view open and empty (R165). -/
def completeLoading (p : ProfileData) (clamped : Bool) (s : State) : State :=
  raiseIf clamped .profileClamped
    { s with
      sc := { s.sc with start := .relearn, profile := some p, attempt := none, relearn := some relearnMs, loadSub := .none }
      ae := { s.ae with
              vC := some (claimVoltage p (vMin8 s)),
              profile := if mainClosed s then levelFromStrobe p s.held.profFull else s.ae.profile }
      pp := { s.pp with iMin := p.iMin, vSag := p.vSag, iTrip := p.iTrip }
      sv := { opened := true, table := [] } }

/-! ## Reconcile -/

/-- Every step of the table is up (R122, R167). -/
def allStepsUp (s : State) : Bool := (stepTable s).all (fun r => stepIsUp r.action s.held)

/-- Reconcile by the held domain (R167, step 3). -/
def reconcile (s : State) : State :=
  if mainClosed s then
    if allStepsUp s then enterAdmitted (commandUp s)
    else runReconcile (announceFrom s { s with ae := { s.ae with engine := .bringup } })
  else enterWaiting { s with ae := { s.ae with profile := .reduced } }

/-- A standing trip taken at reconcile (R167, step 1), the discharge's completion left to the end of the event. -/
def takeStandingTrip (s : State) : State := beginRetry .trip { s with pp := { s.pp with tripPending := false } }

/-- The forced-off mark taken at reconcile (R167, step 2; R170). -/
def takeForcedOff (s : State) : State :=
  let s1 :=
    { s with sc := { s.sc with forcedOff := false }, ae := { s.ae with cause := .forcedOff, subcause := none } }
  if s.ae.engine = .discharging then { s1 with ae := { s1.ae with exit := .stopped } } else beginDischarging .stopped s1

/-- A trip stands at the relearn timer's expiry (R115, R167). -/
def tripStands (s : State) : Bool := decide (s.pp.path = .tripped) || s.pp.tripPending

/-- The first state of the engine's own (R167, steps 1 to 3). -/
def firstState (s : State) : State :=
  let s1 := if tripStands s then takeStandingTrip s else s
  if s.sc.forcedOff then takeForcedOff s1 else if tripStands s then s1 else reconcile s1

/-- What the ejector latch adds (R141, R156, R167): closed, a DRAIN found asserted is deasserted; open, a retire request, after the
entry evaluation of WAITING (notes/assumptions/31.md). -/
def firstLatchRule (s : State) : State :=
  if s.rc.latchOpen then requestRetire .latch s else { s with held := { s.held with drain := false } }

/-- The end of RELEARN (R167): DONE, with CARRYING copied first (R76); a discharge begun in it completes at its end. -/
def finishRelearn (s : State) : State :=
  completeDischarge
    (firstLatchRule
      (firstState
        { s with sc := { s.sc with start := .done, relearn := none }, ae := { s.ae with carrying := s.inp.carryingLevel } }))

/-! ## Seating -/

/-- The Power Path at a loss of seating, once opened (R115, R119). -/
def unseatedPath (pp : PowerPath) : PowerPath :=
  { pp with iSet := 0, deadline := 0, ramp := 0, limit := 0, foldback := false, half := false, elapsed := 0, closing := none,
            slowCount := 0, overCount := 0, overclaim := false, slowMark := false, tripPending := false }

/-- The Retire Coordinator at a loss of seating (R140): the latch level, the force timer and the latch-held condition stay. -/
def unseatedRetire (rc : RetireCoordinator) : RetireCoordinator :=
  { rc with handover := none, quiesce := none, handoverReq := false, mateGone := false }

/-- A loss of seating from LOADING on (R157). -/
def unseat (s : State) : State :=
  let s1 := openGates .opened s
  { s1 with
    sli := leaveRequested (leaveAllowed s) (leaveCopyOf s.sc) s1.sli
    sv := ShelfView.empty
    ae := OwnRecord.reset
    pp := unseatedPath s1.pp
    held := HeldOutputs.deasserted
    bp := BringUp.reset
    rc := unseatedRetire s1.rc
    sc := StartControl.reset }

/-- The queue at a new seating (R42): emptied, an unsent LEAVE removed with its copy; a notice in flight does not return, and the
clash count is 0. -/
def seatedAgainLine (l : LineInterface) : LineInterface :=
  { purgeQueue l with
    clashCount := 0
    leaveCopy := match l.inFlight with | some f => if f.kind = .leave then l.leaveCopy else none | none => none }

/-! ## The commands -/

/-- SEATED_DEBOUNCED_SEATED (R160): in UNSEATED. -/
def execSeatedDebouncedSeated (s : State) : Host.Outcome State Fault Refusal :=
  answer s
    (if s.sc.start = .unseated then
      { s with sc := { s.sc with start := .settling, seated := true, settle := some settleMs }, sli := seatedAgainLine s.sli }
    else s)

/-- The return from SETTLING (R160): no LEAVE, and nothing emptied. The Power Path takes its values of R119, which clears a
DISCHARGE_SLOW mark (R115, R157), and the clash count returns to 0 by R42 (notes/assumptions/30.md). -/
def returnToUnseated (s : State) : State :=
  { s with sc := { s.sc with start := .unseated, seated := false, settle := none }, pp := unseatedPath s.pp,
           sli := { s.sli with clashCount := 0 } }

/-- LOSS_OF_SEATING (R157, R160). -/
def execLossOfSeating (s : State) : Host.Outcome State Fault Refusal :=
  answer s
    (match s.sc.start with
     | .unseated => { s with sc := { s.sc with seated := false } }
     | .settling => returnToUnseated s
     | _ => unseat s)

/-- SETTLE_EXPIRY (R160, R161). -/
def execSettleExpiry (straps : Straps) (s : State) : Host.Outcome State Fault Refusal :=
  answer s (if s.sc.start = .settling ∧ running s.sc.settle then enterLoading straps s else s)

/-- An attempt is in progress (R162). -/
def attemptRuns (s : State) : Bool := decide (s.sc.start = .loading) && running s.sc.attempt

/-- PROFILE_ATTEMPT_COMPLETE (R162, R163). -/
def execProfileAttemptComplete (image : List Byte) (pmSdaLow : Bool) (s : State) : Host.Outcome State Fault Refusal :=
  if imageLengthOk image then
    answer s
      (if attemptRuns s then
        match loadImage image with
        | .ok (p, clamped) => completeLoading p clamped s
        | .error sub => failLoad sub pmSdaLow s
      else s)
  else .refused .illFormed

/-- PROFILE_NO_RESPONSE (R162, R186). -/
def execProfileNoResponse (pmSdaLow : Bool) (s : State) : Host.Outcome State Fault Refusal :=
  answer s (if attemptRuns s then failLoad .noResponse pmSdaLow s else s)

/-- ATTEMPT_TIMER_EXPIRY (R162). -/
def execAttemptTimerExpiry (pmSdaLow : Bool) (s : State) : Host.Outcome State Fault Refusal :=
  answer s (if attemptRuns s then failLoad .noResponse pmSdaLow s else s)

/-- RELEARN_EXPIRY (R167). -/
def execRelearnExpiry (s : State) : Host.Outcome State Fault Refusal :=
  answer s (if s.sc.start = .relearn ∧ running s.sc.relearn then finishRelearn s else s)

end Sys2Proof.Machine
end

