-- ==== Sys2Proof/Machine/ResetOps.lean ====
section
/-! DEFINITION. The resets (R159, R166): POWER_ON_RESET, RESTART_N_FALL and RESTART, and the debouncers' first settlings (R1). -/

namespace Sys2Proof.Machine

/-- The port address: 0x58 plus the value on PADR0..1 (R172). -/
def portAddress (padr : Fin 4) : BitVec 7 := BitVec.ofNat 7 (0x58 + padr.val)

/-- The Power Path after a power-on reset with the samples of the reset event (R101, R119). -/
def poweredPath (sense : ResetSense) : PowerPath :=
  { PowerPath.reset with vBulk := reading sense.vBulk, iLoad := reading sense.iLoad,
                         discharged := bulkDischarged (reading sense.vBulk) }

/-- Start Control after a power-on reset (R159). -/
def poweredStart (seated : Bool) : StartControl :=
  { StartControl.reset with start := if seated then .settling else .unseated, seated := seated,
                            settle := if seated then some settleMs else none }

/-- The station after a power-on reset, the waiting commands kept (R159). -/
def powerOn (seated : Bool) (sense : ResetSense) (answers : Answers) (s : State) : State :=
  { State.reset with
    fs := classifiedFeeds sense.feedA sense.feedB
    pp := poweredPath sense
    inp := { Inputs.reset with railPg := answers.railPg, payReady := answers.payReady, quiesced := answers.quiesced,
                               profAck := answers.profAck }
    lpi := { LocalPort.reset with address := portAddress sense.padr }
    sc := poweredStart seated
    freeCount := s.freeCount
    pending := s.pending }

/-- POWER_ON_RESET (R159). -/
def execPowerOnReset (seated : Bool) (sense : ResetSense) (answers : Answers) (s : State) :
    Host.Outcome State Fault Refusal :=
  .next (powerOn seated sense answers s)

/-- The Power Path after a controller restart, by its path state at the restart (R115, R119). -/
def restartedPath (sense : ResetSense) (pp : PowerPath) : PowerPath :=
  let v := reading sense.vBulk
  let done := bulkDischarged v
  let cleared := { PowerPath.reset with vBulk := v, iLoad := reading sense.iLoad, discharged := done,
                                        iMin := pp.iMin, vSag := pp.vSag, iTrip := pp.iTrip }
  match pp.path with
  | .opened => cleared
  | .precharge => { cleared with discharge := if done then none else some dischargeMs }
  | .closing => { cleared with discharge := if done then none else some dischargeMs }
  | .closed => { cleared with path := .closed, discharged := false }
  | .tripped => { cleared with path := if done then .opened else .tripped }

/-- The own record from the restart event on (R75, R168): its reset values, but the claimed profile and the claim of a station
whose main switch stays closed. -/
def restartedRecord (s : State) : OwnRecord :=
  if mainClosed s then { OwnRecord.reset with profile := s.ae.profile, keptClaim := ownClaim s } else OwnRecord.reset

/-- The Local Port after a controller restart (R179, R183). -/
def restartedPort (sense : ResetSense) (code : Byte) (r : CmdResult) : LocalPort :=
  { LocalPort.reset with flags := flagWord .restarted, lastCmd := code, result := r, address := portAddress sense.padr }

/-- The logic domain's reset (R166): every block takes its restart values; the held domain, the debounced SEATED level and the
Power Path's copies stay. -/
def resetLogic (sense : ResetSense) (code : Byte) (r : CmdResult) (s : State) : State :=
  { s with
    fs := classifiedFeeds sense.feedA sense.feedB
    sli := LineInterface.reset
    sv := ShelfView.empty
    ae := restartedRecord s
    pp := restartedPath sense s.pp
    bp := BringUp.reset
    rc := { RetireCoordinator.reset with mateGone := s.held.takeover }
    inp := { s.inp with stepLevel := false, stepSettled := false, carryingLevel := false, carryingSettled := false }
    lpi := restartedPort sense code r
    sc := { StartControl.reset with seated := s.sc.seated } }

/-- A controller restart (R166): a feed found HIGH is a feed fault of the reset event (R52, R55); then LOADING, or UNSEATED. -/
def restart (sense : ResetSense) (straps : Straps) (code : Byte) (r : CmdResult) (s : State) : State :=
  let s1 := resetLogic sense code r s
  let s2 := if overvoltage s1.fs then feedFault .feedOv s1 else s1
  if s.sc.seated then enterLoading straps s2 else s2

/-- RESTART_N_FALL (R166): the command status reads none, NONE (R179). -/
def execRestartNFall (sense : ResetSense) (straps : Straps) (s : State) : Host.Outcome State Fault Refusal :=
  .next (restart sense straps 0x00 .none s)

/-- RESTART (R166, R179): the command status reads RESTART, ACCEPTED. -/
def execRestart (sense : ResetSense) (straps : Straps) (s : State) : Host.Outcome State Fault Refusal :=
  .next (restart sense straps 0xA5 .accepted s)

/-- DEBOUNCER_FIRST_SETTLING (R1): the first settling since the last reset sets the level, and is neither an edge nor a change. -/
def execDebouncerFirstSettling (which : Debounced) (level : Bool) (s : State) : Host.Outcome State Fault Refusal :=
  .next
    (match which with
     | .stepInput =>
       if s.inp.stepSettled then s else { s with inp := { s.inp with stepLevel := level, stepSettled := true } }
     | .carryingInput =>
       if s.inp.carryingSettled then s
       else { s with inp := { s.inp with carryingLevel := level, carryingSettled := true } })

end Sys2Proof.Machine
end

