-- ==== Sys2Proof/Machine/LocalPortOps.lean ====
section
/-! DEFINITION. The registers of the local port as they read (11_formats, R188), the snapshot buffers (R173), and the port's own
commands: EVENTS_CLEAR, MASK_WRITE, VIEWSEL_WRITE, OFFSET_WRITE, REGISTER_WRITE, SNAPSHOT_READ, VIEWDATA_READ and
LAMP_BLINK_TOGGLE. -/

namespace Sys2Proof.Machine

/-! ## Codes -/

/-- A byte of a value. -/
def byteOf (v : Nat) : Byte := BitVec.ofNat 8 v

/-- A two-byte number, its most significant byte first (11_formats). -/
def twoBytes (v : Nat) : List Byte := [byteOf (v / 256), byteOf v]

/-- A bit of a given weight. -/
def bit (c : Bool) (weight : Nat) : Nat := if c then weight else 0

/-- Start states (11_formats, STATUS 0x00). -/
def startCode : StartState → Nat
  | .unseated => 0
  | .settling => 1
  | .loading => 2
  | .relearn => 3
  | .done => 4

/-- Waiting reasons (STATUS 0x01). -/
def reasonCode : WaitReason → Nat
  | .none => 0
  | .feed => 1
  | .line => 2
  | .denied => 3
  | .busy => 4
  | .noRoom => 5

/-- Engine states (STATUS 0x01). -/
def engineCode : Engine → Nat
  | .none => 0
  | .waiting => 1
  | .bidding => 2
  | .backoff => 3
  | .powering => 4
  | .bringup => 5
  | .admitted _ => 6
  | .retiring _ => 7
  | .discharging => 8
  | .cooldown => 9
  | .released => 10
  | .stopped => 11

/-- The substate of ADMITTED, 0 outside it (STATUS 0x02). -/
def admittedCode : Engine → Nat
  | .admitted .upgradeBid => 1
  | .admitted .shedding => 2
  | _ => 0

/-- The substate of RETIRING, 0 outside it (STATUS 0x02). -/
def retiringCode : Engine → Nat
  | .retiring .held => 1
  | .retiring .draining => 2
  | .retiring .teardown => 3
  | _ => 0

/-- Discharge exits (STATUS 0x02). -/
def exitCode : DischargeExit → Nat
  | .none => 0
  | .waiting => 1
  | .cooldown => 2
  | .released => 3
  | .stopped => 4

/-- The announced phase in its frame code; 7 while silent (STATUS 0x03). -/
def announcedCode (s : State) : Nat :=
  match announcedPhase s with
  | some p => (phaseCode p).toNat
  | none => 7

/-- Path states (STATUS 0x04). -/
def pathCode : PathState → Nat
  | .opened => 0
  | .precharge => 1
  | .closing => 2
  | .closed => 3
  | .tripped => 4

/-- Retire sources (STATUS 0x04). -/
def sourceCode : RetireSource → Nat
  | .none => 0
  | .latch => 1
  | .command => 2

/-- Program states (STATUS 0x05). -/
def programCode : ProgramState → Nat
  | .off => 0
  | .forward => 1
  | .up => 2
  | .teardown => 3

/-- The substate of a forward run, 0 outside FORWARD (STATUS 0x05). -/
def forwardCode (bp : BringUp) : Nat :=
  match bp.prog, bp.sub with
  | .forward, .condition => 1
  | .forward, .dwell => 2
  | _, _ => 0

/-- Line statuses (STATUS 0x08). -/
def lineCode : LineStatus → Nat
  | .idle => 0
  | .busy => 1
  | .stuck => 2

/-- Fault causes (R188). -/
def causeCode : FaultCause → Nat
  | .none => 0
  | .prechargeTimeout => 1
  | .closeFail => 2
  | .trip => 3
  | .bringupTimeout => 4
  | .feedUv => 5
  | .feedOv => 6
  | .retryExhausted => 7
  | .forcedOff => 8
  | .slotClash => 9
  | .gaParity => 10
  | .profileBad => 11

/-- Load subcauses (R188). -/
def loadSubCode : LoadSubcause → Nat
  | .none => 0
  | .noResponse => 1
  | .format => 2
  | .version => 3
  | .checksum => 4
  | .steps => 5

/-- The subcause byte: the counted fault of RETRY_EXHAUSTED, the load subcause of PROFILE_BAD, else 0 (R188). -/
def subcauseCode (s : State) : Nat :=
  match s.ae.cause, s.ae.subcause with
  | .retryExhausted, some c => causeCode (causeOf c)
  | .profileBad, _ => loadSubCode s.sc.loadSub
  | _, _ => 0

/-- Feed states (11_formats, FEEDS). -/
def feedCode : FeedState → Nat
  | .absent => 0
  | .low => 1
  | .good => 2
  | .high => 3

/-- Command results (R188). -/
def resultCode : CmdResult → Nat
  | .none => 0
  | .accepted => 1
  | .refusedState => 2
  | .refusedSource => 3
  | .unknown => 4

/-! ## The fields as they read -/

/-- The nine bytes of STATUS (11_formats). -/
def statusBytes (s : State) : List Byte :=
  [ byteOf (startCode s.sc.start * 32 + (match s.sc.slot with | some sl => sl.val | none => 0)),
    byteOf (bit s.sc.slot.isSome 128 + reasonCode s.ae.reason * 16 + engineCode s.ae.engine),
    byteOf (admittedCode s.ae.engine * 64 + retiringCode s.ae.engine * 16 + exitCode s.ae.exit * 2 + bit s.ae.bringupFault 1),
    byteOf (announcedCode s * 32 + bit (bidOpen s) 16 + bit s.rc.handoverReq 8 + bit s.ae.carrying 4
      + bit s.ae.profFullPending 2 + bit s.ae.excursion 1),
    byteOf (pathCode s.pp.path * 32 + bit s.pp.foldback 16 + bit s.pp.discharged 8 + sourceCode s.ae.source * 2
      + bit s.rc.latchOpen 1),
    byteOf (programCode s.bp.prog * 64 + forwardCode s.bp * 16 + s.bp.pointer % 16),
    byteOf (s.held.rails.toNat * 16 + s.held.lanes.toNat * 4 + bit s.held.clk 2 + bit s.held.payRst 1),
    byteOf (bit s.held.profFull 128 + bit s.held.drain 64 + bit s.held.takeover 32
      + bit (decide (s.bp.prog = .forward) && s.bp.reconcile) 16 + bit (mainClosed s) 8),
    byteOf (lineCode s.sli.line * 64 + bit s.sli.impaired 32 + bit (capacityMismatch s) 16 + bit (mateMismatch s) 8
      + s.sli.queue.length % 8) ]

/-- Feed bytes: the state in bits 15..14, the latest sample in bits 9..0 (11_formats, FEEDS). -/
def feedBytes (f : Feed) : List Byte := twoBytes (feedCode f.state * 16384 + f.sample)

/-- The five bytes of FEEDS (11_formats, R54). -/
def feedsBytes (fs : FeedSupervisor) : List Byte :=
  byteOf (bit (singleFeed fs) 128 + bit fs.uv 64 + bit (overvoltage fs) 32 + bit (feedsFit fs) 16)
    :: (feedBytes fs.a ++ feedBytes fs.b)

/-- The thirteen bytes of a present view record (11_formats, VIEWDATA). -/
def entryBytes (e : Entry) : List Byte :=
  [ byteOf (128 + e.rank),
    byteOf ((phaseCode e.phase).toNat * 32 + bit (levelIsFull e.profile) 16 + bit e.bidOpen 8 + bit e.carrying 4
      + bit e.handoverReq 2 + bit e.stale 1) ]
    ++ twoBytes e.claim.val ++ twoBytes e.amount.val ++ twoBytes (bit e.capValid 32768 + e.capacity.val)
    ++ [byteOf (match e.mate with | some m => 128 + m.val | none => 0)]
    ++ twoBytes (match e.bid with | some b => 32768 + b.val | none => 0)
    ++ twoBytes e.age

/-- The entry that VIEWSEL names: none for a slot without an entry, the own slot, a value above 31 or a closed view (R174). -/
def selectedEntry (s : State) : Option Entry :=
  if h : s.lpi.viewSel.toNat < 32 then
    if s.sv.opened && decide (s.sc.slot ≠ some ⟨s.lpi.viewSel.toNat, h⟩) then lookup s.sv.table ⟨s.lpi.viewSel.toNat, h⟩
    else none
  else none

/-- The thirteen bytes of VIEWDATA (R174). -/
def viewBytes (s : State) : List Byte :=
  match selectedEntry s with
  | some e => entryBytes e
  | none => List.replicate 13 0

/-- A multi-byte field as the owning block holds it now (R173, 11_formats). A closed view reads CEFF and LC as 0 (R188). -/
def fieldBytes (f : PortField) (s : State) : List Byte :=
  match f with
  | .status => statusBytes s
  | .fault => [byteOf (causeCode s.ae.cause), byteOf (subcauseCode s), byteOf s.bp.timedOut]
  | .claim => twoBytes (bit (levelIsFull s.ae.profile) 32768 + ownClaim s)
  | .ceff => twoBytes (if s.sv.opened then ownCEff s else 0)
  | .lc => twoBytes (if s.sv.opened then committedLoad s.sv.table else 0)
  | .vf => twoBytes s.fs.vF
  | .vmin8 => twoBytes (vMin8 s)
  | .vbulk => twoBytes s.pp.vBulk
  | .iload => twoBytes s.pp.iLoad
  | .feeds => feedsBytes s.fs
  | .events => [s.lpi.flags.extractLsb' 0 8, s.lpi.flags.extractLsb' 8 8]
  | .mask => [s.lpi.mask.extractLsb' 0 8, s.lpi.mask.extractLsb' 8 8]
  | .cmdstat => [s.lpi.lastCmd, byteOf (resultCode s.lpi.result)]
  | .viewdata => viewBytes s

/-! ## Offsets -/

/-- The multi-byte fields, each with its first offset and its width (11_formats). -/
def portMap : List (PortField × Nat × Nat) :=
  [(.status, 0x00, 9), (.fault, 0x09, 3), (.claim, 0x0C, 2), (.ceff, 0x0E, 2), (.lc, 0x10, 2), (.vf, 0x12, 2),
   (.vmin8, 0x14, 2), (.vbulk, 0x16, 2), (.iload, 0x18, 2), (.feeds, 0x1A, 5), (.events, 0x20, 2), (.mask, 0x22, 2),
   (.cmdstat, 0x25, 2), (.viewdata, 0x28, 13)]

/-- The field an offset lies in, and the index of its byte there. -/
def placeOf (o : Byte) : Option (PortField × Nat) :=
  match portMap.find? (fun r => decide (r.2.1 ≤ o.toNat ∧ o.toNat < r.2.1 + r.2.2)) with
  | some (f, first, _) => some (f, o.toNat - first)
  | none => none

/-- A byte read outside the multi-byte fields: RETRIES, VIEWSEL, and 0 at CMD and at an offset that no register occupies (R172). -/
def singleByte (o : Byte) (s : State) : Byte :=
  if o = 0x1F then byteOf (retryLimit s * 16 + s.ae.retryCount) else if o = 0x27 then s.lpi.viewSel else 0

/-- The snapshot buffers with a field's loaded (R173). -/
def loadBuffer (f : PortField) (bytes : List Byte) (bs : List Snapshot) : List Snapshot :=
  { field := f, bytes := bytes } :: bs.filter (fun b => decide (b.field ≠ f))

/-- A byte of a field's buffer; a buffer never loaded is 0 (R183). -/
def bufferByte (f : PortField) (i : Nat) (bs : List Snapshot) : Byte :=
  match bs.find? (fun b => decide (b.field = f)) with
  | some b => b.bytes.getD i 0
  | none => 0

/-- The buffers after a read at an offset: a field's first byte loads its buffer (R173). -/
def buffersAfter (o : Byte) (s : State) : List Snapshot :=
  match placeOf o with
  | some (f, 0) => loadBuffer f (fieldBytes f s) s.lpi.buffers
  | _ => s.lpi.buffers

/-- The byte that a read at an offset returns: of a multi-byte field, always from its buffer (R172, R173). -/
def byteRead (o : Byte) (s : State) : Byte :=
  match placeOf o with
  | some (f, i) => bufferByte f i (buffersAfter o s)
  | none => singleByte o s

/-- A data byte read at an offset; the offset advances by 1, from 0xFF to 0x00 (R172). -/
def portRead (o : Byte) (s : State) : State :=
  { s with lpi := { s.lpi with buffers := buffersAfter o s, readByte := byteRead o s, offset := o + 1, transaction := .reading } }

/-! ## The commands -/

/-- The port after a byte written at an offset: the offset has advanced, in a write transaction (R172). -/
def written (o : Byte) (lpi : LocalPort) : LocalPort := { lpi with offset := o + 1, transaction := .writing }

/-- The offset of a byte of EVENTS, and of MASK two above it (11_formats). -/
def eventsOffset (high : Bool) : Byte := if high then 0x21 else 0x20

/-- EVENTS_CLEAR (R176). -/
def execEventsClear (high : Bool) (value : PortByte) (s : State) : Host.Outcome State Fault Refusal :=
  .next
    (writeByte value (eventsOffset high)
      (fun s => { s with lpi := { written (eventsOffset high) s.lpi with flags := flagsCleared s.lpi.flags high value.value } }) s)

/-- MASK_WRITE (R177). -/
def execMaskWrite (high : Bool) (value : PortByte) (s : State) : Host.Outcome State Fault Refusal :=
  .next
    (writeByte value (eventsOffset high + 2)
      (fun s => { s with lpi := { written (eventsOffset high + 2) s.lpi with mask := maskWritten s.lpi.mask high value.value } }) s)

/-- VIEWSEL_WRITE (R174): the buffer is not reloaded. -/
def execViewselWrite (value : PortByte) (s : State) : Host.Outcome State Fault Refusal :=
  .next (writeByte value 0x27 (fun s => { s with lpi := { written 0x27 s.lpi with viewSel := value.value } }) s)

/-- OFFSET_WRITE (R172): a write transaction begins, and its offset byte sets the current offset. -/
def execOffsetWrite (offset : Byte) (s : State) : Host.Outcome State Fault Refusal :=
  .next { s with lpi := { s.lpi with offset := offset, transaction := .writing } }

/-- REGISTER_WRITE (R172): acknowledged and discarded; the offset advances. -/
def execRegisterWrite (offset : Byte) (value : PortByte) (s : State) : Host.Outcome State Fault Refusal :=
  if offsetIsDiscarding offset then .next (writeByte value offset (fun s => { s with lpi := written offset s.lpi }) s)
  else .refused .illFormed

/-- SNAPSHOT_READ (R172, R173): with no offset byte before it, at the current offset. -/
def execSnapshotRead (offset : Option Byte) (s : State) : Host.Outcome State Fault Refusal :=
  .next (portRead (offset.getD s.lpi.offset) s)

/-- VIEWDATA_READ (R174): the read of VIEWDATA's first byte. -/
def execViewdataRead (s : State) : Host.Outcome State Fault Refusal := .next (portRead 0x28 s)

/-- LAMP_BLINK_TOGGLE (R182): the end of a half-period; a steady or dark pattern has none. -/
def execLampBlinkToggle (s : State) : Host.Outcome State Fault Refusal :=
  .next
    (if running s.lpi.lampTimer then
      { s with lpi := { s.lpi with lampLit := !s.lpi.lampLit, lampTimer := halfPeriod (lampPattern s) } }
    else s)

end Sys2Proof.Machine
end

