-- ==== Sys2Proof/Machine/TimeBase.lean ====
section
/-! DEFINITION. The passing of one millisecond, and the timers' expiries that the part itself comes to: what step does where no
command waits (notes/assumptions/4.md). -/

namespace Sys2Proof.Machine

/-- A running timer with one millisecond less left. -/
def tickTimer (t : Timer) : Timer := t.map (fun n => n - 1)

/-- An entry one millisecond older (R12), counted to the 1000 of R13. -/
def olderEntry (e : Entry) : Entry := { e with age := min (e.age + 1) expireMs }

/-- A queued notice one millisecond later, counted to the 250 of R38. -/
def laterNotice (q : Queued) : Queued := { q with waited := min (q.waited + 1) congestionMs }

/-- A notice in flight one millisecond later: the wait since its request goes on, for its return to the queue (R36, R38). -/
def laterInFlight (f : InFlight) : InFlight := { f with waited := min (f.waited + 1) congestionMs }

/-- A running clash wait with one millisecond less left (R28). -/
def tickWait : ClashWait → ClashWait
  | .stopped => .stopped
  | .awaitingGap ms => .awaitingGap ms
  | .running ms => .running (ms - 1)

/-- One millisecond passes: every running timer, every entry's age and the wait of every notice queued or in flight; nothing
else changes. -/
def tick (s : State) : State :=
  { s with
    fs := { s.fs with ride := tickTimer s.fs.ride }
    sli := { s.sli with quality := tickTimer s.sli.quality, periodic := tickTimer s.sli.periodic,
                        clashWait := tickWait s.sli.clashWait, queue := s.sli.queue.map laterNotice,
                        inFlight := s.sli.inFlight.map laterInFlight }
    sv := { s.sv with table := s.sv.table.map olderEntry }
    ae := { s.ae with window := tickTimer s.ae.window, backoff := tickTimer s.ae.backoff, cooldown := tickTimer s.ae.cooldown,
                      upgradeHold := tickTimer s.ae.upgradeHold, retryHold := tickTimer s.ae.retryHold,
                      shedWait := tickTimer s.ae.shedWait }
    pp := { s.pp with closing := tickTimer s.pp.closing, discharge := tickTimer s.pp.discharge }
    bp := { s.bp with stepTimer := tickTimer s.bp.stepTimer, dwell := tickTimer s.bp.dwell,
                      teardown := tickTimer s.bp.teardown }
    rc := { s.rc with force := tickTimer s.rc.force, handover := tickTimer s.rc.handover, quiesce := tickTimer s.rc.quiesce }
    lpi := { s.lpi with lampTimer := tickTimer s.lpi.lampTimer }
    sc := { s.sc with settle := tickTimer s.sc.settle, attempt := tickTimer s.sc.attempt, relearn := tickTimer s.sc.relearn } }

/-- The timers whose expiry needs nothing from outside, each with the command that takes it. SETTLE_EXPIRY and
ATTEMPT_TIMER_EXPIRY read pins and come from the sender. -/
def expiries (s : State) : List (Bool × Instr) :=
  [ (ranOut s.fs.ride, .rideThroughExpiry),
    (ranOut s.pp.closing && decide (s.pp.path = .closing), .closingExpiry),
    (ranOut s.pp.discharge, .dischargeSlow),
    (ranOut s.bp.stepTimer && decide (s.bp.prog = .forward ∧ s.bp.sub ≠ .dwell), .bringupTimeout),
    (ranOut s.bp.dwell && decide (s.bp.prog = .forward ∧ s.bp.sub = .dwell), .dwellExpiry),
    (ranOut s.bp.teardown && decide (s.bp.prog = .teardown), .teardownDwellExpiry),
    (ranOut s.ae.window && decide (s.ae.engine = .bidding), .bidWindowExpiry),
    (ranOut s.ae.window && decide (s.ae.engine = .admitted .upgradeBid), .upgradeWindowExpiry),
    (ranOut s.ae.backoff && decide (s.ae.engine = .backoff), .backoffExpiry),
    (ranOut s.ae.cooldown && decide (s.ae.engine = .cooldown), .cooldownExpiry),
    (ranOut s.ae.shedWait && decide (s.ae.engine = .admitted .shedding), .shedWaitExpiry),
    (ranOut s.ae.upgradeHold, .upgradeHoldExpiry),
    (ranOut s.ae.retryHold, .upgradeRetryHoldExpiry),
    (ranOut s.rc.force, .forceTimerExpiry),
    (ranOut s.rc.handover && decide (s.ae.engine = .retiring .handover), .handoverTimerExpiry),
    (ranOut s.rc.quiesce && decide (s.ae.engine = .retiring .draining), .quiesceTimeout),
    (ranOut s.sc.relearn && decide (s.sc.start = .relearn), .relearnExpiry),
    (decide (s.sli.clashWait = .running 0), .clashWaitExpiry),
    (ranOut s.sli.quality, .qualityIntervalEnd),
    (ranOut s.sli.periodic, .periodicNoticeExpiry),
    (ranOut s.lpi.lampTimer, .lampBlinkToggle) ]

/-- The head notice has waited 250 ms and LINE has not been raised for it (R38). -/
def congestionDue (q : List Queued) : Bool :=
  match q with
  | h :: _ => decide (congestionMs ≤ h.waited) && !h.congested
  | [] => false

/-- The ageing event due first: an entry that has reached 1000 ms, or a FRESH one that has reached 200 ms (R12, R13). -/
def ageingDue (t : List Entry) : Option Instr :=
  match t.find? (fun e => decide (expireMs ≤ e.age)), t.find? (fun e => !e.stale && decide (staleMs ≤ e.age)) with
  | some e, _ => some (.peerExpired e.slot)
  | none, some e => some (.entryStale e.slot)
  | none, none => none

/-- The command that the part itself has come to, if any. -/
def due (s : State) : Option Instr :=
  match (expiries s).find? (fun x => x.1) with
  | some x => some x.2
  | none => if congestionDue s.sli.queue then some .transmitCongestion else ageingDue s.sv.table

end Sys2Proof.Machine
end

