-- ==== Sys2Proof/Machine/Dispatch.lean ====
section
/-! DEFINITION. The meaning of each command: one arm per constructor of Instr. -/

namespace Sys2Proof.Machine

def exec (i : Instr) (s : State) : Host.Outcome State Fault Refusal :=
  match i with
  | .powerOnReset seated sense answers => Sys2Proof.Machine.execPowerOnReset seated sense answers s
  | .restartNFall sense straps => Sys2Proof.Machine.execRestartNFall sense straps s
  | .seatedDebouncedSeated => Sys2Proof.Machine.execSeatedDebouncedSeated s
  | .lossOfSeating => Sys2Proof.Machine.execLossOfSeating s
  | .settleExpiry straps => Sys2Proof.Machine.execSettleExpiry straps s
  | .profileAttemptComplete image pmSdaLow => Sys2Proof.Machine.execProfileAttemptComplete image pmSdaLow s
  | .profileNoResponse pmSdaLow => Sys2Proof.Machine.execProfileNoResponse pmSdaLow s
  | .attemptTimerExpiry pmSdaLow => Sys2Proof.Machine.execAttemptTimerExpiry pmSdaLow s
  | .relearnExpiry => Sys2Proof.Machine.execRelearnExpiry s
  | .transmissionBegin => Sys2Proof.Machine.execTransmissionBegin s
  | .lostArbitration => Sys2Proof.Machine.execLostArbitration s
  | .clash => Sys2Proof.Machine.execClash s
  | .loopback endRecessive => Sys2Proof.Machine.execLoopback endRecessive s
  | .standingNotice n => Sys2Proof.Machine.execStandingNotice n s
  | .bidNotice n => Sys2Proof.Machine.execBidNotice n s
  | .yieldNotice n => Sys2Proof.Machine.execYieldNotice n s
  | .leaveNotice n => Sys2Proof.Machine.execLeaveNotice n s
  | .invalidFrame bits endRecessive => Sys2Proof.Machine.execInvalidFrame bits endRecessive s
  | .disturbance => Sys2Proof.Machine.execDisturbance s
  | .lineStuck => Sys2Proof.Machine.execLineStuck s
  | .lineFreed => Sys2Proof.Machine.execLineFreed s
  | .clashWaitExpiry => Sys2Proof.Machine.execClashWaitExpiry s
  | .qualityIntervalEnd => Sys2Proof.Machine.execQualityIntervalEnd s
  | .transmitCongestion => Sys2Proof.Machine.execTransmitCongestion s
  | .periodicNoticeExpiry => Sys2Proof.Machine.execPeriodicNoticeExpiry s
  | .entryStale slot => Sys2Proof.Machine.execEntryStale slot s
  | .peerExpired slot => Sys2Proof.Machine.execPeerExpired slot s
  | .feedSample a b => Sys2Proof.Machine.execFeedSample a b s
  | .rideThroughExpiry => Sys2Proof.Machine.execRideThroughExpiry s
  | .bidWindowExpiry => Sys2Proof.Machine.execBidWindowExpiry s
  | .backoffExpiry => Sys2Proof.Machine.execBackoffExpiry s
  | .cooldownExpiry => Sys2Proof.Machine.execCooldownExpiry s
  | .profAckChange level => Sys2Proof.Machine.execProfAckChange level s
  | .shedWaitExpiry => Sys2Proof.Machine.execShedWaitExpiry s
  | .upgradeWindowExpiry => Sys2Proof.Machine.execUpgradeWindowExpiry s
  | .upgradeHoldExpiry => Sys2Proof.Machine.execUpgradeHoldExpiry s
  | .upgradeRetryHoldExpiry => Sys2Proof.Machine.execUpgradeRetryHoldExpiry s
  | .carryingChange level => Sys2Proof.Machine.execCarryingChange level s
  | .pathSample vBulk iLoad => Sys2Proof.Machine.execPathSample vBulk iLoad s
  | .prechargeTimeout vBulk iLoad => Sys2Proof.Machine.execPrechargeTimeout vBulk iLoad s
  | .slowTrip vBulk iLoad => Sys2Proof.Machine.execSlowTrip vBulk iLoad s
  | .overclaim vBulk iLoad => Sys2Proof.Machine.execOverclaim vBulk iLoad s
  | .closingExpiry => Sys2Proof.Machine.execClosingExpiry s
  | .dischargeSlow => Sys2Proof.Machine.execDischargeSlow s
  | .stepEdge rising => Sys2Proof.Machine.execStepEdge rising s
  | .conditionInputChange railPg payReady => Sys2Proof.Machine.execConditionInputChange railPg payReady s
  | .bringupTimeout => Sys2Proof.Machine.execBringupTimeout s
  | .dwellExpiry => Sys2Proof.Machine.execDwellExpiry s
  | .teardownDwellExpiry => Sys2Proof.Machine.execTeardownDwellExpiry s
  | .latchOpening => Sys2Proof.Machine.execLatchOpening s
  | .latchClosing => Sys2Proof.Machine.execLatchClosing s
  | .ejectFirstSettling opened => Sys2Proof.Machine.execEjectFirstSettling opened s
  | .forceTimerExpiry => Sys2Proof.Machine.execForceTimerExpiry s
  | .handoverTimerExpiry => Sys2Proof.Machine.execHandoverTimerExpiry s
  | .quiescedRise level => Sys2Proof.Machine.execQuiescedRise level s
  | .quiesceTimeout => Sys2Proof.Machine.execQuiesceTimeout s
  | .retire => Sys2Proof.Machine.execRetire s
  | .cancelRetire => Sys2Proof.Machine.execCancelRetire s
  | .forceRetire => Sys2Proof.Machine.execForceRetire s
  | .clearFault => Sys2Proof.Machine.execClearFault s
  | .forceOff => Sys2Proof.Machine.execForceOff s
  | .restart sense straps => Sys2Proof.Machine.execRestart sense straps s
  | .unknownCommand code => Sys2Proof.Machine.execUnknownCommand code s
  | .eventsClear high value => Sys2Proof.Machine.execEventsClear high value s
  | .maskWrite high value => Sys2Proof.Machine.execMaskWrite high value s
  | .viewselWrite value => Sys2Proof.Machine.execViewselWrite value s
  | .offsetWrite offset => Sys2Proof.Machine.execOffsetWrite offset s
  | .registerWrite offset value => Sys2Proof.Machine.execRegisterWrite offset value s
  | .snapshotRead offset => Sys2Proof.Machine.execSnapshotRead offset s
  | .viewdataRead => Sys2Proof.Machine.execViewdataRead s
  | .lampBlinkToggle => Sys2Proof.Machine.execLampBlinkToggle s
  | .gapComplete => Sys2Proof.Machine.execGapComplete s
  | .startBit => Sys2Proof.Machine.execStartBit s
  | .debouncerFirstSettling which level => Sys2Proof.Machine.execDebouncerFirstSettling which level s

end Sys2Proof.Machine
end

