-- ==== Sys2Proof/Safety.lean ====
section
/-! DEFINITION. What the claims speak of: the states between events, the invariants of the station, and what an event leaves
alone. -/

namespace Sys2Proof.Machine

/-! ## Between events -/

/-- Nothing is left over from an earlier event: a silent station runs no periodic timer (R40), and no head notice waits for its
LINE event (R38). On such a state an event without an effect changes nothing. -/
def Settled (s : State) : Prop := (silent s = true → s.sli.periodic = none) ∧ congestionDue s.sli.queue = false

/-- Neither a silent state nor a LEAVE queued or in flight discards a request for a notice (R34, R39). -/
def Requests (s : State) : Prop := silent s = false ∧ leaveUnderway s.sli = false

/-! ## Frames -/

/-- The Shelf Line Interface but for its queue, its periodic timer and the two marks that the engine sets on its notice in
flight (R81, R92). -/
def LineKept (s t : State) : Prop :=
  { t.sli with queue := s.sli.queue, periodic := s.sli.periodic, inFlight := s.sli.inFlight } = s.sli
    ∧ t.sli.inFlight.map (fun f => { f with voided := false, afterUpgrade := false })
        = s.sli.inFlight.map (fun f => { f with voided := false, afterUpgrade := false })

/-- The Local Port but for its flags and the lamp's phase. -/
def PortKept (s t : State) : Prop :=
  { t.lpi with flags := s.lpi.flags, lampLit := s.lpi.lampLit, lampTimer := s.lpi.lampTimer } = s.lpi

/-- The lamp after an event (R182): its timing stays with its pattern, and begins afresh, lit, with a change of pattern. -/
def LampFollows (s t : State) : Prop :=
  if lampPattern s = lampPattern t then t.lpi.lampLit = s.lpi.lampLit ∧ t.lpi.lampTimer = s.lpi.lampTimer
  else t.lpi.lampLit = true ∧ t.lpi.lampTimer = halfPeriod (lampPattern t)

/-- The Local Port after an event that raised the flags of a word and nothing else of it. -/
def PortAfter (raised : BitVec 16) (s t : State) : Prop :=
  PortKept s t ∧ t.lpi.flags = s.lpi.flags ||| raised ∧ LampFollows s t

/-- No flag outside a mask has changed, and none has been cleared. -/
def FlagsWithin (mask : BitVec 16) (s t : State) : Prop :=
  t.lpi.flags ||| mask = s.lpi.flags ||| mask ∧ t.lpi.flags &&& s.lpi.flags = s.lpi.flags

/-- The Shelf Line Interface after an event that requested a STANDING or, with `asked` false, touched nothing of it. -/
def LineAfter (asked : Bool) (s t : State) : Prop :=
  t.sli = { s.sli with queue := if asked then joinTail .standing s.sli.queue else s.sli.queue }

/-- The blocks that the Admission Engine's own events leave alone: the feeds, the view, the inputs, Start Control, the model's own
counter, the waiting commands, and the line but for its queue. -/
def OuterKept (s t : State) : Prop :=
  LineKept s t ∧ t.fs = s.fs ∧ t.sv = s.sv ∧ t.inp = s.inp ∧ t.sc = s.sc ∧ t.freeCount = s.freeCount ∧ t.pending = s.pending

/-- The blocks of the blade's power and payload: the Power Path, the held outputs, the Bring-up Program and the Retire
Coordinator. -/
def BladeKept (s t : State) : Prop := t.pp = s.pp ∧ t.held = s.held ∧ t.bp = s.bp ∧ t.rc = s.rc

/-! ## Invariants -/

/-- The slots of a table ascend strictly (R2: one entry per slot). -/
def ascending : List Entry → Bool
  | [] => true
  | [_] => true
  | x :: y :: rest => decide (x.slot < y.slot) && ascending (y :: rest)

/-- The Shelf View's law (R2, R12, R13, R21): entries in ascending slot, none for the own slot, no age beyond the 1000 ms at
which it is due to be removed; a closed view is empty; and the view is open in RELEARN and DONE only. -/
def ViewOk (s : State) : Prop :=
  ascending s.sv.table = true
    ∧ (∀ e ∈ s.sv.table, s.sc.slot ≠ some e.slot ∧ e.age ≤ expireMs)
    ∧ (s.sv.opened = false → s.sv.table = [])
    ∧ (s.sv.opened = true → s.sc.start = .relearn ∨ s.sc.start = .done)

/-- No kind stands twice in a queue. -/
def kindsDistinct : List Queued → Bool
  | [] => true
  | x :: rest => !isQueued x.kind rest && kindsDistinct rest

/-- Until DONE the engine holds no state of its own (R76, R159), and a silent cause is a cause of STOPPED alone (R97). -/
def StartOk (s : State) : Prop :=
  (s.sc.start ≠ .done → s.ae.engine = .none) ∧ (silentCause s.ae.cause = true → s.ae.engine = .stopped)

/-- The transmit queue's law (R34, R36, R39): one notice of each kind at most; a queued LEAVE is alone; with a LEAVE in flight
that may return, nothing is queued; and in a silent state nothing but a LEAVE is queued or can return. -/
def QueueOk (s : State) : Prop :=
  StartOk s
    ∧ kindsDistinct s.sli.queue = true
    ∧ (isQueued .leave s.sli.queue = true → s.sli.queue.length = 1)
    ∧ (∀ f, s.sli.inFlight = some f → f.kind = .leave → f.dropped = false → s.sli.queue = [])
    ∧ (silent s = true → ∀ q ∈ s.sli.queue, q.kind = .leave)
    ∧ (silent s = true → ∀ f, s.sli.inFlight = some f → f.kind = .leave ∨ f.dropped = true)
    ∧ (silent s = true → s.sli.periodic = none)

/-- The held outputs' law (R112, R117): outside path state CLOSED every held output is deasserted, no program runs, no PROF_FULL
assertion is pending, and the engine is in none of BRINGUP, ADMITTED and RETIRING; and with a gate on the discharged condition does
not hold. -/
def HeldOk (s : State) : Prop :=
  (s.pp.path ≠ .closed →
      s.held = HeldOutputs.deasserted ∧ s.bp.prog = .off ∧ s.ae.profFullPending = false ∧ holdsBlade s.ae.engine = false)
    ∧ (gateOn s = true → s.pp.discharged = false)

/-- The retry count's law (R94): it never exceeds the retry limit, and until DONE no fault is counted. -/
def RetryOk (s : State) : Prop :=
  StartOk s ∧ (s.sc.start ≠ .done → s.ae.retryCount = 0) ∧ s.ae.retryCount ≤ retryLimit s

/-- The engine is in a state that holds an open bid (R75, R76). -/
def bids : Engine → Bool
  | .bidding => true
  | .admitted .upgradeBid => true
  | _ => false

/-- The open bid's law (R75, R33): a bid is open in BIDDING and UPGRADE_BID and in no other state, and no window runs without
one. -/
def BidOk (s : State) : Prop :=
  StartOk s ∧ s.ae.bid.isSome = bids s.ae.engine ∧ (s.ae.window.isSome = true → s.ae.bid.isSome = true)

/-- A retire source may be recorded with the engine in this state: with a bring-up fault pending in BRINGUP, in SHEDDING, in RETIRING,
in a DISCHARGING to RELEASED, and in RELEASED (R94, R95, R98, R153). -/
def holdsRetire (ae : OwnRecord) : Bool :=
  match ae.engine with
  | .bringup => ae.bringupFault
  | .admitted .shedding => true
  | .retiring _ => true
  | .discharging => decide (ae.exit = .released)
  | .released => true
  | _ => false

/-- The attempt's law (R87, R98, R123, R142, R159): a retire source stands in the states that hold a retire alone, so in POWERING none
is recorded; a program that runs forward runs in BRINGUP with no bring-up fault pending; a bring-up fault is pending in BRINGUP alone;
and with no engine state of its own the station runs no program. -/
def AttemptOk (s : State) : Prop :=
  StartOk s ∧ HeldOk s
    ∧ (s.ae.source ≠ .none → holdsRetire s.ae = true)
    ∧ (s.bp.prog = .forward → s.ae.engine = .bringup ∧ s.ae.bringupFault = false)
    ∧ (s.ae.bringupFault = true → s.ae.engine = .bringup)
    ∧ (s.ae.engine = .none → s.bp.prog = .off)

end Sys2Proof.Machine
end

