-- ==== Sys2Proof/Certificates/Slice0/Obligations.lean ====
section
/-! DEFINITION. The statements for the provers. A frame is written as a record equation: `{ t with lpi := s.lpi } = s` says that t
differs from s in the Local Port alone. Settled, Requests, LineKept, PortKept, OuterKept, BladeKept and the invariants are
defined in Sys2Proof/Safety.lean. -/

section
open Sys2Proof Sys2Proof.Machine

/-! ## The step -/

/-- With a command waiting, a step is the meaning of the command at the front, on the state with the queue's rest. -/
def Obligations.StepTakesTheFrontCommand : Prop :=
  ∀ (c : Instr) (rest : List Instr) (s : State),
    step { s with pending := c :: rest } = exec c { s with pending := rest }

/-- With no command waiting, a step takes the expiry that has come due; where none is due, one millisecond passes: every running
timer has 1 ms less left, every entry is 1 ms older up to 1000 ms, the wait of every notice queued or in flight is 1 ms longer up
to 250 ms, and nothing else changes. The model's own choice (notes/assumptions/4.md). -/
def Obligations.StepIdlesByTheMillisecond : Prop :=
  ∀ s : State, s.pending = [] →
    (∀ c, due s = some c → step s = exec c s)
      ∧ (due s = none →
          let down : Timer → Timer := fun t => t.map (fun n => n - 1)
          step s = .next
            { s with
              fs := { s.fs with ride := down s.fs.ride }
              sli := { s.sli with
                quality := down s.sli.quality, periodic := down s.sli.periodic
                clashWait := match s.sli.clashWait with | .running ms => .running (ms - 1) | w => w
                queue := s.sli.queue.map (fun q => { q with waited := min (q.waited + 1) 250 })
                inFlight := s.sli.inFlight.map (fun f => { f with waited := min (f.waited + 1) 250 }) }
              sv := { s.sv with table := s.sv.table.map (fun e => { e with age := min (e.age + 1) 1000 }) }
              ae := { s.ae with
                window := down s.ae.window, backoff := down s.ae.backoff, cooldown := down s.ae.cooldown
                upgradeHold := down s.ae.upgradeHold, retryHold := down s.ae.retryHold, shedWait := down s.ae.shedWait }
              pp := { s.pp with closing := down s.pp.closing, discharge := down s.pp.discharge }
              bp := { s.bp with
                stepTimer := down s.bp.stepTimer, dwell := down s.bp.dwell, teardown := down s.bp.teardown }
              rc := { s.rc with
                force := down s.rc.force, handover := down s.rc.handover, quiesce := down s.rc.quiesce }
              lpi := { s.lpi with lampTimer := down s.lpi.lampTimer }
              sc := { s.sc with
                settle := down s.sc.settle, attempt := down s.sc.attempt, relearn := down s.sc.relearn } })

/-! ## Invariants that every step keeps -/

/-- No step breaks the Shelf View's law: one entry a slot, none for the own slot, a closed view empty, ages within the second
(R2, R12, R13, R21). -/
def Obligations.StepKeepsTheView : Prop := ∀ s t : State, ViewOk s → step s = .next t → ViewOk t

/-- No step breaks the transmit queue's law (R34, R36, R37, R39, R40). -/
def Obligations.StepKeepsTheQueue : Prop := ∀ s t : State, QueueOk s → step s = .next t → QueueOk t

/-- No step asserts a held output, leaves a program running or a PROF_FULL assertion pending, or holds the engine in BRINGUP,
ADMITTED or RETIRING, with the main switch latch open (R112, R124, R92); nor makes the discharged condition hold with a gate on
(R117). -/
def Obligations.StepKeepsTheHeldOutputs : Prop := ∀ s t : State, HeldOk s → step s = .next t → HeldOk t

/-- No step takes the retry count past the retry limit, nor counts a fault before DONE (R94, R75). -/
def Obligations.StepKeepsTheRetryCount : Prop := ∀ s t : State, RetryOk s → step s = .next t → RetryOk t

/-- No step leaves a bid open outside BIDDING and UPGRADE_BID, nor either of them without one (R75, R76). -/
def Obligations.StepKeepsTheBid : Prop := ∀ s t : State, BidOk s → step s = .next t → BidOk t

/-- The reset state meets every invariant, and is settled. -/
def Obligations.ResetMeetsTheInvariants : Prop :=
  ViewOk State.reset ∧ QueueOk State.reset ∧ HeldOk State.reset ∧ RetryOk State.reset ∧ BidOk State.reset
    ∧ AttemptOk State.reset ∧ Settled State.reset ∧ State.reset.pending = []

/-! ## The notice frame -/

/-- A frame coded from any contents decodes to its kind and those contents, and starts with a dominant bit (R184, R185, R31). -/
def Obligations.FrameDecodesAsCoded : Prop :=
  ∀ (k : NoticeKind) (n : Notice), decodeFrame (encodeFrame k n) = some (k, n) ∧ (encodeFrame k n).msb = false

/-! ## Resets (chapter 09) -/

/-- A power-on reset leaves every block at its reset value, the feeds and the path classified from the reset event's samples
(R42, R46, R75, R101, R119, R123, R140, R159, R183); the waiting commands and the model's counter stay, and the inputs' levels and
the Power Path's copies before anything is told of them are 0 (the model's choices, notes/assumptions/6.md and 1.md). -/
def Obligations.PowerOnResetsEveryBlock : Prop :=
  ∀ (seated : Bool) (x : ResetSense) (a : Answers) (s : State),
    ∃ t, exec (.powerOnReset seated x a) s = .next t
      ∧ t.sc = { start := if seated then .settling else .unseated, seated := seated, slot := none, profile := none, attempts := 0,
                 settle := if seated then some 100 else none, attempt := none, relearn := none, forcedOff := false,
                 loadSub := .none }
      ∧ t.sv = { opened := false, table := [] }
      ∧ t.sli = { line := .idle, gap := 0, gapSeen := false, deaf := false, queue := [], inFlight := none, clashCount := 0,
                  clashWait := .stopped, errors := 0, quality := some 1000, impaired := false, periodic := none,
                  leaveCopy := none }
      ∧ t.fs.a = { sample := min x.feedA 1023, state := feedTarget .good (min x.feedA 1023), pending := none, count := 0 }
      ∧ t.fs.b = { sample := min x.feedB 1023, state := feedTarget .good (min x.feedB 1023), pending := none, count := 0 }
      ∧ t.fs.vF = workingVoltage t.fs.a t.fs.b ∧ t.fs.window = List.replicate 8 t.fs.vF ∧ t.fs.uv = false
      ∧ t.fs.ride = (if t.fs.a.state = .good ∨ t.fs.b.state = .good then none else some 10)
      ∧ t.ae = { engine := .none, reason := .none, profile := .reduced, bid := none, window := none, reservation := none,
                 iSet := none, deadline := none, retryCount := 0, cause := .none, subcause := none, exit := .none,
                 source := .none, carrying := false, backoff := none, cooldown := none, upgradeHold := none, retryHold := none,
                 shedWait := none, excursion := false, profFullPending := false, bringupFault := false, vC := none,
                 keptClaim := 0 }
      ∧ ownClaim t = 0
      ∧ t.pp = { path := .opened, vBulk := min x.vBulk 1023, iLoad := min x.iLoad 1023, iSet := 0, deadline := 0, ramp := 0,
                 limit := 0, foldback := false, half := false, elapsed := 0, closing := none, slowCount := 0, overCount := 0,
                 overclaim := false, discharge := none, discharged := decide (min x.vBulk 1023 < 50), slowMark := false,
                 tripPending := false, iMin := 0, vSag := 0, iTrip := 0 }
      ∧ t.held = { rails := 0, payRst := false, lanes := 0, clk := false, profFull := false, drain := false, takeover := false }
      ∧ t.bp = { prog := .off, sub := .pace, reconcile := false, foundUp := false, pointer := 0, completed := 0,
                 stepTimer := none, dwell := none, teardown := none, edge := false, timedOut := 0 }
      ∧ t.rc = { latchOpen := false, latchSettled := false, force := none, latchHeld := false, handover := none,
                 quiesce := none, handoverReq := false, mateGone := false }
      ∧ t.inp = { stepLevel := false, stepSettled := false, carryingLevel := false, carryingSettled := false, railPg := a.railPg,
                  payReady := a.payReady, quiesced := a.quiesced, profAck := a.profAck }
      ∧ t.lpi = { flags := 0, mask := 0xFFFF, lastCmd := 0, result := .none, offset := 0, viewSel := 0, buffers := [],
                  readByte := 0, transaction := .none, address := BitVec.ofNat 7 (0x58 + x.padr.val), lampLit := true,
                  lampTimer := none }
      ∧ t.freeCount = s.freeCount ∧ t.pending = s.pending

/-- A controller restart of a seated part whose address has good parity, with PM_SDA free and no feed HIGH, by either of its two
commands: the held outputs stay; a closed path stays closed with its profile and claim, and every other ends open, TRIPPED until
discharged (R115, R166, R168); the logic domain starts afresh and the first loading attempt begins (R42, R161, R162, R179). Three
points are the model's: a path aborted below 50 dV starts no discharge timer (notes/assumptions/17.md), the directly read inputs keep
their levels (notes/assumptions/6.md), and the model's counter and the waiting commands stay (notes/assumptions/1.md). -/
def Obligations.RestartKeepsTheHeldDomain : Prop :=
  ∀ (x : ResetSense) (g : Straps) (s : State), s.sc.seated = true → parityHolds g = true → g.pmSdaLow = false →
    x.feedA ≤ 750 → x.feedB ≤ 750 →
    ∃ t, exec (.restartNFall x g) s = .next t
      ∧ exec (.restart x g) s = .next { t with lpi := { t.lpi with lastCmd := 0xA5, result := .accepted } }
      ∧ t.held = s.held
      ∧ (s.pp.path = .closed → t.pp.path = .closed ∧ t.ae.profile = s.ae.profile ∧ ownClaim t = ownClaim s)
      ∧ (s.pp.path ≠ .closed → t.ae.profile = .reduced ∧ ownClaim t = 0
          ∧ t.pp.path = (if s.pp.path = .tripped ∧ 50 ≤ min x.vBulk 1023 then .tripped else .opened))
      ∧ (s.pp.path = .precharge ∨ s.pp.path = .closing →
          t.pp.discharge = if min x.vBulk 1023 < 50 then none else some 2000)
      ∧ t.pp.iMin = s.pp.iMin ∧ t.pp.vSag = s.pp.vSag ∧ t.pp.iTrip = s.pp.iTrip ∧ t.pp.tripPending = false
      ∧ t.sc = { start := .loading, seated := true, slot := some g.ga, profile := none, attempts := 1, settle := none,
                 attempt := some 20, relearn := none, forcedOff := false, loadSub := .none }
      ∧ t.sv = { opened := false, table := [] }
      ∧ t.sli = { line := .idle, gap := 0, gapSeen := false, deaf := false, queue := [], inFlight := none, clashCount := 0,
                  clashWait := .stopped, errors := 0, quality := some 1000, impaired := false, periodic := none,
                  leaveCopy := none }
      ∧ t.ae.engine = .none ∧ t.ae.retryCount = 0 ∧ t.ae.source = .none ∧ t.ae.bid = none
      ∧ t.bp.prog = .off ∧ t.rc.force = none ∧ t.rc.latchHeld = false ∧ t.rc.handoverReq = false
      ∧ t.rc.mateGone = s.held.takeover
      ∧ t.fs.a.state = feedTarget .good x.feedA ∧ t.fs.b.state = feedTarget .good x.feedB
      ∧ t.lpi.flags = flagWord .restarted ∧ t.lpi.mask = 0xFFFF ∧ t.lpi.lastCmd = 0 ∧ t.lpi.result = .none
      ∧ t.lpi.buffers = [] ∧ t.lpi.address = BitVec.ofNat 7 (0x58 + x.padr.val)
      ∧ t.inp.railPg = s.inp.railPg ∧ t.inp.payReady = s.inp.payReady ∧ t.inp.quiesced = s.inp.quiesced
      ∧ t.inp.profAck = s.inp.profAck ∧ t.freeCount = s.freeCount ∧ t.pending = s.pending

/-! ## Seating and loading (chapter 09) -/

/-- Seating before LOADING (R157, R160): seated, an UNSEATED part starts the settle timer, its queue emptied (R42); unseated, a
SETTLING part returns to UNSEATED with no LEAVE, its Power Path at the values of R119 (R115, R157), which clear a DISCHARGE_SLOW mark.
The model's readings: a notice in flight may not return after the seating, and a LEAVE in flight keeps its copy to its end
(notes/assumptions/26.md); the return to UNSEATED takes the clash count to 0 (R42, notes/assumptions/30.md). -/
def Obligations.SeatingBeforeLoading : Prop :=
  ∀ s : State,
    (s.sc.start = .unseated →
      exec .seatedDebouncedSeated s = .next
        { s with sc := { s.sc with start := .settling, seated := true, settle := some 100 },
                 sli := { s.sli with queue := [], periodic := none, clashCount := 0,
                                     inFlight := s.sli.inFlight.map (fun f => { f with dropped := true }),
                                     leaveCopy := if s.sli.inFlight.any (fun f => f.kind = .leave) then s.sli.leaveCopy
                                                  else none } })
      ∧ (s.sc.start = .settling → Settled s →
          exec .lossOfSeating s = .next
            { s with sc := { s.sc with start := .unseated, seated := false, settle := none }, sli := { s.sli with clashCount := 0 },
                     pp := { s.pp with iSet := 0, deadline := 0, ramp := 0, limit := 0, foldback := false, half := false,
                                       elapsed := 0, closing := none, slowCount := 0, overCount := 0, overclaim := false,
                                       slowMark := false, tripPending := false } })

/-- A loss of seating from LOADING on opens the path, deasserts every held output, empties the view and the own record, and in
the same event purges the queue and queues a LEAVE with the copy it is composed from, where the part has a slot and a profile,
is past LOADING and is not stopped with a silent cause (R37, R39, R42, R140, R157, R159). -/
def Obligations.LossOfSeatingQueuesTheLeave : Prop :=
  ∀ s : State, s.sc.start ≠ .unseated → s.sc.start ≠ .settling →
    ∃ t, exec .lossOfSeating s = .next t
      ∧ t.sc = { start := .unseated, seated := false, slot := none, profile := none, attempts := 0, settle := none,
                 attempt := none, relearn := none, forcedOff := false, loadSub := .none }
      ∧ t.sv = { opened := false, table := [] }
      ∧ (∀ sl, s.sc.slot = some sl → ∀ p, s.sc.profile = some p → s.sc.start ≠ .loading →
          ¬ (s.ae.engine = .stopped ∧ silentCause s.ae.cause = true) →
          t.sli.queue = [{ kind := .leave, waited := 0, congested := false }]
            ∧ t.sli.leaveCopy = some { cls := p.cls, slot := sl, f := p.f, mate := p.mate, checksum := p.checksum })
      ∧ ((s.sc.start = .loading ∨ (s.ae.engine = .stopped ∧ silentCause s.ae.cause = true)) →
          t.sli.queue = [] ∧ t.sli.leaveCopy = s.sli.leaveCopy)
      ∧ t.sli.inFlight = s.sli.inFlight.map (fun f => { f with dropped := true })
      ∧ t.sli.clashCount = 0 ∧ t.sli.periodic = none ∧ t.sli.line = s.sli.line ∧ t.sli.clashWait = s.sli.clashWait
      ∧ t.ae = OwnRecord.reset ∧ t.held = HeldOutputs.deasserted ∧ t.bp = BringUp.reset
      ∧ (gateOn s = true → t.pp.path = .opened ∧ t.pp.discharged = decide (s.pp.vBulk < 50)
          ∧ t.pp.discharge = if s.pp.vBulk < 50 then none else some 2000)
      ∧ (gateOn s = false → t.pp.path = s.pp.path ∧ t.pp.discharge = s.pp.discharge) ∧ t.pp.tripPending = false
      ∧ t.rc = { s.rc with handover := none, quiesce := none, handoverReq := false, mateGone := false }
      ∧ t.fs = s.fs ∧ t.inp = s.inp ∧ PortAfter 0 s t ∧ t.freeCount = s.freeCount ∧ t.pending = s.pending

/-- At the settle timer's expiry the geographic address is read: with an odd number of ones among GA4..GA0 and GAP the slot is
known and the first attempt begins, unless PM_SDA is held low, which spends all three attempts at once; with an even number the
part stops with GA_PARITY (R160, R161, R162, R164). -/
def Obligations.SettleExpiryReadsTheAddress : Prop :=
  ∀ (g : Straps) (s : State), s.sc.start = .settling → s.sc.settle.isSome = true → Settled s → s.pp.path = .opened →
    ∃ t, exec (.settleExpiry g) s = .next t
      ∧ (parityHolds g = true ↔
          (((List.range 5).filter (fun i => (BitVec.ofFin (w := 5) g.ga).getLsbD i)).length + g.gap.toNat) % 2 = 1)
      ∧ (parityHolds g = true → g.pmSdaLow = false →
          t = { s with sc := { s.sc with start := .loading, slot := some g.ga, profile := none, attempts := 1, settle := none,
                                         attempt := some 20, relearn := none } })
      ∧ (parityHolds g = true → g.pmSdaLow = true →
          t.sc.start = .done ∧ t.ae.engine = .stopped ∧ t.ae.cause = .profileBad ∧ t.sc.loadSub = .noResponse
            ∧ t.sc.attempts = 3 ∧ t.sc.slot = some g.ga)
      ∧ (parityHolds g = false →
          t.sc.start = .done ∧ t.ae.engine = .stopped ∧ t.ae.cause = .gaParity ∧ t.sc.slot = none ∧ t.sc.attempts = 0)
      ∧ ((parityHolds g = false ∨ g.pmSdaLow = true) → t.sc.settle = none ∧ t.sc.attempt = none ∧ PortAfter (flagWord .fault) s t)
      ∧ LineAfter false s t ∧ t.sv = s.sv ∧ t.fs = s.fs ∧ t.pp.path = .opened ∧ t.held = s.held ∧ t.bp = s.bp ∧ t.rc = s.rc
      ∧ t.inp = s.inp ∧ t.freeCount = s.freeCount ∧ t.pending = s.pending

/-- A failed attempt, by an image that fails a check, by no acknowledge or by the attempt timer: below a count of 3 the next
attempt begins in the same event and nothing else changes; at 3 the part stops with PROFILE_BAD and the subcause of the last
attempt, a closed path opening (R162, R164, R112). Bytes that are not 110 complete no attempt and are refused (the model's choice,
notes/assumptions/2.md). -/
def Obligations.FailedAttempts : Prop :=
  (∀ (img : List Byte) (sda : Bool) (s : State), img.length ≠ 110 →
      exec (.profileAttemptComplete img sda) s = .refused .illFormed)
  ∧ ∀ (c : Instr) (sub : LoadSubcause) (sda : Bool) (s : State), s.sc.start = .loading → s.sc.attempt.isSome = true → Settled s →
    (c = .profileNoResponse sda ∧ sub = .noResponse ∨ c = .attemptTimerExpiry sda ∧ sub = .noResponse
      ∨ ∃ img, c = .profileAttemptComplete img sda ∧ img.length = 110 ∧ loadImage img = .error sub) →
    (s.sc.attempts < 3 → sda = false →
        exec c s = .next { s with sc := { s.sc with attempts := s.sc.attempts + 1, attempt := some 20, loadSub := sub } })
      ∧ (3 ≤ s.sc.attempts ∨ sda = true →
          ∃ t, exec c s = .next t
            ∧ t.sc = { s.sc with start := .done, attempts := 3, attempt := none, forcedOff := false,
                                 loadSub := if 3 ≤ s.sc.attempts then sub else .noResponse }
            ∧ t.ae.engine = .stopped ∧ t.ae.cause = .profileBad ∧ t.ae.retryCount = s.ae.retryCount
            ∧ t.ae.source = s.ae.source
            ∧ PortAfter (flagWord .fault) s t ∧ LineAfter false s t ∧ gateOn t = false ∧ t.pp.tripPending = false
            ∧ (gateOn s = true → t.held = HeldOutputs.deasserted ∧ t.pp.path = .opened)
            ∧ (gateOn s = false → t.held = s.held ∧ t.pp.path = s.pp.path)
            ∧ t.sv = s.sv ∧ t.fs = s.fs ∧ t.inp = s.inp ∧ t.freeCount = s.freeCount ∧ t.pending = s.pending)

/-- Whatever a valid image stores, the profile taken from it lies in the ranges of R56 and R163, its step table holds 1 to 12
steps with timeouts of 10..5000 ms, no action but NOTE stands twice (R121), and dwells are at most 1020 ms. Each value in its range is
taken as stored; one out of it is taken as the table of R163 gives: the nearer end, but for V_plan (0 is 400 dV) and P_red (0, and
P_full or more, are absent; 1..9 W is 10 W, or absent with P_full at 10 W). A step whose action repeats an earlier one is taken as NOTE
(R121). PROFILE_CLAMPED is due exactly where a value or a step was so replaced; a P_red or a V_plan stored as 0 is none (R186). -/
def Obligations.ProfileComesIntoRange : Prop :=
  ∀ (img : List Byte) (p : ProfileData) (clamped : Bool), loadImage img = .ok (p, clamped) →
    (10 ≤ p.pFull ∧ p.pFull ≤ 1500 ∧ (∀ r, p.pRed = some r → 10 ≤ r ∧ r < p.pFull)
      ∧ 360 ≤ p.vPlan ∧ p.vPlan ≤ 600 ∧ 360 ≤ p.vSag ∧ p.vSag ≤ 500 ∧ 50 ≤ p.f ∧ p.f ≤ 4000 ∧ p.rsv ≤ 500 ∧ p.u ≤ 200
      ∧ 1 ≤ p.k ∧ p.k ≤ 4 ∧ 100 ≤ p.cB ∧ p.cB ≤ 20000 ∧ 10 ≤ p.iMax ∧ p.iMax ≤ 511 ∧ 5 ≤ p.iMin ∧ p.iMin ≤ p.iMax
      ∧ 20 ≤ p.pPk ∧ p.pPk ≤ 800 ∧ 10 ≤ p.iTrip ∧ p.iTrip ≤ 1023 ∧ p.retryLimit ≤ 3 ∧ 100 ≤ p.tHandover
      ∧ p.tHandover ≤ 10000 ∧ 100 ≤ p.tQuiesce ∧ p.tQuiesce ≤ 60000 ∧ 1 ≤ p.steps.length ∧ p.steps.length ≤ 12
      ∧ (∀ r ∈ p.steps, 10 ≤ r.timeout ∧ r.timeout ≤ 5000 ∧ r.dwell ≤ 1020 ∧ r.teardown ≤ 1020)
      ∧ (p.steps.filter (fun r => r.action ≠ .note)).Pairwise (fun r q => r.action ≠ q.action))
    ∧ (let byte := imageByte img
       let word := imageWord img
       let ranged : List (Nat × Nat × Nat × Nat) :=
         [(p.pFull, word 6, 10, 1500), (p.vSag, word 12, 360, 500), (p.f, word 14, 50, 4000), (p.rsv, word 16, 0, 500),
          (p.u, word 18, 0, 200), (p.k, byte 5, 1, 4), (p.cB, word 20, 100, 20000), (p.iMax, word 22, 10, 511),
          (p.iMin, word 24, 5, p.iMax), (p.pPk, word 26, 20, 800), (p.iTrip, word 28, 10, 1023), (p.retryLimit, byte 4, 0, 3),
          (p.tHandover, word 30, 100, 10000), (p.tQuiesce, word 32, 100, 60000)]
       let repeats : Nat → Prop := fun n =>
         actionOfByte (byte (36 + 6 * n)) ≠ some .note
           ∧ ∃ m < n, actionOfByte (byte (36 + 6 * m)) = actionOfByte (byte (36 + 6 * n))
       (∀ x ∈ ranged, (x.2.1 < x.2.2.1 → x.1 = x.2.2.1) ∧ (x.2.2.2 < x.2.1 → x.1 = x.2.2.2)
           ∧ (x.2.2.1 ≤ x.2.1 → x.2.1 ≤ x.2.2.2 → x.1 = x.2.1))
         ∧ (word 10 = 0 → p.vPlan = 400) ∧ (1 ≤ word 10 → word 10 < 360 → p.vPlan = 360) ∧ (600 < word 10 → p.vPlan = 600)
         ∧ (360 ≤ word 10 → word 10 ≤ 600 → p.vPlan = word 10)
         ∧ (word 8 = 0 ∨ p.pFull ≤ word 8 → p.pRed = none)
         ∧ (1 ≤ word 8 → word 8 ≤ 9 → p.pRed = if p.pFull = 10 then none else some 10)
         ∧ (10 ≤ word 8 → word 8 < p.pFull → p.pRed = some (word 8))
         ∧ p.cls.val = byte 3 % 4 ∧ p.mate = (if 128 ≤ byte 34 then some (Fin.ofNat 32 (byte 34)) else none)
         ∧ p.steps.length = byte 35 ∧ p.checksum = BitVec.ofNat 16 (word 108)
         ∧ (∀ n < p.steps.length, ∃ r, p.steps[n]? = some r ∧ conditionOfByte (byte (37 + 6 * n)) = some r.cond
             ∧ (r.paced = true ↔ 128 ≤ byte (37 + 6 * n)) ∧ r.dwell = 4 * byte (38 + 6 * n) ∧ r.teardown = 4 * byte (41 + 6 * n)
             ∧ r.timeout = max 10 (min (word (39 + 6 * n)) 5000)
             ∧ (repeats n → r.action = .note) ∧ (¬ repeats n → actionOfByte (byte (36 + 6 * n)) = some r.action))
         ∧ (clamped = true ↔
             (∃ x ∈ ranged, x.2.1 < x.2.2.1 ∨ x.2.2.2 < x.2.1) ∨ (word 10 ≠ 0 ∧ (word 10 < 360 ∨ 600 < word 10))
               ∨ (word 8 ≠ 0 ∧ (word 8 < 10 ∨ p.pFull ≤ word 8))
               ∨ ∃ n < p.steps.length, word (39 + 6 * n) < 10 ∨ 5000 < word (39 + 6 * n) ∨ repeats n))

/-- A valid image completes the loading (R163, R165, R168): RELEARN begins for 250 ms with the view open and empty, V_c is
formed, the Power Path takes its copies, a closed station's profile is read from PROF_FULL, and PROFILE_CLAMPED is raised where a
value was replaced. That the load subcause is NONE after a success is the model's reading (notes/assumptions/23.md). -/
def Obligations.LoadingCompletes : Prop :=
  ∀ (img : List Byte) (sda : Bool) (p : ProfileData) (clamped : Bool) (s : State), img.length = 110 →
    s.sc.start = .loading → s.sc.attempt.isSome = true → Settled s → loadImage img = .ok (p, clamped) →
    ∃ t, exec (.profileAttemptComplete img sda) s = .next t
      ∧ t.sc = { s.sc with start := .relearn, profile := some p, attempt := none, relearn := some 250, loadSub := .none }
      ∧ t.sv = { opened := true, table := [] }
      ∧ t.ae = { s.ae with vC := some (min p.vPlan (max (vMin8 s) 360)),
                           profile := if s.pp.path = .closed
                                      then (if s.held.profFull = true ∨ p.pRed = none then .full else .reduced)
                                      else s.ae.profile }
      ∧ t.pp = { s.pp with iMin := p.iMin, vSag := p.vSag, iTrip := p.iTrip }
      ∧ t.lpi.flags = s.lpi.flags ||| (if clamped then flagWord .profileClamped else 0) ∧ PortKept s t
      ∧ LineAfter false s t ∧ t.fs = s.fs ∧ t.held = s.held ∧ t.bp = s.bp ∧ t.rc = s.rc ∧ t.inp = s.inp
      ∧ t.freeCount = s.freeCount ∧ t.pending = s.pending

/-- The relearn timer's expiry with the path OPEN (R167, R40, R41): PHASE is raised, the periodic timer starts and a STANDING is
requested. With no trip pending and no forced-off mark the station is WAITING, with its entry evaluation, at the reduced profile; an
open ejector latch is then taken as a retire request, which closes a bid just opened (R141, R98; that the entry evaluation comes
first is the model's reading, notes/assumptions/31.md). A pending trip takes the retry rule once (R94, R115), and a forced-off mark
leads to a discharge with exit STOPPED and cause FORCED_OFF, whichever exit the trip set (R170): that the mark clears, and that an
already discharged node completes the discharge at the event's end, are the model's readings (notes/assumptions/24.md and 16.md). -/
def Obligations.RelearnEndsInWaiting : Prop :=
  ∀ (p : ProfileData) (v : Nat) (s : State), s.sc.start = .relearn → s.sc.relearn.isSome = true → s.sc.profile = some p →
    s.ae = { OwnRecord.reset with vC := some v } → s.pp.path = .opened → s.sli.queue = [] → s.sli.inFlight = none →
    (s.pp.tripPending = false → s.sc.forcedOff = false → s.rc.latchOpen = false →
        ∃ t, exec .relearnExpiry s = .next t
          ∧ t.sc = { s.sc with start := .done, relearn := none }
          ∧ (∀ x, bidConditions p v { s with sc := t.sc } = .ok x →
              t.ae.engine = .bidding ∧ t.ae.bid = some x.2.2 ∧ t.ae.profile = x.1 ∧ t.ae.reason = .none
                ∧ isQueued .bid t.sli.queue = true)
          ∧ (∀ r, bidConditions p v { s with sc := t.sc } = .error r →
              t.ae.engine = .waiting ∧ t.ae.bid = none ∧ t.ae.profile = .reduced ∧ t.ae.reason = r
                ∧ isQueued .bid t.sli.queue = false)
          ∧ isQueued .standing t.sli.queue = true ∧ t.sli.periodic = some 50 ∧ t.ae.carrying = s.inp.carryingLevel
          ∧ ownClaim t = 0 ∧ flagSet .phase t = true ∧ t.held = { s.held with drain := false }
          ∧ t.pp = s.pp ∧ t.fs = s.fs ∧ t.sv = s.sv ∧ t.bp = s.bp ∧ t.rc = s.rc ∧ t.inp = s.inp
          ∧ PortKept s t ∧ LineKept s t ∧ FlagsWithin (flagWord .phase ||| flagWord .denied) s t
          ∧ t.freeCount = s.freeCount ∧ t.pending = s.pending)
      ∧ (s.pp.tripPending = false → s.sc.forcedOff = false → s.rc.latchOpen = true →
          ∃ t, exec .relearnExpiry s = .next t
            ∧ t.sc = { s.sc with start := .done, relearn := none }
            ∧ t.ae.source = .latch ∧ t.ae.bid = none ∧ isQueued .bid t.sli.queue = false
            ∧ t.ae.engine = (if s.pp.discharged then .released else .discharging)
            ∧ (s.pp.discharged = false → t.ae.exit = .released)
            ∧ isQueued .standing t.sli.queue = true ∧ t.sli.periodic = some 50 ∧ t.ae.carrying = s.inp.carryingLevel
            ∧ ownClaim t = 0 ∧ flagSet .phase t = true ∧ t.held = s.held
            ∧ t.pp = s.pp ∧ t.fs = s.fs ∧ t.sv = s.sv ∧ t.bp = s.bp ∧ t.rc = s.rc ∧ t.inp = s.inp
            ∧ PortKept s t ∧ LineKept s t ∧ FlagsWithin (flagWord .phase ||| flagWord .denied) s t
            ∧ t.freeCount = s.freeCount ∧ t.pending = s.pending)
      ∧ ((s.pp.tripPending = true ∨ s.sc.forcedOff = true) → s.rc.latchOpen = false →
          ∃ t, exec .relearnExpiry s = .next t
            ∧ t.sc = { s.sc with start := .done, relearn := none, forcedOff := false }
            ∧ t.pp = { s.pp with tripPending := false }
            ∧ t.ae.retryCount = (if s.pp.tripPending = true ∧ 0 < p.retryLimit then 1 else 0)
            ∧ t.ae.cause = (if s.sc.forcedOff then .forcedOff else if 0 < p.retryLimit then .trip else .retryExhausted)
            ∧ (let exit : DischargeExit := if s.sc.forcedOff = true ∨ p.retryLimit = 0 then .stopped else .cooldown
               (s.pp.discharged = false → t.ae.engine = .discharging ∧ t.ae.exit = exit)
                ∧ (s.pp.discharged = true → t.ae.engine = if exit = .stopped then .stopped else .cooldown))
            ∧ (s.pp.tripPending = true → flagSet .fault t = true)
            ∧ t.ae.source = .none ∧ t.ae.bid = none ∧ isQueued .standing t.sli.queue = true ∧ t.sli.periodic = some 50
            ∧ t.ae.carrying = s.inp.carryingLevel ∧ ownClaim t = 0 ∧ flagSet .phase t = true
            ∧ t.held = { s.held with drain := false } ∧ t.fs = s.fs ∧ t.sv = s.sv ∧ t.bp = s.bp ∧ t.rc = s.rc ∧ t.inp = s.inp
            ∧ PortKept s t ∧ LineKept s t ∧ FlagsWithin (flagWord .phase ||| flagWord .fault) s t
            ∧ t.freeCount = s.freeCount ∧ t.pending = s.pending)

/-- The relearn timer's expiry with the main switch closed (R167, R168): with every step up, ADMITTED and the program in UP; else
BRINGUP by reconcile with the program running forward or ended; a standing trip is taken by the retry rule first. The reconcile run
leaves PROF_FULL and PAY_RST as they stand and begins step 1: found up, the step is neither paced nor driven, counts as completed and
waits for its condition; not up and paced, it waits for its edge (R138). -/
def Obligations.RelearnReconcilesAClosedPath : Prop :=
  ∀ (p : ProfileData) (v : Nat) (s : State), s.sc.start = .relearn → s.sc.relearn.isSome = true → s.sc.profile = some p →
    s.ae.engine = .none → s.ae.source = .none → s.ae.vC = some v → s.pp.tripPending = false → s.sc.forcedOff = false →
    s.rc.latchOpen = false → s.bp.prog = .off →
    (s.pp.path = .closed → allStepsUp s = true →
        ∃ t, exec .relearnExpiry s = .next t ∧ (∃ sub, t.ae.engine = .admitted sub) ∧ t.bp.prog = .up ∧ t.pp.path = .closed
          ∧ t.sc = { s.sc with start := .done, relearn := none } ∧ t.held.drain = false ∧ flagSet .phase t = true
          ∧ t.held.rails = s.held.rails ∧ t.held.lanes = s.held.lanes ∧ t.held.clk = s.held.clk ∧ LineKept s t ∧ PortKept s t
          ∧ t.fs = s.fs ∧ t.sv = s.sv ∧ t.inp = s.inp)
      ∧ (s.pp.path = .closed → allStepsUp s = false →
          ∃ t, exec .relearnExpiry s = .next t
            ∧ (t.ae.engine = .bringup ∧ t.bp.prog = .forward ∧ t.bp.reconcile = true
                ∨ (∃ sub, t.ae.engine = .admitted sub) ∧ t.bp.prog = .up)
            ∧ t.pp.path = .closed ∧ t.sc = { s.sc with start := .done, relearn := none } ∧ flagSet .phase t = true
            ∧ (∀ r, p.steps.head? = some r →
                let run : BringUp :=
                  { s.bp with prog := .forward, reconcile := true, pointer := 1, stepTimer := some r.timeout, dwell := none,
                              teardown := none, edge := false }
                (stepIsUp r.action s.held = true → conditionMet r.cond s.inp = false →
                    t.ae.engine = .bringup ∧ t.bp = { run with sub := .condition, foundUp := true, completed := 1 }
                      ∧ t.held = { s.held with drain := false })
                  ∧ (stepIsUp r.action s.held = false → r.paced = true →
                      t.ae.engine = .bringup ∧ t.bp = { run with sub := .pace, foundUp := false, completed := 0 }
                        ∧ t.held = { s.held with drain := false })))
      ∧ (s.pp.path = .tripped → s.pp.discharged = false → s.ae.retryCount = 0 →
          ∃ t, exec .relearnExpiry s = .next t ∧ t.ae.engine = .discharging ∧ t.pp.path = .tripped
            ∧ t.ae.exit = (if p.retryLimit = 0 then .stopped else .cooldown)
            ∧ t.ae.cause = (if p.retryLimit = 0 then .retryExhausted else .trip) ∧ flagSet .fault t = true)

/-! ## The shelf line (chapter 02) -/

/-- How a request joins the queue of a station that is not silent and has no LEAVE queued or in flight (R34, R35): one notice of
each kind, in the order of first request; a YIELD beside a queued BID removes it and is not queued. In a silent state, and beside
a LEAVE, the request is discarded (R34, R39). -/
def Obligations.RequestsJoinTheQueue : Prop :=
  ∀ (k : NoticeKind) (s : State), k ≠ .leave →
    ((silent s = true ∨ leaveUnderway s.sli = true) → requestNotice k s = s)
      ∧ (silent s = false → leaveUnderway s.sli = false →
          (isQueued k s.sli.queue = true → (k = .yield → isQueued .bid s.sli.queue = false) → requestNotice k s = s)
          ∧ (isQueued k s.sli.queue = false → (k = .yield → isQueued .bid s.sli.queue = false) →
              requestNotice k s =
                { s with sli := { s.sli with queue := s.sli.queue ++ [{ kind := k, waited := 0, congested := false }] } })
          ∧ (k = .yield → isQueued .bid s.sli.queue = true →
              (requestNotice k s).sli.queue = s.sli.queue.filter (fun q => q.kind ≠ .bid)))

/-- TRANSMISSION_BEGIN with the line IDLE, its gap complete, nothing in flight, no clash wait and transmission not barred (R26):
the head notice is composed from the own record (R33), or a LEAVE from its kept copy (R37), and is the notice in flight. Nothing
else changes, unless the notice that comes to the head has already waited 250 ms (R38). -/
def Obligations.TransmissionComposesTheHeadNotice : Prop :=
  ∀ (h : Queued) (rest : List Queued) (s : State), s.sli.queue = h :: rest → Settled s → congestionDue rest = false →
    s.sli.line = .idle → 12 ≤ s.sli.gap → s.sli.inFlight = none → s.sli.clashWait = .stopped →
    ¬ (s.ae.engine = .stopped ∧ silentCause s.ae.cause = true) →
    (∀ p, s.sc.profile = some p → ∀ sl, s.sc.slot = some sl → ∀ ph, phaseOf s.ae.engine = some ph → h.kind ≠ .leave →
        exec .transmissionBegin s = .next
          { s with sli := { s.sli with
              line := .busy, gap := 0, deaf := false, queue := rest
              inFlight :=
                let n : Notice :=
                  { cls := p.cls, slot := sl, phase := ph, profile := s.ae.profile, bidOpen := s.ae.bid.isSome,
                    carrying := s.ae.carrying, handoverReq := s.rc.handoverReq, claim := Fin.ofNat 1024 (ownClaim s),
                    amount := Fin.ofNat 1024
                      (match s.ae.bid, s.ae.engine with | some b, _ => b | none, .powering => s.ae.iSet.getD 0 | none, _ => 0),
                    capacity := Fin.ofNat 4096 p.f, mate := p.mate }
                some { kind := h.kind, waited := h.waited, congested := h.congested, contents := n,
                       bits := encodeFrame h.kind n, dropped := false, voided := false,
                       afterUpgrade := s.ae.profFullPending } } })
      ∧ (∀ c, s.sli.leaveCopy = some c → h.kind = .leave →
          ∃ t, exec .transmissionBegin s = .next t
            ∧ t.sli.inFlight.map (fun f => (f.kind, f.contents)) = some (.leave,
                { cls := c.cls, slot := c.slot, phase := .stopped, profile := .reduced, bidOpen := false, carrying := false,
                  handoverReq := false, claim := 0, amount := 0, capacity := Fin.ofNat 4096 c.f, mate := c.mate })
            ∧ t.sli.line = .busy ∧ t.sli.queue = rest ∧ t = { s with sli := t.sli })

/-- A notice in flight that loses arbitration, clashes, or whose loopback fails its end check, ends and returns to the queue with its
original request time (R27, R28, R29, R36): to the head, in place of any queued notice of its kind; not where it may not return or a
LEAVE is queued; and a BID with a queued YIELD cancels with it (R35). A loss counts nothing; a failed end check counts one error and
ends the frame (R24, R32). That the disturbance of R24 is left to a command of its own, and that a LEAVE which may not return takes its
copy with it, are the model's readings (notes/assumptions/10.md and 26.md). -/
def Obligations.LossesReturnTheNotice : Prop :=
  ∀ (f : InFlight) (s : State), s.sli.inFlight = some f → Settled s →
    congestionDue (queueAfterReturn f s.sli.queue) = false →
    ((f.dropped = true ∨ isQueued .leave s.sli.queue = true) → queueAfterReturn f s.sli.queue = s.sli.queue)
      ∧ (f.dropped = false → isQueued .leave s.sli.queue = false → f.kind = .bid → isQueued .yield s.sli.queue = true →
          queueAfterReturn f s.sli.queue = s.sli.queue.filter (fun q => q.kind ≠ .yield))
      ∧ (f.dropped = false → isQueued .leave s.sli.queue = false → ¬ (f.kind = .bid ∧ isQueued .yield s.sli.queue = true) →
          queueAfterReturn f s.sli.queue =
            { kind := f.kind, waited := f.waited, congested := f.congested } :: s.sli.queue.filter (fun q => q.kind ≠ f.kind))
      ∧ (s.sli.clashCount = 0 → ∃ t, exec .clash s = .next t ∧ t.sli.inFlight = none
          ∧ t.sli.queue = queueAfterReturn f s.sli.queue)
      ∧ (let copy := if f.kind = .leave ∧ f.dropped = true then none else s.sli.leaveCopy
         exec .lostArbitration s = .next
            { s with sli := { s.sli with inFlight := none, deaf := false, queue := queueAfterReturn f s.sli.queue,
                                         leaveCopy := copy } }
          ∧ exec (.loopback false) s = .next
              { s with sli := { s.sli with inFlight := none, deaf := false, queue := queueAfterReturn f s.sli.queue,
                                           leaveCopy := copy, line := .idle, gap := 0,
                                           errors := min 255 (s.sli.errors + 1) } })

/-- A first clash (R28): the notice returns to the queue, the clash count becomes 1, the rest of the frame is not received, and
a clash wait of 1..16 ms awaits the next completed gap: 1 + (checksum modulo 16), by the LEAVE's kept copy or else the loaded
profile. With neither, the wait's length is a free value (notes/assumptions/8.md). That the copy of a LEAVE in flight over a new seating
times the wait, and ends with a LEAVE that may not return, is the model's reading (notes/assumptions/26.md). -/
def Obligations.FirstClashStartsTheWait : Prop :=
  ∀ (f : InFlight) (s : State), s.sli.inFlight = some f → Settled s →
    congestionDue (queueAfterReturn f s.sli.queue) = false → s.sli.clashCount = 0 →
    ∃ t, exec .clash s = .next t
      ∧ (∃ ms ≤ 16, 1 ≤ ms ∧ t.sli = { s.sli with
                  inFlight := none, queue := queueAfterReturn f s.sli.queue, deaf := true, clashCount := 1
                  clashWait := .awaitingGap ms
                  leaveCopy := if f.kind = .leave ∧ f.dropped = true then none else s.sli.leaveCopy }
          ∧ (∀ c, s.sli.leaveCopy = some c → ms = 1 + c.checksum.toNat % 16)
          ∧ (∀ p, s.sc.profile = some p → s.sli.leaveCopy = none → ms = 1 + p.checksum.toNat % 16))
      ∧ t = { s with sli := t.sli, freeCount := t.freeCount }

/-- A slot clash, by a clash with the clash count at 1 or by a valid frame of any kind that bears the own slot (R30, R31): the
clash count is 0 and LINE is raised. With MAIN_G closed the station keeps its power, its state and its notices, a clashed one back in
the queue by R36; with MAIN_G open an engine not already silent stops with SLOT_CLASH, its bid, exit and source gone, its retry count
kept, its queue emptied, and FAULT raised. In RELEARN the stop leaves a forced-off and a trip-pending mark as they stand, the
model's reading (notes/assumptions/18.md). -/
def Obligations.SlotClashStopsAnOpenStation : Prop :=
  ∀ (n : Notice) (c : Instr) (s : State),
    ((c = .standingNotice n ∨ c = .bidNotice n ∨ c = .yieldNotice n ∨ c = .leaveNotice n)
        ∧ s.sv.opened = true ∧ s.sc.slot = some n.slot ∧ receives s.sli = true
      ∨ c = .clash ∧ s.sli.inFlight.isSome = true ∧ s.sli.clashCount = 1) →
    s.sc.start = .relearn ∧ s.ae.engine = .none ∨ s.sc.start = .done ∧ s.ae.engine ≠ .none →
    ¬ (s.ae.engine = .stopped ∧ silentCause s.ae.cause = true) →
    ∃ t, exec c s = .next t ∧ t.sli.clashCount = 0 ∧ flagSet .line t = true ∧ t.fs = s.fs ∧ t.sv = s.sv ∧ t.inp = s.inp
      ∧ t.pending = s.pending
      ∧ (s.pp.path = .closed → t.ae = s.ae ∧ t.pp = s.pp ∧ t.held = s.held ∧ t.bp = s.bp ∧ t.rc = s.rc ∧ t.sc = s.sc
          ∧ flagSet .fault t = flagSet .fault s ∧ t.sli.periodic = (if silent s then none else s.sli.periodic)
          ∧ (let places := fun q : List Queued => q.map (fun x => (x.kind, x.waited))
             (c ≠ .clash → places t.sli.queue = places s.sli.queue)
              ∧ (c = .clash → ∀ f, s.sli.inFlight = some f → places t.sli.queue = places (queueAfterReturn f s.sli.queue))))
      ∧ (s.pp.path ≠ .closed → t.ae.engine = .stopped ∧ t.ae.cause = .slotClash ∧ t.ae.bid = none ∧ t.ae.exit = .none
          ∧ t.ae.source = .none ∧ t.ae.retryCount = s.ae.retryCount ∧ gateOn t = false
          ∧ (gateOn s = false → t.pp = s.pp) ∧ t.sli.queue = [] ∧ t.sli.periodic = none
          ∧ (∀ f, t.sli.inFlight = some f → f.dropped = true) ∧ t.sc = { s.sc with start := .done, relearn := none }
          ∧ flagSet .fault t = true)

/-- A notice whose loopback passes its end check is sent (R29): it ends, the clash count is 0, the line is IDLE with its gap
beginning. The BID of the open bid opens its window of 120 ms (R81, R91); a STANDING begun with PROF_FULL pending asserts it and
raises PROFILE (R92); a sent LEAVE needs its copy no longer (R37); and nothing else changes. That a BID in flight whose bid
has closed opens no window is the model's reading (notes/assumptions/11.md). -/
def Obligations.LoopbackSendsTheNotice : Prop :=
  ∀ (f : InFlight) (s : State), s.sli.inFlight = some f → Settled s →
    ∃ t, exec (.loopback true) s = .next t
      ∧ t.sli = { s.sli with inFlight := none, clashCount := 0, line := .idle, gap := 0, deaf := false,
                             leaveCopy := if f.kind = .leave then none else s.sli.leaveCopy }
      ∧ t.ae.window = (if f.kind = .bid ∧ f.voided = false ∧ bids s.ae.engine = true ∧ s.ae.window = none then some 120
                       else s.ae.window)
      ∧ (let strobed := decide (f.kind = .standing) && f.afterUpgrade && s.ae.profFullPending
         t.held = { s.held with profFull := s.held.profFull || strobed }
          ∧ t.ae = { s.ae with window := t.ae.window, profFullPending := s.ae.profFullPending && !strobed }
          ∧ PortAfter (if strobed then flagWord .profile else 0) s t)
      ∧ t.sv = s.sv ∧ t.fs = s.fs ∧ t.pp = s.pp ∧ t.bp = s.bp ∧ t.rc = s.rc ∧ t.inp = s.inp ∧ t.sc = s.sc
      ∧ t.freeCount = s.freeCount ∧ t.pending = s.pending

/-- Entry into STUCK and its end (R25): LINE is raised; entry sets the clash count to 0, and the end leaves IDLE with the gap
complete. With the engine in none of WAITING, BIDDING and UPGRADE_BID nothing else changes. At entry a BIDDING whose window has not
opened closes its bid and backs off (R81, R85), and so an UPGRADE_BID returns to STEADY with the retry hold (R91, R93); one whose
window runs goes on. WAITING evaluates at either (R77): at entry its reason is LINE, unless the feeds fail first, and at the end it
bids or takes the reason of the first condition that fails (R78, R80). A clash wait that awaits a gap
starts at the end of STUCK, and a notice in flight stays at its entry until a command of its own ends it: the model's readings
(notes/assumptions/9.md and 25.md). -/
def Obligations.StuckAndFreed : Prop :=
  ∀ s : State, Settled s →
    (s.sli.line ≠ .stuck →
        ∃ t, exec .lineStuck s = .next t ∧ t.sli.line = .stuck ∧ t.sli.clashCount = 0 ∧ t.sli.gap = s.sli.gap
          ∧ t.sli.errors = s.sli.errors ∧ flagSet .line t = true
          ∧ (s.ae.engine ≠ .waiting → bids s.ae.engine = false →
              PortAfter (flagWord .line) s t
                ∧ t.sli = { s.sli with line := .stuck, deaf := false, clashCount := 0 }
                ∧ t = { s with sli := t.sli, lpi := t.lpi })
          ∧ (s.ae.engine = .bidding → s.ae.bid.isSome = true → s.sc.start = .done → s.ae.window = none →
              t.ae = { s.ae with engine := .backoff, bid := none, reservation := none, backoff := some (200 + 10 * ownRank s) }
                ∧ t.pp = s.pp)
          ∧ (s.ae.engine = .admitted .upgradeBid → s.ae.bid.isSome = true → s.ae.window = none →
              t.ae = { s.ae with engine := .admitted .steady, bid := none, retryHold := some (200 + 10 * ownRank s) }
                ∧ BladeKept s t)
          ∧ (bids s.ae.engine = true → s.ae.bid.isSome = true → s.ae.window = none → Requests s →
              isQueued .bid t.sli.queue = false ∧ isQueued .standing t.sli.queue = true
                ∧ (isQueued .bid s.sli.queue = false → isQueued .yield t.sli.queue = true))
          ∧ (bids s.ae.engine = true → s.ae.window.isSome = true → t.ae = s.ae ∧ BladeKept s t ∧ t.sli.queue = s.sli.queue)
          ∧ (∀ p, s.sc.profile = some p → ∀ v, s.ae.vC = some v → s.ae.engine = .waiting →
              t.ae = { s.ae with reason := if feedGate p s then .line else .feed } ∧ t.sli.queue = s.sli.queue ∧ BladeKept s t))
      ∧ (s.sli.line = .stuck →
          ∃ t, exec .lineFreed s = .next t ∧ t.sli.line = .idle ∧ t.sli.gap = 12 ∧ flagSet .line t = true
            ∧ t.sli.clashWait = (match s.sli.clashWait with | .awaitingGap ms => .running ms | w => w)
            ∧ (s.ae.engine ≠ .waiting → t.ae = s.ae ∧ t.sli.queue = s.sli.queue ∧ PortAfter (flagWord .line) s t
                ∧ t = { s with sli := t.sli, lpi := t.lpi })
            ∧ (∀ p, s.sc.profile = some p → ∀ v, s.ae.vC = some v → s.ae.engine = .waiting →
                BladeKept s t
                  ∧ (∀ x, bidConditions p v { s with sli := { s.sli with line := .idle } } = .ok x →
                      t.ae = { s.ae with engine := .bidding, reason := .none, profile := x.1, bid := some x.2.2, window := none,
                                         reservation := some x.2.2 }
                        ∧ (s.ae.bid = none → Requests s →
                            isQueued .bid t.sli.queue = true ∧ isQueued .standing t.sli.queue = true))
                  ∧ (∀ r, bidConditions p v { s with sli := { s.sli with line := .idle } } = .error r →
                      t.ae = { s.ae with reason := r } ∧ t.sli.queue = s.sli.queue
                        ∧ (r = .denied → s.ae.reason ≠ .denied → flagSet .denied t = true))))

/-- The end of a quality interval (R32): 8 errors or more set IMPAIRED, 0 or 1 clear it, 2 to 7 leave it, and the next interval
begins with a count of 0. A change raises LINE; with the engine in none of WAITING, BIDDING and UPGRADE_BID nothing else
changes. At a change WAITING evaluates (R77, R78, R80); and IMPAIRED, becoming set, closes a bid whose window has not opened, BIDDING
backing off (R81, R85) and UPGRADE_BID returning to STEADY with the retry hold (R91, R93). A bid whose window runs goes on, and so
does any bid as IMPAIRED clears. -/
def Obligations.QualityIntervalSetsImpaired : Prop :=
  ∀ s : State, Settled s →
    ∃ t, exec .qualityIntervalEnd s = .next t ∧ t.sli.errors = 0 ∧ t.sli.quality = some 1000
      ∧ (8 ≤ s.sli.errors → t.sli.impaired = true) ∧ (s.sli.errors ≤ 1 → t.sli.impaired = false)
      ∧ (2 ≤ s.sli.errors → s.sli.errors ≤ 7 → t.sli.impaired = s.sli.impaired)
      ∧ t.sli.line = s.sli.line ∧ t.fs = s.fs ∧ t.sv = s.sv ∧ t.pp = s.pp ∧ t.inp = s.inp ∧ t.sc = s.sc
      ∧ (t.sli.impaired ≠ s.sli.impaired → flagSet .line t = true)
      ∧ (t.sli.impaired = s.sli.impaired ∨ s.ae.engine ≠ .waiting ∧ bids s.ae.engine = false →
          PortAfter (if t.sli.impaired = s.sli.impaired then 0 else flagWord .line) s t
            ∧ t.sli = { s.sli with errors := 0, quality := some 1000, impaired := t.sli.impaired }
            ∧ t = { s with sli := t.sli, lpi := t.lpi })
      ∧ (t.sli.impaired ≠ s.sli.impaired →
          (t.sli.impaired = true → s.ae.engine = .bidding → s.ae.bid.isSome = true → s.sc.start = .done → s.ae.window = none →
              t.ae = { s.ae with engine := .backoff, bid := none, reservation := none, backoff := some (200 + 10 * ownRank s) })
            ∧ (t.sli.impaired = true → s.ae.engine = .admitted .upgradeBid → s.ae.bid.isSome = true → s.ae.window = none →
                t.ae = { s.ae with engine := .admitted .steady, bid := none, retryHold := some (200 + 10 * ownRank s) })
            ∧ (t.sli.impaired = true → bids s.ae.engine = true → s.ae.bid.isSome = true → s.ae.window = none → Requests s →
                isQueued .bid t.sli.queue = false ∧ isQueued .standing t.sli.queue = true
                  ∧ (isQueued .bid s.sli.queue = false → isQueued .yield t.sli.queue = true))
            ∧ (bids s.ae.engine = true → (s.ae.window.isSome = true ∨ t.sli.impaired = false) →
                t.ae = s.ae ∧ t.sli.queue = s.sli.queue)
            ∧ (∀ p, s.sc.profile = some p → ∀ v, s.ae.vC = some v → s.ae.engine = .waiting →
                let seen : State := { s with sli := { s.sli with impaired := t.sli.impaired } }
                (∀ x, bidConditions p v seen = .ok x →
                    t.ae = { s.ae with engine := .bidding, reason := .none, profile := x.1, bid := some x.2.2, window := none,
                                       reservation := some x.2.2 }
                      ∧ (s.ae.bid = none → Requests s →
                          isQueued .bid t.sli.queue = true ∧ isQueued .standing t.sli.queue = true))
                  ∧ (∀ r, bidConditions p v seen = .error r →
                      t.ae = { s.ae with reason := r } ∧ t.sli.queue = s.sli.queue
                        ∧ (r = .denied → s.ae.reason ≠ .denied → flagSet .denied t = true)))
            ∧ BladeKept s t)

/-- The line's counts and the queue's two timers, each command changing nothing else (R23, R28, R32, R38, R40): a completed gap
starts a clash wait that awaits it; a dominant sample after it begins a frame, and before it is one disturbance, an error unless no
gap has completed since the reset; a clash wait that ends stops; a head notice that has waited 250 ms raises LINE once; the
periodic timer's expiry restarts it at 50 ms and requests a STANDING. -/
def Obligations.LineCountsAndTimers : Prop :=
  ∀ (h : Queued) (rest : List Queued) (s : State), Settled s →
    (s.sli.line = .idle → s.sli.gap < 12 →
        exec .gapComplete s = .next
          { s with sli := { s.sli with
              gap := 12, gapSeen := true, deaf := false
              clashWait := match s.sli.clashWait with | .awaitingGap ms => .running ms | w => w } }
          ∧ exec .disturbance s = .next
              { s with sli := { s.sli with gap := 0,
                                           errors := if s.sli.gapSeen then min 255 (s.sli.errors + 1) else s.sli.errors } })
      ∧ (s.sli.line = .idle → 12 ≤ s.sli.gap →
          exec .startBit s = .next { s with sli := { s.sli with line := .busy, gap := 0, deaf := false } })
      ∧ (s.sli.clashWait ≠ .stopped → (∀ ms, s.sli.clashWait ≠ .awaitingGap ms) →
          exec .clashWaitExpiry s = .next { s with sli := { s.sli with clashWait := .stopped } })
      ∧ (250 ≤ h.waited → h.congested = false →
          exec .transmitCongestion { s with sli := { s.sli with queue := h :: rest } } = .next
            { s with sli := { s.sli with queue := { h with congested := true } :: rest },
                     lpi := { s.lpi with flags := s.lpi.flags ||| flagWord .line } })
      ∧ (h.congested = true →
          exec .transmitCongestion { s with sli := { s.sli with queue := h :: rest } } = .next
            { s with sli := { s.sli with queue := h :: rest } })
      ∧ (Requests s → s.sli.periodic.isSome = true →
          exec .periodicNoticeExpiry s = .next
            { s with sli := { s.sli with periodic := some 50, queue := joinTail .standing s.sli.queue } })

/-! ## The shelf view (chapter 01) -/

/-- A STANDING, a BID or a YIELD that the station receives with its view open, from another slot, creates or replaces that slot's
entry, FRESH with age 0 and every field from the frame: an invalid capacity is kept and marked, a mate that names its sender is
absent, and the bid is by BID_OPEN, present, or absent (R3, R4, R5, R6, R7, R9). Every other slot's entry stays; the frame ends;
and with the engine in none of WAITING, ADMITTED, HANDOVER and HELD and TAKEOVER deasserted no other block changes but by the
flags of the mismatch conditions that begin (R10, R18, R20). -/
def Obligations.NoticesWriteTheirEntry : Prop :=
  ∀ (n : Notice) (c : Instr) (bid : Option (Fin 1024)) (s : State), s.sv.opened = true → s.sc.slot ≠ some n.slot →
    receives s.sli = true → Settled s →
      (c = .standingNotice n ∧ bid = (if n.bidOpen then some n.amount else none) ∨ c = .bidNotice n ∧ bid = some n.amount
        ∨ c = .yieldNotice n ∧ bid = none) →
      ∃ t, exec c s = .next t
        ∧ lookup t.sv.table n.slot = some
            { slot := n.slot, cls := n.cls, phase := n.phase, profile := n.profile, bidOpen := n.bidOpen, carrying := n.carrying,
              handoverReq := n.handoverReq, claim := n.claim, amount := n.amount, capacity := n.capacity,
              capValid := decide (50 ≤ n.capacity.val ∧ n.capacity.val ≤ 4000),
              mate := if n.mate = some n.slot then none else n.mate, bid := bid, age := 0, stale := false }
        ∧ (∀ sl, sl ≠ n.slot → lookup t.sv.table sl = lookup s.sv.table sl) ∧ t.sv.opened = true
        ∧ t.sli.line = .idle ∧ t.sli.gap = 0 ∧ t.sli.errors = s.sli.errors ∧ t.sli.clashCount = s.sli.clashCount
        ∧ t.fs = s.fs ∧ t.inp = s.inp ∧ t.sc = s.sc ∧ t.freeCount = s.freeCount ∧ t.pending = s.pending
        ∧ (capacityMismatch s = false → capacityMismatch t = true → flagSet .capacityMismatch t = true)
        ∧ (mateMismatch s = false → mateMismatch t = true → flagSet .mateMismatch t = true)
        ∧ (s.ae.engine ≠ .waiting → (∀ sub, s.ae.engine ≠ .admitted sub) → s.ae.engine ≠ .retiring .handover →
            s.ae.engine ≠ .retiring .held → s.held.takeover = false →
            t.ae = s.ae ∧ BladeKept s t ∧ t.sli = { s.sli with line := .idle, gap := 0, deaf := false }
              ∧ PortAfter ((if capacityMismatch s = false ∧ capacityMismatch t = true then flagWord .capacityMismatch else 0)
                  ||| (if mateMismatch s = false ∧ mateMismatch t = true then flagWord .mateMismatch else 0)) s t)

/-- A LEAVE that the station receives with its view open, from another slot, removes that slot's entry and no other, and raises no
PEER_EXPIRED; without such an entry the table stays and only the frame's end is left to see. The slot is then free: its next
STANDING, BID or YIELD, once the gap after the LEAVE is complete, creates a new entry (R8). -/
def Obligations.LeaveRemovesTheEntry : Prop :=
  ∀ (n next : Notice) (s : State), s.sv.opened = true → s.sc.slot ≠ some n.slot → receives s.sli = true → Settled s →
    next.slot = n.slot →
    ∃ t, exec (.leaveNotice n) s = .next t
      ∧ lookup t.sv.table n.slot = none ∧ (∀ sl, sl ≠ n.slot → lookup t.sv.table sl = lookup s.sv.table sl)
      ∧ flagSet .peerExpired t = flagSet .peerExpired s
      ∧ (lookup s.sv.table n.slot = none →
          t = { s with sli := { s.sli with line := .idle, gap := 0, deaf := false } })
      ∧ ∃ w, exec .gapComplete t = .next w
          ∧ (∃ u, exec (.standingNotice next) w = .next u ∧ lookup u.sv.table n.slot = some (entryOf .standing next))
          ∧ (∃ u, exec (.bidNotice next) w = .next u ∧ lookup u.sv.table n.slot = some (entryOf .bid next))
          ∧ (∃ u, exec (.yieldNotice next) w = .next u ∧ lookup u.sv.table n.slot = some (entryOf .yield next))

/-- What reception does short of the view (R2, R23, R24, R25, R29, R31): bits that form no valid frame, or fail the end check, end
the frame and count one error and nothing else; bits that do form one are that notice; a closed view drops every notice; with the
line STUCK, a notice of its own in flight, or the line IDLE before its gap is complete, the station receives no frame, and nothing
changes; and of the remainder of a frame it clashed in it sees the end alone. That a frame's row stands for its start bit too, and
that bits which do form a valid frame are that notice, is the model's reading (notes/assumptions/7.md); that a failed end check counts
one error here and its disturbance another is notes/assumptions/10.md. -/
def Obligations.FramesThatDoNotReachTheView : Prop :=
  ∀ (bits : BitVec 64) (recessive : Bool) (n : Notice) (s : State), Settled s →
    (receives s.sli = true → (decodeFrame bits = none ∨ recessive = false) →
        exec (.invalidFrame bits recessive) s = .next
          { s with sli := { s.sli with line := .idle, gap := 0, deaf := false, errors := min 255 (s.sli.errors + 1) } })
      ∧ exec (.invalidFrame (encodeFrame .standing n) true) s = exec (.standingNotice n) s
      ∧ exec (.invalidFrame (encodeFrame .leave n) true) s = exec (.leaveNotice n) s
      ∧ (receives s.sli = true → s.sv.opened = false →
          ∀ c ∈ [Instr.standingNotice n, .bidNotice n, .yieldNotice n, .leaveNotice n],
            exec c s = .next { s with sli := { s.sli with line := .idle, gap := 0, deaf := false } })
      ∧ ((s.sli.line = .stuck ∨ s.sli.inFlight.isSome = true
            ∨ s.sli.line = .idle ∧ s.sli.gap < 12 ∧ s.sli.deaf = false) →
          ∀ c ∈ [Instr.standingNotice n, .bidNotice n, .yieldNotice n, .leaveNotice n, .invalidFrame bits recessive],
            exec c s = .next s)
      ∧ (s.sli.line ≠ .stuck → s.sli.inFlight = none → s.sli.deaf = true →
          ∀ c ∈ [Instr.standingNotice n, .bidNotice n, .yieldNotice n, .leaveNotice n, .invalidFrame bits recessive],
            exec c s = .next { s with sli := { s.sli with line := .idle, gap := 0, deaf := false } })

/-- Ageing (R12, R13, R14): ENTRY_STALE at an age of 200 ms or more makes a FRESH entry STALE and keeps every other field, its bid
included, so that the sums stay; PEER_EXPIRED at 1000 ms or more removes the entry and is raised as an event. No other slot's entry
changes. An arrival taken first returns the age to 0 (R14): below those ages, for an entry already STALE, and for a slot without an
entry, the command changes nothing. That the commands are taken from the queue is the model's choice (notes/assumptions/3.md). -/
def Obligations.EntriesAgeAndExpire : Prop :=
  ∀ (sl : Slot) (e : Entry) (s : State), Settled s →
    (lookup s.sv.table sl = some e → e.stale = false → 200 ≤ e.age →
        ∃ t, exec (.entryStale sl) s = .next t ∧ lookup t.sv.table sl = some { e with stale := true }
          ∧ (∀ x, x ≠ sl → lookup t.sv.table x = lookup s.sv.table x)
          ∧ (ascending s.sv.table = true → committedLoad t.sv.table = committedLoad s.sv.table
              ∧ prechargingCount t.sv.table = prechargingCount s.sv.table ∧ ownCEff t = ownCEff s
              ∧ betterBids (ownRank s) t.sv.table = betterBids (ownRank s) s.sv.table
              ∧ betterInitialBids (ownRank s) t.sv.table = betterInitialBids (ownRank s) s.sv.table
              ∧ mateMismatch t = mateMismatch s ∧ capacityMismatch t = capacityMismatch s)
          ∧ t.fs = s.fs ∧ t.inp = s.inp ∧ t.sc = s.sc ∧ t.freeCount = s.freeCount ∧ t.pending = s.pending)
      ∧ (lookup s.sv.table sl = some e → 1000 ≤ e.age →
          ∃ t, exec (.peerExpired sl) s = .next t ∧ lookup t.sv.table sl = none
            ∧ (∀ x, x ≠ sl → lookup t.sv.table x = lookup s.sv.table x) ∧ flagSet .peerExpired t = true
            ∧ t.fs = s.fs ∧ t.inp = s.inp ∧ t.sc = s.sc ∧ t.freeCount = s.freeCount ∧ t.pending = s.pending)
      ∧ (lookup s.sv.table sl = none ∨ lookup s.sv.table sl = some e ∧ (e.stale = true ∨ e.age < 200) →
          exec (.entryStale sl) s = .next s)
      ∧ (lookup s.sv.table sl = none ∨ lookup s.sv.table sl = some e ∧ e.age < 1000 → exec (.peerExpired sl) s = .next s)

/-- The sums of an empty table are 0, and C_min is F; after an entry is written they are the sums of the other entries and its own
part (R16, R17, R19): L_c by its phase, N_pre, C_min by a valid capacity, B_better by its rank and bid, and NB_better by its rank, a bid
and phase WAITING. C_eff is C_min less RSV, floored at 0 (R17). -/
def Obligations.SumsFollowTheTable : Prop :=
  ∀ (e : Entry) (rank f : Nat) (t : List Entry), ascending t = true →
    committedLoad (insertEntry e t) =
        committedLoad (removeEntry e.slot t)
          + (if e.phase = .waiting ∨ e.phase = .stopped then 0 else e.claim.val)
      ∧ prechargingCount (insertEntry e t) =
          prechargingCount (removeEntry e.slot t) + (if e.phase = .precharging then 1 else 0)
      ∧ cMin f (insertEntry e t) =
          (if e.capValid then min e.capacity.val (cMin f (removeEntry e.slot t)) else cMin f (removeEntry e.slot t))
      ∧ betterBids rank (insertEntry e t) =
          betterBids rank (removeEntry e.slot t)
            + (if e.cls.val * 32 + e.slot.val < rank then (e.bid.map (·.val)).getD 0 else 0)
      ∧ betterInitialBids rank (insertEntry e t) =
          betterInitialBids rank (removeEntry e.slot t)
            + (if e.cls.val * 32 + e.slot.val < rank ∧ e.bid.isSome = true ∧ e.phase = .waiting then 1 else 0)
      ∧ committedLoad [] = 0 ∧ prechargingCount [] = 0 ∧ cMin f [] = f ∧ betterBids rank [] = 0 ∧ betterInitialBids rank [] = 0
      ∧ (∀ p : ProfileData, (p.rsv ≤ cMin p.f t → cEff p t + p.rsv = cMin p.f t) ∧ (cMin p.f t ≤ p.rsv → cEff p t = 0))


/-! ## The feeds (chapter 03) -/

/-- The target state of a feed from its latest sample and the state it is in, row by row (R44); a sample event forms it from the
state as it stood before the event, and the feed takes no other state. -/
def Obligations.FeedTargets : Prop :=
  ∀ (st : FeedState) (v : Nat) (f : Feed),
    ((sampledFeed f v).state = f.state ∨ (sampledFeed f v).state = feedTarget f.state (min v 1023))
      ∧ (v ≤ 199 → feedTarget st v = .absent)
      ∧ (200 ≤ v → v ≤ 359 → feedTarget st v = .low)
      ∧ (360 ≤ v → v ≤ 379 → feedTarget st v = if st = .absent ∨ st = .low then .low else .good)
      ∧ (380 ≤ v → v ≤ 730 → feedTarget st v = .good)
      ∧ (731 ≤ v → v ≤ 750 → feedTarget st v = if st = .high then .high else .good)
      ∧ (751 ≤ v → v ≤ 1023 → feedTarget st v = .high)

/-- A sample event (R43): each feed takes a new state at the fourth consecutive sample with that target, from the state it was in
(R44, R45); V_f is the largest sample among GOOD feeds, or of both with none GOOD (R47); it joins the window of eight (R48); the
ride-through timer starts as the last GOOD feed goes and stops with the first to come, which ends the undervoltage condition
(R51). Where no state, no fault condition and not V_min8 changes, no other block changes (R49, R50). At a change of any of them V_c is
formed again (R58): in POWERING the reservation follows a new V_c (R61, R86) and in BRINGUP the claim (R87), a rise requesting a
STANDING (R41); and WAITING evaluates, bidding where every bid condition holds and else waiting with the reason of the first that
fails (R77, R78, R80), DENIED raised as it becomes the reason (R79). -/
def Obligations.FeedSampleClassifies : Prop :=
  ∀ (a b : Nat) (s : State), Settled s →
    ∃ t, exec (.feedSample a b) s = .next t
      ∧ (∀ x ∈ [(s.fs.a, min a 1023, t.fs.a), (s.fs.b, min b 1023, t.fs.b)],
          let target := feedTarget x.1.state x.2.1
          (target = x.1.state → x.2.2 = { sample := x.2.1, state := x.1.state, pending := none, count := 0 })
            ∧ (target ≠ x.1.state → x.1.pending = some target → 3 ≤ x.1.count →
                x.2.2 = { sample := x.2.1, state := target, pending := none, count := 0 })
            ∧ (target ≠ x.1.state → x.1.pending = some target → x.1.count < 3 →
                x.2.2 = { sample := x.2.1, state := x.1.state, pending := some target, count := x.1.count + 1 })
            ∧ (target ≠ x.1.state → x.1.pending ≠ some target →
                x.2.2 = { sample := x.2.1, state := x.1.state, pending := some target, count := 1 }))
      ∧ (t.fs.a.state = .good → t.fs.b.state = .good → t.fs.vF = max t.fs.a.sample t.fs.b.sample)
      ∧ (t.fs.a.state = .good → t.fs.b.state ≠ .good → t.fs.vF = t.fs.a.sample)
      ∧ (t.fs.a.state ≠ .good → t.fs.b.state = .good → t.fs.vF = t.fs.b.sample)
      ∧ (t.fs.a.state ≠ .good → t.fs.b.state ≠ .good → t.fs.vF = max t.fs.a.sample t.fs.b.sample)
      ∧ t.fs.window = t.fs.vF :: s.fs.window.take 7
      ∧ (anyGood t.fs = true → t.fs.ride = none ∧ t.fs.uv = false)
      ∧ (anyGood t.fs = false → t.fs.uv = s.fs.uv ∧ t.fs.ride = if anyGood s.fs then some 10 else s.fs.ride)
      ∧ ((t.fs.a.state ≠ s.fs.a.state ∨ t.fs.b.state ≠ s.fs.b.state ∨ t.fs.uv ≠ s.fs.uv) → flagSet .feed t = true)
      ∧ (t.fs.a.state = s.fs.a.state → t.fs.b.state = s.fs.b.state → t.fs.uv = s.fs.uv → vMin8 t = vMin8 s →
          t = { s with fs := t.fs })
      ∧ t.sv = s.sv ∧ t.inp = s.inp ∧ t.sc = s.sc ∧ t.freeCount = s.freeCount ∧ t.pending = s.pending
      ∧ (∀ p, s.sc.profile = some p → ∀ v, s.ae.vC = some v →
          (t.fs.a.state ≠ s.fs.a.state ∨ t.fs.b.state ≠ s.fs.b.state ∨ t.fs.uv ≠ s.fs.uv ∨ vMin8 t ≠ vMin8 s) →
          let now := min p.vPlan (max (vMin8 t) 360)
          t.ae.vC = some now
            ∧ (s.ae.engine = .powering → overvoltage t.fs = false → now ≠ v → ∀ i, s.ae.iSet = some i →
                t.ae = { s.ae with vC := some now, reservation := some (max (steadyClaim p now s.ae.profile) i) }
                  ∧ ownClaim t = max (steadyClaim p now s.ae.profile) i
                  ∧ (Requests s → ownClaim s < ownClaim t → isQueued .standing t.sli.queue = true))
            ∧ (s.ae.engine = .bringup → overvoltage t.fs = false →
                t.ae = { s.ae with vC := some now } ∧ ownClaim t = steadyClaim p now s.ae.profile
                  ∧ (Requests s → ownClaim s < ownClaim t → isQueued .standing t.sli.queue = true))
            ∧ (s.ae.engine = .waiting → gateOn s = false →
                (∀ x, bidConditions p now { s with fs := t.fs } = .ok x →
                    t.ae = { s.ae with engine := .bidding, reason := .none, profile := x.1, bid := some x.2.2, window := none,
                                       reservation := some x.2.2, vC := some now })
                  ∧ (∀ r, bidConditions p now { s with fs := t.fs } = .error r →
                      t.ae = { s.ae with reason := r, vC := some now }
                        ∧ (r = .denied → s.ae.reason ≠ .denied → flagSet .denied t = true))))

/-- A feed fault, undervoltage at the ride-through timer's expiry or overvoltage at the sample that begins it, opens the path from
PRECHARGE, CLOSING and CLOSED at once and deasserts every held output (R51, R52, R53, R114). From POWERING, BRINGUP without a
pending fault, ADMITTED and RETIRING the engine enters DISCHARGING with the fault's cause and raises FAULT; nothing is counted,
and the exit is RELEASED where a retire is under way, else WAITING (R99). -/
def Obligations.FeedFaultsOpenThePath : Prop :=
  ∀ (a b : Nat) (c : Instr) (cause : FaultCause) (s : State), s.sc.start = .done → Settled s → gateOn s = true →
    (c = .rideThroughExpiry ∧ s.fs.ride.isSome = true ∧ cause = .feedUv
      ∨ c = .feedSample a b ∧ overvoltage s.fs = false ∧ overvoltage (sampledFeeds s.fs a b) = true ∧ cause = .feedOv) →
    ∃ t, exec c s = .next t ∧ gateOn t = false ∧ t.held = HeldOutputs.deasserted ∧ t.bp.prog = .off
      ∧ t.bp.timedOut = s.bp.timedOut ∧ flagSet .feed t = true
      ∧ (s.ae.bringupFault = false → t.ae.retryCount = s.ae.retryCount)
      ∧ (c = .rideThroughExpiry → t.fs = { s.fs with ride := none, uv := true })
      ∧ (50 ≤ s.pp.vBulk → t.pp.path = .opened ∧ t.pp.discharge = some 2000 ∧ t.pp.discharged = false)
      ∧ (50 ≤ s.pp.vBulk → (s.ae.source = .latch → s.rc.latchOpen = true) → s.ae.bringupFault = false →
          (s.ae.engine = .powering ∨ holdsBlade s.ae.engine = true) →
          t.ae.engine = .discharging ∧ t.ae.cause = cause ∧ flagSet .fault t = true ∧ t.ae.iSet = none
            ∧ t.ae.exit = (if s.ae.engine = .admitted .shedding ∧ s.ae.source ≠ .none ∨ phaseOf s.ae.engine = some .retiring
                           then .released else .waiting))
      ∧ t.sv = s.sv ∧ t.inp = s.inp ∧ t.sc = s.sc ∧ t.freeCount = s.freeCount ∧ t.pending = s.pending

/-! ## The budget arithmetic (chapter 04) -/

/-- An evaluation gives a setpoint only with the feed gate holding and a profile that fits the headroom, full before reduced, equality
fitting; then I_set is the least of I_max, the
pass-element limit and the headroom, at least I_min, keeps the pass element within P_pk, and with the chosen profile's claim
makes a reservation that fits the headroom (R61, R63, R64, R65). -/
def Obligations.SetpointStaysWithinItsLimits : Prop :=
  ∀ (p : ProfileData) (vC vF : Nat) (gate : Bool) (h : Int) (level : PowerLevel) (iSet resv : Nat), 0 < vF →
    evaluate p vC vF gate h = .setpoint level iSet resv →
    gate = true
      ∧ (level = .full ∧ (sFull p vC : Int) ≤ h
          ∨ level = .reduced ∧ h < sFull p vC ∧ ∃ r ≤ resv, sRed p vC = some r ∧ (r : Int) ≤ h)
      ∧ p.iMin ≤ iSet ∧ iSet ≤ p.iMax ∧ vF * iSet ≤ 100 * p.pPk
      ∧ (iSet : Int) ≤ h ∧ (iSet = p.iMax ∨ iSet = 100 * p.pPk / vF ∨ (iSet : Int) = h)
      ∧ resv = max (match level with | .full => sFull p vC | .reduced => (sRed p vC).getD (sFull p vC)) iSet
      ∧ (resv : Int) ≤ h ∧ (p.pPk ≤ 800 → 360 ≤ vF → iSet ≤ 222)

/-- The arithmetic rounds its claims and times up. V_c lies in 360..600 dV, and each steady claim is the current of its profile at
V_c, rounded up, in 2..417 cu, the reduced one at most the full one (R58, R59). The nominal precharge time is
C_b × V_f / (1000 × I_set) rounded up, in 1..4092 ms over the ranges of its inputs (R67); the deadline is twice that and 50 ms, at
most 2000, in 52..2000 ms (R68). -/
def Obligations.ClaimsAndPrechargeTimesRoundUp : Prop :=
  (∀ (p : ProfileData) (vMin : Nat), 360 ≤ p.vPlan → p.vPlan ≤ 600 → 10 ≤ p.pFull → p.pFull ≤ 1500 →
      (∀ r, p.pRed = some r → 10 ≤ r ∧ r < p.pFull) →
      360 ≤ claimVoltage p vMin ∧ claimVoltage p vMin ≤ 600
        ∧ (vMin ≤ 360 → claimVoltage p vMin = 360) ∧ (p.vPlan ≤ vMin → claimVoltage p vMin = p.vPlan)
        ∧ (360 ≤ vMin → vMin ≤ p.vPlan → claimVoltage p vMin = vMin)
        ∧ (let v := claimVoltage p vMin
           100 * p.pFull ≤ sFull p v * v ∧ (sFull p v - 1) * v < 100 * p.pFull ∧ 2 ≤ sFull p v ∧ sFull p v ≤ 417
            ∧ (p.pRed = none → sRed p v = none)
            ∧ (∀ r, p.pRed = some r → ∃ x ≤ 417, sRed p v = some x ∧ 100 * r ≤ x * v ∧ (x - 1) * v < 100 * r ∧ 2 ≤ x
                ∧ x ≤ sFull p v)))
    ∧ (∀ cB vF iSet : Nat, 100 ≤ cB → cB ≤ 20000 → 360 ≤ vF → vF ≤ 1023 → 5 ≤ iSet → iSet ≤ 222 →
        cB * vF ≤ nominalPrecharge cB vF iSet * (1000 * iSet)
          ∧ (nominalPrecharge cB vF iSet - 1) * (1000 * iSet) < cB * vF
          ∧ 1 ≤ nominalPrecharge cB vF iSet ∧ nominalPrecharge cB vF iSet ≤ 4092
          ∧ (2 * nominalPrecharge cB vF iSet + 50 ≤ 2000 →
              prechargeDeadline cB vF iSet = 2 * nominalPrecharge cB vF iSet + 50)
          ∧ (2000 < 2 * nominalPrecharge cB vF iSet + 50 → prechargeDeadline cB vF iSet = 2000)
          ∧ 52 ≤ prechargeDeadline cB vF iSet)

/-! ## Admission (chapter 05) -/

/-- A bid window's expiry with the line fine, a setpoint at the resolution headroom C_eff − L_c − B_better, and
N_pre + NB_better below K (R62, R65, R83): POWERING with that profile, I_set, reservation and deadline; the bid is removed, the
Power Path begins its precharge at ramp step 1 (R102, R103), PHASE is raised and a STANDING requested (R41); nothing else
changes. -/
def Obligations.BidWindowExpiryWins : Prop :=
  ∀ (p : ProfileData) (v : Nat) (level : PowerLevel) (iSet resv : Nat) (s : State), s.sc.profile = some p → s.ae.vC = some v →
    s.sc.start = .done → s.ae.engine = .bidding → s.ae.window.isSome = true → Requests s → Settled s → s.pp.path = .opened →
    s.sli.line ≠ .stuck → s.sli.impaired = false →
    evaluate p v s.fs.vF (feedGate p s)
        ((cEff p s.sv.table : Int) - committedLoad s.sv.table - betterBids (ownRank s) s.sv.table)
      = .setpoint level iSet resv →
    prechargingCount s.sv.table + betterInitialBids (ownRank s) s.sv.table < p.k →
    ∃ t, exec .bidWindowExpiry s = .next t
      ∧ t.ae = { s.ae with engine := .powering, profile := level, bid := none, window := none, reservation := some resv,
                           iSet := some iSet, deadline := some (prechargeDeadline p.cB s.fs.vF iSet) }
      ∧ t.pp = { s.pp with path := .precharge, iSet := iSet, deadline := prechargeDeadline p.cB s.fs.vF iSet, ramp := 1,
                           limit := max (iSet / 8) s.pp.iMin, elapsed := 0, half := false, foldback := false,
                           discharge := none, discharged := false }
      ∧ LineAfter true s t ∧ PortAfter (flagWord .phase) s t ∧ t.held = s.held ∧ t.bp = s.bp ∧ t.rc = s.rc ∧ OuterKept s t

/-- A bid window's expiry at which a test fails, by the line, the evaluation or the count of precharges (R83, R84): the bid closes,
a YIELD is requested with a STANDING after it, a queued BID being cancelled instead (R35), and BACKOFF runs for 200 + 10 × rank
ms (R85). PHASE is not raised, for WAITING stays announced. That a BID in flight is marked as no longer the BID of an open bid is the
model's reading (notes/assumptions/11.md). -/
def Obligations.BidWindowExpiryFails : Prop :=
  ∀ (p : ProfileData) (v : Nat) (s : State), s.sc.profile = some p → s.ae.vC = some v → s.sc.start = .done →
    s.ae.engine = .bidding → s.ae.bid.isSome = true → s.ae.window.isSome = true → Requests s → Settled s →
    congestionDue (dequeue .bid s.sli.queue) = false →
    (s.sli.line = .stuck ∨ s.sli.impaired = true
      ∨ (∀ level iSet resv, evaluate p v s.fs.vF (feedGate p s)
          ((cEff p s.sv.table : Int) - committedLoad s.sv.table - betterBids (ownRank s) s.sv.table)
            ≠ .setpoint level iSet resv)
      ∨ p.k ≤ prechargingCount s.sv.table + betterInitialBids (ownRank s) s.sv.table) →
    ∃ t, exec .bidWindowExpiry s = .next t
      ∧ t.ae = { s.ae with engine := .backoff, bid := none, window := none, reservation := none,
                           backoff := some (200 + 10 * ownRank s) }
      ∧ t.sli.inFlight = s.sli.inFlight.map (fun f => { f with voided := f.voided || decide (f.kind = .bid) })
      ∧ (isQueued .bid s.sli.queue = true →
          t.sli.queue = joinTail .standing (s.sli.queue.filter (fun q => q.kind ≠ .bid)))
      ∧ (isQueued .bid s.sli.queue = false → t.sli.queue = joinTail .standing (joinTail .yield s.sli.queue))
      ∧ PortAfter 0 s t ∧ BladeKept s t ∧ OuterKept s t

/-- The ends of BACKOFF and COOLDOWN (R77, R78, R80, R85, R96): WAITING with its entry evaluation. Where every bid condition holds
the station bids at once, with a BID and a STANDING requested; else it waits with the reason of the first condition that fails, and
DENIED is raised where that reason is DENIED (R79). WAITING stays announced throughout. In WAITING a peer's notice that changes the
view is evaluated the same way, on the view with its entry (R10, R77). -/
def Obligations.BackoffAndCooldownEndInWaiting : Prop :=
  ∀ (p : ProfileData) (v : Nat) (c : Instr) (n : Notice) (s : State), s.sc.profile = some p → s.ae.vC = some v →
    s.sc.start = .done → s.ae.bid = none → Requests s → Settled s →
    ((c = .backoffExpiry ∧ s.ae.engine = .backoff ∧ s.ae.backoff.isSome = true
        ∨ c = .cooldownExpiry ∧ s.ae.engine = .cooldown ∧ s.ae.cooldown.isSome = true) →
      ∃ t, exec c s = .next t
        ∧ (if s.ae.engine = .backoff then t.ae.backoff = none ∧ t.ae.cooldown = s.ae.cooldown
           else t.ae.cooldown = none ∧ t.ae.backoff = s.ae.backoff)
        ∧ (∀ x, bidConditions p v s = .ok x →
            t.ae.engine = .bidding ∧ t.ae.bid = some x.2.2 ∧ t.ae.reservation = some x.2.2 ∧ t.ae.profile = x.1
              ∧ t.ae.reason = .none ∧ t.ae.window = none ∧ isQueued .bid t.sli.queue = true
              ∧ isQueued .standing t.sli.queue = true ∧ PortAfter 0 s t)
        ∧ (∀ r, bidConditions p v s = .error r →
            t.ae.engine = .waiting ∧ t.ae.bid = none ∧ t.ae.reservation = none ∧ t.ae.reason = r ∧ t.sli = s.sli
              ∧ PortAfter (if r = .denied then flagWord .denied else 0) s t)
        ∧ (feedGate p s = false → bidConditions p v s = .error .feed)
        ∧ (feedGate p s = true → lineFine s = false → bidConditions p v s = .error .line)
        ∧ (feedGate p s = true → lineFine s = true → deniedBy p v s.fs.vF (cEff p s.sv.table) = false →
            p.k ≤ prechargingCount s.sv.table → bidConditions p v s = .error .busy)
        ∧ BladeKept s t ∧ OuterKept s t ∧ t.ae.retryCount = s.ae.retryCount)
    ∧ (s.ae.engine = .waiting → s.sv.opened = true → receives s.sli = true → s.sc.slot ≠ some n.slot →
        (∀ e, lookup s.sv.table n.slot = some e → { e with age := 0 } ≠ entryOf .standing n) →
        ∃ t, exec (.standingNotice n) s = .next t
          ∧ t.sv = { s.sv with table := insertEntry (entryOf .standing n) s.sv.table }
          ∧ (∀ x, bidConditions p v { s with sv := t.sv } = .ok x →
              t.ae = { s.ae with engine := .bidding, reason := .none, profile := x.1, bid := some x.2.2, window := none,
                                 reservation := some x.2.2 }
                ∧ isQueued .bid t.sli.queue = true ∧ isQueued .standing t.sli.queue = true)
          ∧ (∀ r, bidConditions p v { s with sv := t.sv } = .error r →
              t.ae = { s.ae with reason := r } ∧ t.sli.queue = s.sli.queue
                ∧ (r = .denied → s.ae.reason ≠ .denied → flagSet .denied t = true)
                ∧ (r ≠ .denied ∨ s.ae.reason = .denied → flagSet .denied t = flagSet .denied s))
          ∧ t.pp = s.pp ∧ t.bp = s.bp ∧ t.fs = s.fs ∧ t.sc = s.sc ∧ t.inp = s.inp)

/-- An overcommit excursion begins and a shed completes. The shed completes at PROF_ACK seen low or at the shed wait's expiry (R90):
the reduced profile and its claim, PROFILE raised, a STANDING requested, and the upgrade hold of 10,000 ms running. With no retire held
the substate is STEADY, and a station still over is in an excursion with OVERCOMMIT raised, whichever excursion it is (the model's
reading, notes/assumptions/29.md); a held retire is taken (R98). A peer's notice that first leaves the station over (R69, R88, R89)
sheds from STEADY at the full profile with P_red present, PROF_FULL deasserted and any pending one cancelled, for 500 ms, or to its
completion at once where PROF_ACK stands low (R90); raises OVERCOMMIT from STEADY otherwise; closes an upgrade bid with a YIELD and
the retry hold, and raises it; and does nothing more in SHEDDING or in an excursion that lasts. The two premises on the retire source
hold in every state that a run reaches: STEADY holds no retire (R87, R98), and in SHEDDING, where a closing latch cancels its retire,
source LATCH stands with the latch open (R142, R152). -/
def Obligations.ShedCompletes : Prop :=
  ∀ (p : ProfileData) (v : Nat) (c : Instr) (n : Notice) (s : State), s.sc.profile = some p → s.ae.vC = some v →
    s.sc.start = .done → Requests s → Settled s → (s.ae.engine = .admitted .steady → s.ae.source = .none) →
    (s.ae.source = .latch → s.rc.latchOpen = true) →
    (p.pRed.isSome = true → s.ae.engine = .admitted .shedding → s.ae.profile = .full → s.ae.bid = none →
      (c = .profAckChange false ∨ c = .shedWaitExpiry ∧ s.ae.shedWait.isSome = true) →
      ∃ t, exec c s = .next t ∧ t.ae.profile = .reduced ∧ t.ae.upgradeHold = some 10000 ∧ t.ae.shedWait = none
        ∧ isQueued .standing t.sli.queue = true ∧ flagSet .profile t = true
        ∧ (s.ae.source = .none →
            t.ae = { s.ae with engine := .admitted .steady, profile := .reduced, shedWait := none, upgradeHold := some 10000,
                               excursion := isOver t }
              ∧ sRed p v = some (ownClaim t)
              ∧ LineAfter true s t ∧ PortAfter (flagWord .profile ||| if isOver t then flagWord .overcommit else 0) s t
              ∧ t = { s with ae := t.ae, sli := t.sli, lpi := t.lpi,
                             inp := if c = .shedWaitExpiry then s.inp else { s.inp with profAck := false } })
        ∧ (s.ae.source ≠ .none → phaseOf t.ae.engine = some .retiring ∨ gateOn t = false))
    ∧ (∀ sub, s.ae.engine = .admitted sub → s.sv.opened = true → receives s.sli = true → s.sc.slot ≠ some n.slot →
        (∀ e, lookup s.sv.table n.slot = some e → { e with age := 0 } ≠ entryOf .standing n) →
        ownMate s = none → s.held.takeover = false → (s.ae.bid.isSome = true ↔ sub = .upgradeBid) →
        (let table := insertEntry (entryOf .standing n) s.sv.table
         cEff p table < steadyClaim p v s.ae.profile + ((table.filter (fun e => e.rank < ownRank s)).map loadOf).sum) →
        ∃ t, exec (.standingNotice n) s = .next t
          ∧ t.sv = { s.sv with table := insertEntry (entryOf .standing n) s.sv.table }
          ∧ (s.ae.excursion = true → t.ae = s.ae ∧ BladeKept s t ∧ flagSet .overcommit t = flagSet .overcommit s)
          ∧ (s.ae.excursion = false → sub = .shedding →
              t.ae = { s.ae with excursion := true } ∧ BladeKept s t ∧ flagSet .overcommit t = flagSet .overcommit s)
          ∧ (s.ae.excursion = false → sub = .steady → s.ae.profile = .full → p.pRed.isSome = true → s.inp.profAck = true →
              t.ae = { s.ae with engine := .admitted .shedding, excursion := true, profFullPending := false,
                                 shedWait := some 500 }
                ∧ t.held = { s.held with profFull := false } ∧ ownClaim t = sFull p v
                ∧ t.pp = s.pp ∧ t.bp = s.bp ∧ t.rc = s.rc ∧ flagSet .overcommit t = flagSet .overcommit s)
          ∧ (s.ae.excursion = false → sub = .steady → s.ae.profile = .full → p.pRed.isSome = true → s.inp.profAck = false →
              s.ae.source = .none →
              t.ae.engine = .admitted .steady ∧ t.ae.profile = .reduced ∧ t.ae.upgradeHold = some 10000
                ∧ t.held = { s.held with profFull := false } ∧ flagSet .profile t = true
                ∧ (isOver t = true → flagSet .overcommit t = true) ∧ t.ae.excursion = isOver t)
          ∧ (s.ae.excursion = false → sub = .steady → (s.ae.profile = .reduced ∨ p.pRed = none) →
              t.ae = { s.ae with excursion := true } ∧ BladeKept s t ∧ flagSet .overcommit t = true)
          ∧ (s.ae.excursion = false → sub = .upgradeBid →
              t.ae = { s.ae with engine := .admitted .steady, bid := none, window := none, excursion := true,
                                 retryHold := some (200 + 10 * ownRank s) }
                ∧ BladeKept s t ∧ flagSet .overcommit t = true ∧ isQueued .bid t.sli.queue = false
                ∧ (isQueued .bid s.sli.queue = false → isQueued .yield t.sli.queue = true))
          ∧ t.fs = s.fs ∧ t.sc = s.sc ∧ t.inp = s.inp ∧ t.pp.path = s.pp.path ∧ t.freeCount = s.freeCount
          ∧ t.pending = s.pending)

/-- An upgrade opens and ends (R71, R72, R91, R92, R93). A peer's notice that leaves a STEADY station at the reduced profile not over
opens an upgrade bid of S_full − S_red, a BID and a STANDING requested, where no PROF_FULL is pending, neither hold runs, the line is
fine and L_c + S_full + U fits C_eff; elsewhere the station stays STEADY with no excursion. At the upgrade window's expiry, where
the line is fine and L_c + B_better + S_full fits C_eff (R72), the profile becomes full with PROF_FULL pending, its strobe not yet
asserted, and a STANDING is requested; such a station is never over, and any excursion ends (R69, R70). Else the bid closes with a YIELD,
and the upgrade retry hold of 200 + 10 × rank ms starts. -/
def Obligations.UpgradeWindowExpiry : Prop :=
  ∀ (p : ProfileData) (v : Nat) (n : Notice) (s : State), s.sc.profile = some p → s.ae.vC = some v → s.sc.start = .done →
    s.ae.profile = .reduced → Requests s → Settled s →
    (s.ae.engine = .admitted .upgradeBid → s.ae.bid.isSome = true → s.ae.window.isSome = true →
      congestionDue (dequeue .bid s.sli.queue) = false →
      (s.sli.line ≠ .stuck → s.sli.impaired = false →
          committedLoad s.sv.table + betterBids (ownRank s) s.sv.table + sFull p v ≤ cEff p s.sv.table →
          ∃ t, exec .upgradeWindowExpiry s = .next t
            ∧ (sFull p v + ((s.sv.table.filter (fun e => e.rank < ownRank s)).map loadOf).sum ≤ cEff p s.sv.table)
            ∧ t.ae = { s.ae with engine := .admitted .steady, profile := .full, bid := none, window := none,
                                 profFullPending := true, excursion := false }
            ∧ ownClaim t = sFull p v ∧ t.held = s.held ∧ isQueued .standing t.sli.queue = true ∧ PortAfter 0 s t
            ∧ t.sli.inFlight = s.sli.inFlight.map (fun f => { f with afterUpgrade := false })
            ∧ t.pp = s.pp ∧ t.bp = s.bp ∧ t.rc = s.rc ∧ OuterKept s t)
        ∧ ((s.sli.line = .stuck ∨ s.sli.impaired = true
              ∨ cEff p s.sv.table < committedLoad s.sv.table + betterBids (ownRank s) s.sv.table + sFull p v) →
            ∃ t, exec .upgradeWindowExpiry s = .next t
              ∧ t.ae = { s.ae with engine := .admitted .steady, bid := none, window := none,
                                   retryHold := some (200 + 10 * ownRank s) }
              ∧ isQueued .bid t.sli.queue = false ∧ isQueued .standing t.sli.queue = true
              ∧ (isQueued .bid s.sli.queue = false → isQueued .yield t.sli.queue = true)
              ∧ PortAfter 0 s t ∧ BladeKept s t ∧ OuterKept s t))
    ∧ (s.ae.engine = .admitted .steady → s.sv.opened = true → receives s.sli = true → s.sc.slot ≠ some n.slot →
        (∀ e, lookup s.sv.table n.slot = some e → { e with age := 0 } ≠ entryOf .standing n) →
        ownMate s = none → s.held.takeover = false → s.ae.bid = none →
        let table := insertEntry (entryOf .standing n) s.sv.table
        steadyClaim p v .reduced + ((table.filter (fun e => e.rank < ownRank s)).map loadOf).sum ≤ cEff p table →
        ∃ t, exec (.standingNotice n) s = .next t
          ∧ (if p.pRed.isSome = true ∧ s.ae.profFullPending = false ∧ s.ae.retryHold = none ∧ s.ae.upgradeHold = none
                ∧ s.sli.line ≠ .stuck ∧ s.sli.impaired = false ∧ committedLoad table + sFull p v + p.u ≤ cEff p table then
               t.ae = { s.ae with engine := .admitted .upgradeBid, excursion := false, window := none,
                                  bid := some (sFull p v - (sRed p v).getD 0) }
                 ∧ isQueued .bid t.sli.queue = true ∧ isQueued .standing t.sli.queue = true
             else t.ae = { s.ae with excursion := false } ∧ t.sli.queue = s.sli.queue)
          ∧ BladeKept s t ∧ t.sv = { s.sv with table := table } ∧ t.fs = s.fs ∧ t.sc = s.sc ∧ t.inp = s.inp)

/-- Inputs and timers that act on one field alone: the upgrade hold and the upgrade retry hold stop (R73, R93); the directly read
answers and a falling STEP change their levels where nothing waits for them (R1, R127, R148); CARRYING is copied into the own
record in every state of the engine's own, a change requesting a STANDING (R41, R76). That a level told before the first settling, or the
level already held, is obeyed and marks the debouncer settled is the model's choice (notes/assumptions/27.md). -/
def Obligations.SingleInputsAndHolds : Prop :=
  ∀ (level : Bool) (rails : BitVec 4) (ready : Bool) (s : State), Settled s →
    exec .upgradeHoldExpiry s = .next { s with ae := { s.ae with upgradeHold := none } }
      ∧ exec .upgradeRetryHoldExpiry s = .next { s with ae := { s.ae with retryHold := none } }
      ∧ (s.ae.engine ≠ .admitted .shedding ∨ level = true →
          exec (.profAckChange level) s = .next { s with inp := { s.inp with profAck := level } })
      ∧ (s.ae.engine ≠ .retiring .draining ∨ level = false →
          exec (.quiescedRise level) s = .next { s with inp := { s.inp with quiesced := level } })
      ∧ (s.bp.prog ≠ .forward ∨ s.bp.sub ≠ .condition →
          exec (.conditionInputChange rails ready) s = .next { s with inp := { s.inp with railPg := rails, payReady := ready } })
      ∧ exec (.stepEdge false) s = .next { s with inp := { s.inp with stepLevel := false, stepSettled := true } }
      ∧ (s.ae.engine = .none →
          exec (.carryingChange level) s = .next { s with inp := { s.inp with carryingLevel := level, carryingSettled := true } })
      ∧ (s.ae.engine ≠ .none → Requests s →
          exec (.carryingChange level) s = .next
            { s with inp := { s.inp with carryingLevel := level, carryingSettled := true }, ae := { s.ae with carrying := level },
                     sli := { s.sli with queue := if level = s.ae.carrying then s.sli.queue
                                                  else joinTail .standing s.sli.queue } })

/-! ## The power path (chapter 06) -/

/-- A path sample in PRECHARGE (R101, R103, R104, R105, R106): foldback is tested, the ramp steps, the limit in use follows, and the
elapsed count advances, every second time in foldback. A sample within 20 dV of V_f with the feeds fit completes the precharge into
CLOSING for 5 ms, its deadline untested; one that neither completes it nor reaches the deadline changes nothing else. -/
def Obligations.PrechargeSampleTakesItsSteps : Prop :=
  ∀ (v i : Nat) (s : State), s.pp.path = .precharge → s.pp.discharged = false → Settled s → s.pp.elapsed < s.pp.deadline →
    let fold := if s.pp.foldback then decide (s.fs.vF < s.pp.vSag + 10) else decide (s.fs.vF < s.pp.vSag)
    let k := min 8 (s.pp.ramp + 1)
    let base := max (s.pp.iSet * k / 8) s.pp.iMin
    let elapsed := if fold = true ∧ s.pp.half = false then s.pp.elapsed else s.pp.elapsed + 1
    let advanced : PowerPath :=
      { s.pp with vBulk := min v 1023, iLoad := min i 1023, foldback := fold, ramp := k,
                  limit := if fold then min base (max (s.pp.iSet / 2) s.pp.iMin) else base,
                  half := if fold then !s.pp.half else s.pp.half, elapsed := elapsed, discharged := false }
    (s.fs.vF ≤ min v 1023 + 20 → feedsFit s.fs = true →
        exec (.pathSample v i) s = .next { s with pp := { advanced with path := .closing, closing := some 5 } })
      ∧ ((min v 1023 + 20 < s.fs.vF ∨ feedsFit s.fs = false) → elapsed < s.pp.deadline →
          exec (.pathSample v i) s = .next { s with pp := advanced })

/-- The closing timer's expiry with V_bulk within 10 dV of V_f closes the main switch (R107, R108): CLOSED, its counts 0 and the
records of the attempt kept; in POWERING with no retire recorded the engine enters BRINGUP at its steady claim (R60, R86, R87) and
the program runs forward from step 1 with PROF_FULL at the claimed profile and PAY_RST asserted (R125), a paced first step waiting
for its edge (R126). -/
def Obligations.ClosingExpiryClosesTheSwitch : Prop :=
  ∀ (p : ProfileData) (r : StepRecord) (rest : List StepRecord) (s : State), s.sc.profile = some p → p.steps = r :: rest →
    s.sc.start = .done → s.ae.engine = .powering → s.ae.source = .none → s.ae.bid = none → s.bp.prog = .off →
    s.pp.path = .closing →
    s.pp.closing.isSome = true → s.fs.vF ≤ s.pp.vBulk + 10 → Requests s → Settled s →
    ∃ t, exec .closingExpiry s = .next t
      ∧ t.pp = { s.pp with path := .closed, closing := none, slowCount := 0, overCount := 0, overclaim := false }
      ∧ (t.ae.engine = .bringup ∧ t.bp.prog = .forward ∨ (∃ sub, t.ae.engine = .admitted sub) ∧ t.bp.prog = .up)
      ∧ t.ae.reservation = none ∧ t.ae.iSet = none ∧ t.ae.deadline = none ∧ t.ae.retryCount = s.ae.retryCount
      ∧ isQueued .standing t.sli.queue = true ∧ flagSet .phase t = true ∧ PortKept s t ∧ OuterKept s t
      ∧ FlagsWithin (flagWord .phase ||| flagWord .overcommit ||| flagWord .profile) s t
      ∧ (r.paced = true →
          t.ae = { s.ae with engine := .bringup, reservation := none, iSet := none, deadline := none, bringupFault := false }
            ∧ ownClaim t = ownSteady s
            ∧ t.held = { s.held with profFull := decide (s.ae.profile = .full), payRst := true }
            ∧ t.bp = { s.bp with prog := .forward, sub := .pace, reconcile := false, foundUp := false, pointer := 1,
                                 completed := 0, stepTimer := some r.timeout, dwell := none, teardown := none, edge := false,
                                 timedOut := 0 }
            ∧ LineAfter true s t ∧ PortAfter (flagWord .phase) s t ∧ t.rc = s.rc)

/-- The four counted faults as the power path makes three of them (R94, R106, R107, R109, R110, R112): a precharge at its deadline,
a closing whose bulk node is too low, and a trip. The path opens, TRIPPED by a trip, and every held output is deasserted; below the
retry limit the count advances and the exit is COOLDOWN, at it the cause is RETRY_EXHAUSTED and the exit STOPPED, and a recorded
retire makes it RELEASED; FAULT is raised and an open bid closes. PRECHARGE_TIMEOUT and
SLOW_TRIP are their samples whatever the counts show (notes/assumptions/3.md), and a sample that trips raises no OVERCLAIM
(notes/assumptions/19.md): the model's choices. -/
def Obligations.CountedFaultsTakeTheRetryRule : Prop :=
  ∀ (p : ProfileData) (v i : Nat) (c : Instr) (fault : CountedFault) (s : State), s.sc.profile = some p → s.sc.start = .done →
    Settled s → Requests s → (s.ae.source = .latch → s.rc.latchOpen = true) → 50 ≤ v → 50 ≤ s.pp.vBulk →
    (c = .prechargeTimeout v i ∧ s.pp.path = .precharge ∧ s.ae.engine = .powering ∧ min v 1023 + 20 < s.fs.vF
        ∧ fault = .prechargeTimeout
      ∨ c = .closingExpiry ∧ s.pp.path = .closing ∧ s.ae.engine = .powering ∧ s.pp.closing.isSome = true
          ∧ s.pp.vBulk + 10 < s.fs.vF ∧ fault = .closeFail
      ∨ c = .slowTrip v i ∧ s.pp.path = .closed ∧ s.ae.engine ≠ .none ∧ s.pp.iTrip < min i 1023 ∧ fault = .trip
      ∨ c = .pathSample v i ∧ s.pp.path = .closed ∧ s.ae.engine ≠ .none ∧ min (2 * s.pp.iTrip) 1023 < min i 1023
          ∧ fault = .trip) →
    ∃ t, exec c s = .next t
      ∧ t.ae.engine = .discharging
      ∧ t.ae.retryCount = (if s.ae.retryCount < p.retryLimit then s.ae.retryCount + 1 else s.ae.retryCount)
      ∧ t.ae.cause = (if s.ae.retryCount < p.retryLimit then causeOf fault else .retryExhausted)
      ∧ (p.retryLimit ≤ s.ae.retryCount → t.ae.subcause = some fault)
      ∧ t.ae.exit = (if s.ae.source ≠ .none then .released
                     else if s.ae.retryCount < p.retryLimit then .cooldown else .stopped)
      ∧ t.ae.bid = none ∧ t.ae.source = s.ae.source ∧ ownClaim t = 0 ∧ isQueued .bid t.sli.queue = (decide (s.ae.bid = none)
          && isQueued .bid s.sli.queue)
      ∧ t.pp.path = (if fault = .trip then .tripped else .opened) ∧ t.pp.discharge = some 2000 ∧ t.pp.discharged = false
      ∧ t.held = HeldOutputs.deasserted ∧ t.bp.prog = .off ∧ t.bp.timedOut = s.bp.timedOut ∧ flagSet .fault t = true
      ∧ (phaseOf s.ae.engine ≠ some .stopped → flagSet .phase t = true ∧ isQueued .standing t.sli.queue = true)
      ∧ PortKept s t ∧ FlagsWithin (flagWord .fault ||| flagWord .phase ||| flagWord .line) s t ∧ OuterKept s t

/-- A path sample in CLOSED that trips nothing (R109, R111): I_load over I_trip advances the slow-trip count, short of 4, and any
other returns it to 0; I_load over the own claim advances the overclaim count until 1000, at which an excursion begins and OVERCLAIM
is raised once, and any other ends it. OVERCLAIM is that thousandth sample. Nothing else changes. The command OVERCLAIM is
taken as the thousandth sample whatever the count shows (notes/assumptions/3.md). -/
def Obligations.ClosedSamplesCount : Prop :=
  ∀ (v i : Nat) (s : State), s.pp.path = .closed → s.pp.discharged = false → Settled s → min i 1023 ≤ min (2 * s.pp.iTrip) 1023 →
    (s.pp.iTrip < min i 1023 → s.pp.slowCount < 3) →
    let sampled : PowerPath :=
      { s.pp with vBulk := min v 1023, iLoad := min i 1023, discharged := false,
                  slowCount := if s.pp.iTrip < min i 1023 then s.pp.slowCount + 1 else 0 }
    (min i 1023 ≤ ownClaim s →
        exec (.pathSample v i) s = .next { s with pp := { sampled with overCount := 0, overclaim := false } })
      ∧ (ownClaim s < min i 1023 → s.pp.overclaim = true → exec (.pathSample v i) s = .next { s with pp := sampled })
      ∧ (ownClaim s < min i 1023 → s.pp.overclaim = false → s.pp.overCount < 999 →
          exec (.pathSample v i) s = .next { s with pp := { sampled with overCount := s.pp.overCount + 1 } })
      ∧ (ownClaim s < min i 1023 → s.pp.overclaim = false →
          exec (.overclaim v i) s = .next
              { s with pp := { sampled with overCount := 1000, overclaim := true },
                       lpi := { s.lpi with flags := s.lpi.flags ||| flagWord .overclaim } }
            ∧ (s.pp.overCount = 999 → exec (.pathSample v i) s = exec (.overclaim v i) s))

/-- The discharge (R95, R96, R117, R118). A sample of 50 dV or more in OPEN or TRIPPED keeps or makes the bulk node undischarged and
changes nothing else; one below 50 dV that begins the discharged condition stops the timer, returns TRIPPED to OPEN, and completes a
DISCHARGING into the state of its exit, a cooldown running 5000 ms. The timer's expiry undischarged raises DISCHARGE_SLOW once. -/
def Obligations.DischargeCompletesBelowFifty : Prop :=
  ∀ (v i : Nat) (s : State), Settled s → (s.pp.path = .opened ∨ s.pp.path = .tripped) →
    (50 ≤ v →
        ∃ t, exec (.pathSample v i) s = .next t
          ∧ t = { s with pp := { s.pp with vBulk := min v 1023, iLoad := min i 1023, discharged := false }, lpi := t.lpi }
          ∧ PortAfter 0 s t ∧ safeLamp t = false)
      ∧ (v < 50 → s.pp.discharged = false →
          ∃ t, exec (.pathSample v i) s = .next t
            ∧ t.pp = { s.pp with vBulk := v, iLoad := min i 1023, discharged := true, discharge := none, path := .opened }
            ∧ (s.ae.engine ≠ .discharging → t.ae = s.ae)
            ∧ (s.ae.engine = .discharging → s.ae.exit = .cooldown →
                t.ae = { s.ae with engine := .cooldown, exit := .none, cooldown := some 5000 })
            ∧ (s.ae.engine = .discharging → s.ae.exit = .released → t.ae = { s.ae with engine := .released, exit := .none }
                ∧ safeLamp t = true)
            ∧ (s.ae.engine = .discharging → s.ae.exit = .stopped → t.ae = { s.ae with engine := .stopped, exit := .none }
                ∧ faultPin t = true)
            ∧ (s.ae.engine = .discharging → s.ae.exit = .waiting → s.sc.profile.isSome = true → s.ae.vC.isSome = true →
                t.ae.exit = .none ∧ (t.ae.engine = .waiting ∨ t.ae.engine = .bidding))
            ∧ t.held = s.held ∧ t.bp = s.bp ∧ t.rc = s.rc ∧ OuterKept s t)
      ∧ (s.pp.discharge.isSome = true → s.pp.discharged = false → s.pp.slowMark = false →
          exec .dischargeSlow s = .next
            { s with pp := { s.pp with discharge := none, slowMark := true },
                     lpi := { s.lpi with flags := s.lpi.flags ||| flagWord .dischargeSlow } })

/-! ## The bring-up program (chapter 07) -/

/-- A rising edge of STEP (R127, R122, R128). In PACE the current step performs its action: its latch is driven to its brought-up
level, the step counts as completed, and its condition is tested at once, which when met stops the step timer and starts a dwell.
In CONDITION and DWELL the edge is remembered; elsewhere it is discarded. That the command is a rising edge whatever level is held, before
the first settling too, and marks the debouncer settled, is the model's choice (notes/assumptions/27.md). -/
def Obligations.StepEdgePacesTheStep : Prop :=
  ∀ (r : StepRecord) (s : State), Settled s →
    (s.bp.prog = .forward → s.bp.sub = .pace → s.bp.foundUp = false → currentStep s = some r →
        (conditionMet r.cond s.inp = false ∨ 0 < r.dwell) →
        ∃ t, exec (.stepEdge true) s = .next t
          ∧ (conditionMet r.cond s.inp = true ↔
              (r.cond = .always ∨ (r.cond = .ready ∧ s.inp.payReady = true)
                ∨ ∃ n, r.cond = .powerGood n ∧ s.inp.railPg.getLsbD n.val = true))
          ∧ t.bp = { s.bp with completed := s.bp.pointer,
                               sub := if conditionMet r.cond s.inp then .dwell else .condition,
                               stepTimer := if conditionMet r.cond s.inp then none else s.bp.stepTimer,
                               dwell := if conditionMet r.cond s.inp then some r.dwell else s.bp.dwell }
          ∧ (∀ n, r.action = .railOn n → t.held = { s.held with rails := s.held.rails ||| (1#4 <<< n.val) })
          ∧ (r.action = .releaseReset → t.held = { s.held with payRst := false })
          ∧ (∀ g, r.action = .attachLane g → t.held = { s.held with lanes := s.held.lanes ||| (1#2 <<< g.val) })
          ∧ (r.action = .attachClock → t.held = { s.held with clk := true })
          ∧ (r.action = .note → t.held = s.held)
          ∧ t = { s with bp := t.bp, held := t.held, inp := { s.inp with stepLevel := true, stepSettled := true } })
      ∧ (s.bp.prog = .forward → s.bp.sub ≠ .pace →
          exec (.stepEdge true) s = .next
            { s with bp := { s.bp with edge := true }, inp := { s.inp with stepLevel := true, stepSettled := true } })
      ∧ (s.bp.prog ≠ .forward →
          exec (.stepEdge true) s = .next { s with inp := { s.inp with stepLevel := true, stepSettled := true } })

/-- A step's condition and its dwell (R126, R128, R130). A change that does not meet the condition changes the levels alone; one that
meets it stops the step timer and starts the dwell. At a dwell's end the next step begins: paced, with no edge remembered, it waits
in PACE with its timer running; and after the last step the program is UP and the engine in BRINGUP enters ADMITTED (R87). In a
reconcile run (R138) the next step also begins, in the same event, where a step found up meets its condition, its dwell skipped. A step
found up is neither paced nor driven: it counts as completed and tests its condition with its timer running. One not up runs as
in a normal run: it waits for its edge if paced, consumes a remembered one, is driven, tests its condition and waits its dwell. -/
def Obligations.ConditionsAndDwellsEndSteps : Prop :=
  ∀ (c : Instr) (rails : BitVec 4) (ready : Bool) (r : StepRecord) (s : State), Settled s → s.bp.prog = .forward →
    (s.bp.foundUp = false →
      (s.bp.sub = .condition → currentStep s = some r →
          (conditionMet r.cond { s.inp with railPg := rails, payReady := ready } = false →
              exec (.conditionInputChange rails ready) s = .next { s with inp := { s.inp with railPg := rails, payReady := ready } })
            ∧ (conditionMet r.cond { s.inp with railPg := rails, payReady := ready } = true → 0 < r.dwell →
                exec (.conditionInputChange rails ready) s = .next
                  { s with inp := { s.inp with railPg := rails, payReady := ready },
                           bp := { s.bp with sub := .dwell, stepTimer := none, dwell := some r.dwell } }))
        ∧ (s.bp.sub = .dwell → s.bp.dwell.isSome = true → (stepTable s)[s.bp.pointer]? = some r → r.paced = true →
            s.bp.edge = false → s.bp.reconcile = false →
            exec .dwellExpiry s = .next
              { s with bp := { s.bp with sub := .pace, pointer := s.bp.pointer + 1, stepTimer := some r.timeout, dwell := none } })
        ∧ (s.bp.sub = .dwell → s.bp.dwell.isSome = true → s.bp.pointer = (stepTable s).length → s.ae.engine = .bringup →
            s.ae.source = .none → s.sc.start = .done → Requests s →
            ∃ t, exec .dwellExpiry s = .next t ∧ (∃ sub, t.ae.engine = .admitted sub)
              ∧ t.bp = { s.bp with prog := .up, completed := s.bp.pointer, edge := false, stepTimer := none, dwell := none }
              ∧ flagSet .phase t = true ∧ isQueued .standing t.sli.queue = true ∧ t.pp = s.pp ∧ t.rc.force = s.rc.force
              ∧ t.held.rails = s.held.rails ∧ t.held.lanes = s.held.lanes ∧ t.held.payRst = s.held.payRst
              ∧ t.held.clk = s.held.clk ∧ OuterKept s t))
    ∧ (s.bp.reconcile = true → (stepTable s)[s.bp.pointer]? = some r →
        (c = .dwellExpiry ∧ s.bp.sub = .dwell ∧ s.bp.dwell.isSome = true ∧ rails = s.inp.railPg ∧ ready = s.inp.payReady
          ∨ c = .conditionInputChange rails ready ∧ s.bp.sub = .condition ∧ s.bp.foundUp = true
              ∧ ∃ q, currentStep s = some q ∧ conditionMet q.cond { s.inp with railPg := rails, payReady := ready } = true) →
        let inputs : Inputs := { s.inp with railPg := rails, payReady := ready }
        let begun : BringUp := { s.bp with pointer := s.bp.pointer + 1, stepTimer := some r.timeout, dwell := none, foundUp := false }
        let found : State :=
          { s with inp := inputs,
                   bp := { begun with sub := .condition, foundUp := true, completed := s.bp.pointer + 1 } }
        (stepIsUp r.action s.held = true → conditionMet r.cond inputs = false → exec c s = .next found)
          ∧ (stepIsUp r.action s.held = true → conditionMet r.cond inputs = true →
              exec c s = exec (.conditionInputChange rails ready) found)
          ∧ (stepIsUp r.action s.held = false → r.paced = true → s.bp.edge = false →
              exec c s = .next { s with inp := inputs, bp := { begun with sub := .pace } })
          ∧ (stepIsUp r.action s.held = false → (r.paced = false ∨ s.bp.edge = true) →
              (conditionMet r.cond inputs = false →
                  exec c s = .next
                    { s with inp := inputs, held := driveUp r.action s.held,
                             bp := { begun with sub := .condition, completed := s.bp.pointer + 1, edge := s.bp.edge && !r.paced } })
                ∧ (conditionMet r.cond inputs = true → 0 < r.dwell →
                    exec c s = .next
                      { s with inp := inputs, held := driveUp r.action s.held,
                               bp := { begun with sub := .dwell, completed := s.bp.pointer + 1, edge := s.bp.edge && !r.paced,
                                                  stepTimer := none, dwell := some r.dwell } })))

/-- A step timeout and a teardown (R129, R132, R133, R134): at the step timer's expiry the step is recorded, the bring-up fault is
pending and the highest completed step is undone, its teardown dwell running; each end of a teardown dwell undoes the next lower step;
and at the end of step 1's the path opens, and the engine in RETIRING enters DISCHARGING with exit RELEASED, a bring-up fault taking
the retry rule (R87, R98). With no step in PACE or CONDITION whose timer has run out, the expiry changes nothing: so where a condition
met or an edge, taken first, ends its step by a dwell of 0 ms and begins the next, the next step's timer is new and there is no timeout
(R131). That the timer stands at 0 ms is how the model tells a timer that has run out (notes/assumptions/3.md). -/
def Obligations.TimeoutAndTeardownUndoSteps : Prop :=
  ∀ (n : Nat) (r q : StepRecord) (rails : BitVec 4) (ready : Bool) (s : State), Settled s →
    (s.bp.prog = .forward → s.bp.sub ≠ .dwell → s.bp.stepTimer = some 0 → s.bp.completed = n + 1 →
        (stepTable s)[n]? = some r → 0 < r.teardown →
        exec .bringupTimeout s = .next
          { s with held := driveDown r.action s.held, ae := { s.ae with bringupFault := true },
                   bp := { s.bp with prog := .teardown, pointer := n + 1, stepTimer := none, dwell := none, edge := false,
                                     teardown := some r.teardown, timedOut := s.bp.pointer } })
      ∧ (¬ (s.bp.prog = .forward ∧ s.bp.sub ≠ .dwell ∧ s.bp.stepTimer = some 0) → exec .bringupTimeout s = .next s)
      ∧ (s.bp.prog = .forward → s.bp.foundUp = false → s.bp.reconcile = false → s.bp.edge = false → currentStep s = some r →
          r.dwell = 0 → (stepTable s)[s.bp.pointer]? = some q → q.paced = true → 0 < q.timeout →
          let begun : BringUp := { s.bp with sub := .pace, pointer := s.bp.pointer + 1, stepTimer := some q.timeout, dwell := none }
          (s.bp.sub = .condition → conditionMet r.cond { s.inp with railPg := rails, payReady := ready } = true →
              let t : State := { s with inp := { s.inp with railPg := rails, payReady := ready }, bp := begun }
              exec (.conditionInputChange rails ready) s = .next t ∧ exec .bringupTimeout t = .next t)
            ∧ (s.bp.sub = .pace → conditionMet r.cond s.inp = true →
                let t : State :=
                  { s with inp := { s.inp with stepLevel := true, stepSettled := true }, held := driveUp r.action s.held,
                           bp := { begun with completed := s.bp.pointer } }
                exec (.stepEdge true) s = .next t ∧ exec .bringupTimeout t = .next t))
      ∧ (s.bp.prog = .teardown → s.bp.teardown.isSome = true → s.bp.pointer = n + 2 → (stepTable s)[n]? = some r →
          0 < r.teardown →
          exec .teardownDwellExpiry s = .next
            { s with held := driveDown r.action s.held,
                     bp := { s.bp with pointer := n + 1, stepTimer := none, dwell := none, edge := false,
                                       teardown := some r.teardown } })
      ∧ (stepIsUp r.action (driveUp r.action s.held) = true
          ∧ (r.action ≠ .note → stepIsUp r.action (driveDown r.action s.held) = false))
      ∧ (s.bp.prog = .teardown → s.bp.teardown.isSome = true → s.bp.pointer = 1 → s.pp.path = .closed → 50 ≤ s.pp.vBulk →
          s.sc.start = .done → holdsBlade s.ae.engine = true → (s.ae.source = .latch → s.rc.latchOpen = true) →
          ∃ t, exec .teardownDwellExpiry s = .next t ∧ t.ae.engine = .discharging ∧ t.pp.path = .opened
            ∧ t.held = HeldOutputs.deasserted ∧ t.bp.prog = .off ∧ t.ae.source = s.ae.source
            ∧ (s.ae.bringupFault = false → t.ae.exit = .released ∧ t.ae.retryCount = s.ae.retryCount
                ∧ flagSet .fault t = flagSet .fault s)
            ∧ (s.ae.bringupFault = true → flagSet .fault t = true
                ∧ t.ae.cause = (if s.ae.retryCount < retryLimit s then .bringupTimeout else .retryExhausted))
            ∧ OuterKept s t)

/-- The attempt's law and what rests on it (R87, R98, R112, R113, R123, R124, R142). No step breaks the law: a retire source stands
in the states that hold a retire alone, so in POWERING none is recorded; a forward run belongs to BRINGUP with no fault pending. And
from a state that keeps the law every opening of the power path, by whatever command but a reset, ends the program in the opening's
own event: OFF, its pointer, count, timers and remembered edge cleared, every held output deasserted. The timed-out step is kept, is
the step whose timeout led to the opening, or goes with a loss of seating (R123). An open command that finds both gates off changes
nothing. A power-on reset and a controller restart, which open the path by their own rules (R115, R166), have statements of their
own. -/
def Obligations.EveryOpeningEndsTheProgram : Prop :=
  (∀ s t : State, AttemptOk s → step s = .next t → AttemptOk t)
    ∧ ∀ (c : Instr) (s t : State), AttemptOk s → exec c s = .next t → gateOn s = true → gateOn t = false →
      (∀ b x a, c ≠ .powerOnReset b x a) → (∀ x g, c ≠ .restartNFall x g) → (∀ x g, c ≠ .restart x g) →
      t.bp.prog = .off ∧ t.bp.pointer = 0 ∧ t.bp.completed = 0 ∧ t.bp.stepTimer = none ∧ t.bp.dwell = none
        ∧ t.bp.teardown = none ∧ t.bp.edge = false
        ∧ (c ≠ .bringupTimeout → c ≠ .lossOfSeating → t.bp.timedOut = s.bp.timedOut)
        ∧ (c = .bringupTimeout → t.bp.timedOut = s.bp.pointer)
        ∧ t.held = { rails := 0, payRst := false, lanes := 0, clk := false, profFull := false, drain := false,
                     takeover := false }
        ∧ (∀ target, openGates target t = t) ∧ teardownComplete t = t


/-! ## Retirement and the mate handover (chapter 08) -/

/-- The ejector latch and the debouncers (R1, R127, R141, R152, R153). A first settling sets the level alone, an open latch's with the
force timer, and only once per reset. A closing stops the force timer and ends the latch-held condition: in DISCHARGING by a latch
retire it sets the exit to WAITING with no source and no cause, in RELEASED it returns the station to WAITING, and where it is no
cancel it does nothing else. An opening whose request is not accepted, with no engine state of its own, with a source recorded or in a
silent STOPPED, only starts the force timer (R142). That a change is obeyed whatever level is held, before the first settling too, and marks
its debouncer settled, is the model's choice (notes/assumptions/27.md). -/
def Obligations.LatchLevelsAndClosings : Prop :=
  ∀ (level : Bool) (s : State), Settled s →
    (exec (.ejectFirstSettling level) s = .next
        (if s.rc.latchSettled then s
         else { s with rc := { s.rc with latchOpen := level, latchSettled := true, force := if level then some 10000 else none } }))
      ∧ (exec (.debouncerFirstSettling .stepInput level) s = .next
          (if s.inp.stepSettled then s else { s with inp := { s.inp with stepLevel := level, stepSettled := true } }))
      ∧ (exec (.debouncerFirstSettling .carryingInput level) s = .next
          (if s.inp.carryingSettled then s
           else { s with inp := { s.inp with carryingLevel := level, carryingSettled := true } }))
      ∧ (s.ae.engine = .none ∨ s.ae.source ≠ .none ∨ s.ae.engine = .stopped ∧ silentCause s.ae.cause = true →
          exec .latchOpening s = .next
            { s with rc := { s.rc with latchOpen := true, latchSettled := true, force := some 10000 } })
      ∧ (¬ (s.ae.source = .latch ∧ cancellable s = true) → ¬ (s.ae.engine = .discharging ∧ s.ae.source = .latch) →
          s.ae.engine ≠ .released →
          exec .latchClosing s = .next
            { s with rc := { s.rc with latchOpen := false, latchSettled := true, force := none, latchHeld := false } })
      ∧ (s.ae.engine = .discharging → s.ae.source = .latch →
          ∃ t, exec .latchClosing s = .next t
            ∧ t.ae = { s.ae with exit := .waiting, source := .none, cause := .none, subcause := none }
            ∧ t.rc = { s.rc with latchOpen := false, latchSettled := true, force := none, latchHeld := false }
            ∧ t = { s with ae := t.ae, rc := t.rc, lpi := t.lpi } ∧ PortAfter 0 s t)
      ∧ (s.ae.engine = .released → s.sc.start = .done → s.sc.profile.isSome = true → s.ae.vC.isSome = true → Requests s →
          ∃ t, exec .latchClosing s = .next t ∧ (t.ae.engine = .waiting ∨ t.ae.engine = .bidding) ∧ t.ae.source = .none
            ∧ t.ae.retryCount = s.ae.retryCount ∧ flagSet .phase t = true ∧ isQueued .standing t.sli.queue = true
            ∧ t.rc = { s.rc with latchOpen := false, latchSettled := true, force := none, latchHeld := false }
            ∧ t.pp = s.pp ∧ t.held = s.held ∧ t.bp = s.bp ∧ OuterKept s t)

/-- A retire request, by a latch opening or by RETIRE, in each state (R142, R98, R144, R145, R148). Where no source is recorded the
source is, and RETIRE reads ACCEPTED. From WAITING, BIDDING, BACKOFF, COOLDOWN and STOPPED the station discharges to RELEASED, a bid
closing with a YIELD, and from POWERING after opening the path; in DISCHARGING the exit becomes RELEASED; a forward run in BRINGUP
halts and its completed steps are torn down in RETIRING, and with a bring-up fault pending its teardown goes on; from STEADY, and from
UPGRADE_BID, whose bid closes with a YIELD, it enters HANDOVER with a mate configured and CARRYING set, else DRAINING; in SHEDDING the
request is held, and in RETIRING and RELEASED it is recorded. RETIRE with a source recorded, in a silent STOPPED and with no engine
state of its own reads REFUSED_STATE and changes nothing else. -/
def Obligations.RetireRequestsByState : Prop :=
  (∀ (p : ProfileData) (c : Instr) (src : RetireSource) (s : State), s.sc.profile = some p → s.sc.start = .done → Requests s →
    Settled s → (c = .latchOpening ∧ src = .latch ∨ c = .retire ∧ src = .command) →
    s.ae.source = .none → s.ae.engine ≠ .none →
      ∃ t, exec c s = .next t ∧ t.ae.source = src ∧ (c = .retire → t.lpi.lastCmd = 0x01 ∧ t.lpi.result = .accepted)
        ∧ (c = .latchOpening → t.rc.latchOpen = true ∧ t.rc.force = some 10000 ∧ t.lpi.lastCmd = s.lpi.lastCmd)
        ∧ (s.ae.bringupFault = false → t.ae.retryCount = s.ae.retryCount) ∧ OuterKept s t
        ∧ FlagsWithin (flagWord .phase ||| flagWord .fault ||| flagWord .line) s t
        ∧ ((s.ae.engine = .waiting ∨ s.ae.engine = .bidding ∨ s.ae.engine = .backoff ∨ s.ae.engine = .cooldown
              ∨ s.ae.engine = .stopped) → (s.ae.bid.isSome = true ↔ s.ae.engine = .bidding) →
            (t.ae.engine = if s.pp.discharged then .released else .discharging)
              ∧ (s.pp.discharged = false → t.ae.exit = .released) ∧ t.ae.backoff = none ∧ t.ae.cooldown = none
              ∧ t.ae.bid = none ∧ BladeKept { s with rc := t.rc } t
              ∧ (s.ae.engine ≠ .stopped → flagSet .phase t = true ∧ isQueued .standing t.sli.queue = true)
              ∧ (s.ae.engine = .bidding → isQueued .bid t.sli.queue = false
                  ∧ (isQueued .bid s.sli.queue = false → isQueued .yield t.sli.queue = true)))
        ∧ (s.ae.engine = .powering → gateOn s = true → 50 ≤ s.pp.vBulk →
            t.ae.engine = .discharging ∧ t.ae.exit = .released ∧ t.pp.path = .opened ∧ t.ae.iSet = none
              ∧ t.held = HeldOutputs.deasserted)
        ∧ (s.ae.engine = .discharging →
            t.ae = { s.ae with source := src, exit := .released } ∧ BladeKept { s with rc := t.rc } t)
        ∧ (s.ae.engine = .bringup → s.ae.bringupFault = true →
            t.ae = { s.ae with source := src } ∧ BladeKept { s with rc := t.rc } t)
        ∧ (∀ n r, s.ae.engine = .bringup → s.ae.bringupFault = false → s.bp.prog = .forward → s.bp.completed = n + 1 →
            (stepTable s)[n]? = some r → 0 < r.teardown →
            t.ae = { s.ae with source := src, engine := .retiring .teardown, profFullPending := false }
              ∧ t.held = driveDown r.action { s.held with takeover := false }
              ∧ t.bp = { s.bp with prog := .teardown, pointer := n + 1, stepTimer := none, dwell := none, edge := false,
                                   teardown := some r.teardown }
              ∧ t.pp = s.pp ∧ flagSet .phase t = true ∧ isQueued .standing t.sli.queue = true)
        ∧ ((s.ae.engine = .admitted .steady ∨ s.ae.engine = .admitted .upgradeBid ∧ s.ae.bid.isSome = true) →
            s.rc.latchHeld = false → handoverCondition s = false → s.inp.quiesced = false →
            t.pp = s.pp ∧ t.bp = s.bp ∧ t.ae.excursion = false ∧ t.ae.retryHold = none ∧ flagSet .phase t = true
              ∧ isQueued .standing t.sli.queue = true
              ∧ (s.ae.engine = .admitted .upgradeBid → t.ae.bid = none ∧ isQueued .bid t.sli.queue = false
                  ∧ (isQueued .bid s.sli.queue = false → isQueued .yield t.sli.queue = true))
              ∧ (ownMate s ≠ none → s.ae.carrying = true →
                  t.ae.engine = .retiring .handover ∧ t.rc.handoverReq = true ∧ t.rc.handover = some p.tHandover
                    ∧ t.held = s.held)
              ∧ (ownMate s = none ∨ s.ae.carrying = false →
                  t.ae.engine = .retiring .draining ∧ t.rc.quiesce = some p.tQuiesce
                    ∧ t.held = { s.held with drain := true }))
        ∧ ((s.ae.engine = .admitted .shedding ∨ s.ae.engine = .released ∨ ∃ sub, s.ae.engine = .retiring sub) →
            t.ae = { s.ae with source := src } ∧ BladeKept { s with rc := t.rc } t))
    ∧ (∀ s : State, Settled s →
        (s.ae.source ≠ .none ∨ s.ae.engine = .none ∨ s.ae.engine = .stopped ∧ silentCause s.ae.cause = true) →
        exec .retire s = .next
          { s with lpi := { s.lpi with lastCmd := 0x01, result := .refusedState, offset := 0x25, transaction := .writing } })

/-- The ends of the retiring substates (R146, R147, R148, R149). The handover timer leads to HELD with HELD raised; the force timer
begins the latch-held condition; it and FORCE_RETIRE, answered ACCEPTED, send HANDOVER and HELD to DRAINING, and FORCE_RETIRE reads
REFUSED_STATE elsewhere; QUIESCED high and the quiesce timer, with QUIESCE_TIMEOUT raised, lead from DRAINING to TEARDOWN, where
TAKEOVER is deasserted and the last step is the first to be undone. The mate's notice that changes its entry acts too. In HANDOVER
and HELD the handover condition, the mate ADMITTED and CARRYING and naming this slot, leads to DRAINING (R145, R146). TAKEOVER is
asserted in ADMITTED by a request for a handover that names this slot (R154). While it is asserted, the mate STOPPED or its entry
removed by a LEAVE sets the mate-gone mark, and ADMITTED deasserts it, without a request while the mark is clear, and CARRYING while it
is set (R155). -/
def Obligations.RetiringSubstatesEnd : Prop :=
  ∀ (n : Nat) (r : StepRecord) (p : ProfileData) (m : Notice) (own : Slot) (s : State), Settled s → s.sc.profile = some p →
    s.sc.start = .done →
    (s.ae.engine = .retiring .handover → s.rc.handover.isSome = true →
        ∃ t, exec .handoverTimerExpiry s = .next t ∧ t.ae = { s.ae with engine := .retiring .held }
          ∧ t.rc = { s.rc with handover := none } ∧ t = { s with ae := t.ae, rc := t.rc, lpi := t.lpi }
          ∧ PortAfter (flagWord .held) s t)
      ∧ (s.ae.engine ≠ .retiring .handover → s.ae.engine ≠ .retiring .held →
          (s.rc.force.isSome = true →
              exec .forceTimerExpiry s = .next { s with rc := { s.rc with force := none, latchHeld := true } })
            ∧ exec .forceRetire s = .next
                { s with lpi := { s.lpi with lastCmd := 0x03, result := .refusedState, offset := 0x25, transaction := .writing } })
      ∧ ((s.ae.engine = .retiring .handover ∨ s.ae.engine = .retiring .held) → s.inp.quiesced = false → s.rc.force.isSome = true →
          ∃ t, exec .forceTimerExpiry s = .next t ∧ ∃ u, exec .forceRetire s = .next u
            ∧ t.rc.latchHeld = true ∧ t.rc.force = none ∧ u.rc.latchHeld = s.rc.latchHeld ∧ u.rc.force = s.rc.force
            ∧ u.lpi.lastCmd = 0x03 ∧ u.lpi.result = .accepted
            ∧ ∀ x ∈ [t, u], x.ae = { s.ae with engine := .retiring .draining } ∧ x.rc.handover = none
                ∧ x.rc.handoverReq = false ∧ x.rc.quiesce = some p.tQuiesce ∧ x.held = { s.held with drain := true }
                ∧ x.pp = s.pp ∧ x.bp = s.bp ∧ OuterKept s x ∧ x.lpi.flags = s.lpi.flags)
      ∧ (s.ae.engine = .retiring .draining → s.rc.quiesce.isSome = true → s.bp.prog = .up → (stepTable s).length = n + 1 →
          (stepTable s)[n]? = some r → 0 < r.teardown →
          ∃ t, exec (.quiescedRise true) s = .next t ∧ ∃ u, exec .quiesceTimeout s = .next u
            ∧ t.inp = { s.inp with quiesced := true } ∧ u.inp = s.inp ∧ t.lpi.flags = s.lpi.flags
            ∧ u.lpi.flags = s.lpi.flags ||| flagWord .quiesceTimeout
            ∧ ∀ x ∈ [t, u], x.ae = { s.ae with engine := .retiring .teardown, profFullPending := false }
                ∧ x.held = driveDown r.action { s.held with takeover := false }
                ∧ x.rc = { s.rc with handover := none, quiesce := none, mateGone := false }
                ∧ x.bp.prog = .teardown ∧ x.bp.pointer = n + 1 ∧ x.bp.teardown = some r.teardown ∧ x.pp = s.pp
                ∧ x.fs = s.fs ∧ x.sv = s.sv ∧ x.sc = s.sc ∧ x.sli = s.sli)
      ∧ (s.sc.slot = some own → own ≠ m.slot → ownMate s = some m.slot → s.sv.opened = true → receives s.sli = true →
          (∀ e, lookup s.sv.table m.slot = some e → { e with age := 0 } ≠ entryOf .standing m) →
          (s.ae.engine = .admitted .steady → s.ae.source = .none) →
          ∃ t, exec (.standingNotice m) s = .next t ∧ lookup t.sv.table m.slot = some (entryOf .standing m)
            ∧ ((s.ae.engine = .retiring .handover ∨ s.ae.engine = .retiring .held) → s.held.takeover = false →
                (m.phase = .admitted → m.carrying = true → m.mate = some own → s.inp.quiesced = false →
                    t.ae = { s.ae with engine := .retiring .draining } ∧ t.held = { s.held with drain := true }
                      ∧ t.rc = { s.rc with handover := none, handoverReq := false, quiesce := some p.tQuiesce })
                  ∧ (m.phase ≠ .admitted ∨ m.carrying = false ∨ m.mate ≠ some own →
                      t.ae = s.ae ∧ t.held = s.held ∧ t.rc = s.rc))
            ∧ (∀ sub, s.ae.engine = .admitted sub → s.held.takeover = false →
                (m.handoverReq = true → m.mate = some own → t.held.takeover = true ∧ t.rc.mateGone = false)
                  ∧ (m.handoverReq = false ∨ m.mate ≠ some own → t.held.takeover = false))
            ∧ (s.ae.engine ≠ .retiring .handover → s.ae.engine ≠ .retiring .held → s.held.takeover = true →
                (m.phase = .stopped → t.held.takeover = true ∧ t.rc.mateGone = true)
                  ∧ (m.phase = .admitted → s.rc.mateGone = false → m.handoverReq = false →
                      t.held.takeover = false ∧ t.rc.mateGone = false)
                  ∧ (m.phase = .admitted → s.rc.mateGone = false → m.handoverReq = true →
                      t.held.takeover = true ∧ t.rc.mateGone = false)
                  ∧ (m.phase = .admitted → s.rc.mateGone = true → m.carrying = true → m.handoverReq = false →
                      t.held.takeover = false ∧ t.rc.mateGone = false)
                  ∧ (m.phase = .admitted → s.rc.mateGone = true → m.carrying = false →
                      t.held.takeover = true ∧ t.rc.mateGone = true)
                  ∧ (m.phase ≠ .admitted → m.phase ≠ .stopped →
                      t.held.takeover = true ∧ t.rc.mateGone = s.rc.mateGone)))
      ∧ (s.sc.slot = some own → own ≠ m.slot → ownMate s = some m.slot → s.sv.opened = true → receives s.sli = true →
          (lookup s.sv.table m.slot).isSome = true → s.held.takeover = true →
          (s.ae.engine = .admitted .steady → s.ae.source = .none) →
          ∃ t, exec (.leaveNotice m) s = .next t ∧ t.held.takeover = true ∧ t.rc.mateGone = true)

/-- A cancel from the recorded source in a cancellable state, by the latch's closing or by CANCEL_RETIRE (R143): from HANDOVER, HELD
or DRAINING the station is ADMITTED again, its timers stopped, HANDOVER_REQ and DRAIN clear, PHASE raised and a STANDING requested;
in SHEDDING the held request is withdrawn. CANCEL_RETIRE reads REFUSED_STATE with no source or in any other state,
REFUSED_SOURCE with source LATCH, and then changes nothing else. -/
def Obligations.CancelsComeFromTheSource : Prop :=
  ∀ (c : Instr) (s : State), Settled s → Requests s → s.sc.start = .done → s.ae.engine ≠ .none →
    (c = .latchClosing ∧ s.ae.source = .latch ∨ c = .cancelRetire ∧ s.ae.source = .command) →
    (cancellable s = true →
        ∃ t, exec c s = .next t ∧ t.ae.source = .none ∧ (c = .cancelRetire → t.lpi.lastCmd = 0x02 ∧ t.lpi.result = .accepted)
          ∧ (s.ae.engine ≠ .admitted .shedding → (∃ sub, t.ae.engine = .admitted sub) ∧ t.rc.handover = none ∧ t.rc.quiesce = none
              ∧ t.rc.handoverReq = false ∧ t.held.drain = false ∧ flagSet .phase t = true
              ∧ isQueued .standing t.sli.queue = true)
          ∧ (s.ae.engine = .admitted .shedding → t.ae = { s.ae with source := .none } ∧ t.held = s.held)
          ∧ t.pp = s.pp ∧ t.bp = s.bp ∧ OuterKept s t
          ∧ FlagsWithin (flagWord .phase ||| flagWord .overcommit ||| flagWord .profile) s t)
      ∧ (cancellable s = true ↔
          (s.ae.engine = .retiring .handover ∨ s.ae.engine = .retiring .held ∨ s.ae.engine = .retiring .draining
            ∨ s.ae.engine = .admitted .shedding))
      ∧ (c = .cancelRetire → cancellable s = false →
          exec .cancelRetire s = .next
            { s with lpi := { s.lpi with lastCmd := 0x02, result := .refusedState, offset := 0x25, transaction := .writing } })
      ∧ (exec .cancelRetire { s with ae := { s.ae with source := .none } } = .next
          { s with ae := { s.ae with source := .none },
                   lpi := { s.lpi with lastCmd := 0x02, result := .refusedState, offset := 0x25, transaction := .writing } })
      ∧ (exec .cancelRetire { s with ae := { s.ae with source := .latch } } = .next
          { s with ae := { s.ae with source := .latch },
                   lpi := { s.lpi with lastCmd := 0x02, result := .refusedSource, offset := 0x25, transaction := .writing } })

/-- CLEAR_FAULT and FORCE_OFF (R95, R97, R170, R178). CLEAR_FAULT in STOPPED with a clearable cause reads ACCEPTED, clears the cause
and the retry count and leads to WAITING, or to DISCHARGING with the path TRIPPED; elsewhere it reads REFUSED_STATE and changes
nothing else. FORCE_OFF opens the path and leads to DISCHARGING with exit STOPPED and cause FORCED_OFF, the source cleared, the
retry count kept and FAULT raised; while starting it sets the forced-off mark; in a silent STOPPED it reads REFUSED_STATE. -/
def Obligations.ClearFaultAndForceOff : Prop :=
  ∀ s : State, Settled s →
    (s.ae.engine = .stopped → (s.ae.cause = .slotClash ∨ s.ae.cause = .retryExhausted ∨ s.ae.cause = .forcedOff) →
        s.sc.start = .done → leaveUnderway s.sli = false →
        ∃ t, exec .clearFault s = .next t ∧ t.lpi.lastCmd = 0x04 ∧ t.lpi.result = .accepted ∧ t.ae.cause = .none
          ∧ t.ae.subcause = none ∧ t.ae.retryCount = 0
          ∧ (s.pp.path ≠ .tripped → (t.ae.engine = .waiting ∨ t.ae.engine = .bidding) ∧ flagSet .phase t = true
              ∧ isQueued .standing t.sli.queue = true)
          ∧ (s.pp.path = .tripped → s.pp.discharged = false → t.ae.engine = .discharging ∧ t.ae.exit = .waiting)
          ∧ (s.ae.cause = .slotClash → t.sli.periodic = some 50)
          ∧ t.pp = s.pp ∧ t.held = s.held ∧ t.bp = s.bp ∧ t.rc = s.rc ∧ OuterKept s t
          ∧ FlagsWithin (flagWord .phase ||| flagWord .denied) s t)
      ∧ (s.ae.engine ≠ .stopped ∨ s.ae.cause = .gaParity ∨ s.ae.cause = .profileBad →
          exec .clearFault s = .next
            { s with lpi := { s.lpi with lastCmd := 0x04, result := .refusedState, offset := 0x25, transaction := .writing } })
      ∧ (s.ae.engine ≠ .none → ¬ (s.ae.engine = .stopped ∧ silentCause s.ae.cause = true) → Requests s → s.sc.start = .done →
          ∃ t, exec .forceOff s = .next t ∧ t.lpi.lastCmd = 0x05 ∧ t.lpi.result = .accepted
            ∧ t.ae.cause = .forcedOff ∧ t.ae.source = .none ∧ t.ae.retryCount = s.ae.retryCount ∧ t.ae.bid = none
            ∧ flagSet .fault t = true ∧ gateOn t = false ∧ isQueued .bid t.sli.queue = (decide (s.ae.bid = none)
                && isQueued .bid s.sli.queue)
            ∧ (t.pp.discharged = false → t.ae.engine = .discharging ∧ t.ae.exit = .stopped)
            ∧ (t.pp.discharged = true → t.ae.engine = .stopped)
            ∧ (gateOn s = true → t.held = HeldOutputs.deasserted ∧ t.pp.path = .opened ∧ t.bp.prog = .off)
            ∧ (gateOn s = false → BladeKept s t) ∧ OuterKept s t
            ∧ FlagsWithin (flagWord .phase ||| flagWord .fault ||| flagWord .line) s t)
      ∧ (s.ae.engine = .none → (s.sc.start = .loading ∨ s.sc.start = .relearn) →
          ∃ t, exec .forceOff s = .next t ∧ t.lpi.result = .accepted ∧ t.sc = { s.sc with forcedOff := true }
            ∧ flagSet .fault t = true ∧ gateOn t = false ∧ t.ae.engine = .none
            ∧ (gateOn s = true → t.held = HeldOutputs.deasserted ∧ t.pp.path = .opened))
      ∧ ((s.ae.engine = .stopped ∧ silentCause s.ae.cause = true
            ∨ s.ae.engine = .none ∧ s.sc.start ≠ .loading ∧ s.sc.start ≠ .relearn) →
          exec .forceOff s = .next
            { s with lpi := { s.lpi with lastCmd := 0x05, result := .refusedState, offset := 0x25, transaction := .writing } })

/-! ## The local port (chapter 10) -/

/-- The port's writes and the lamp, each changing nothing else (R172, R174, R176, R177, R178, R182): a flag written as 1 is cleared
and every other stays; one byte of the mask is replaced; VIEWSEL and the offset are taken; a write at an offset that takes none is
discarded with the offset advancing; an unknown code reads UNKNOWN; and the end of a half-period turns the lamp over. A byte is
written to its register where its own offset byte addresses it, or where it follows in a write transaction whose current offset has
come to it (R172); any other following byte changes nothing, and so does every byte that follows a RESTART, which ends the transaction
(R179). ALERT is asserted while some flag is both set and enabled. How a byte says which of the two it is, and that an operand which
another row takes is refused, are the model's choices (notes/assumptions/21.md and 2.md). -/
def Obligations.PortWritesChangeOnlyTheirRegister : Prop :=
  ∀ (high : Bool) (v o : Byte) (via : Addressing) (s : State),
    let taken : Byte → Prop := fun at_ => via = .addressed ∨ s.lpi.transaction = .writing ∧ s.lpi.offset = at_
    (taken (if high then 0x21 else 0x20) →
        ∃ t, exec (.eventsClear high { value := v, via := via }) s = .next t
          ∧ (∀ i < 16, t.lpi.flags.getLsbD i =
              (s.lpi.flags.getLsbD i && !(if high then decide (8 ≤ i) && v.getLsbD (i - 8) else decide (i < 8) && v.getLsbD i)))
          ∧ t = { s with lpi := { s.lpi with flags := t.lpi.flags, offset := if high then 0x22 else 0x21,
                                             transaction := .writing } })
      ∧ (taken (if high then 0x23 else 0x22) →
          ∃ t, exec (.maskWrite high { value := v, via := via }) s = .next t
            ∧ (∀ i < 16, t.lpi.mask.getLsbD i =
                (if high then (if 8 ≤ i then v.getLsbD (i - 8) else s.lpi.mask.getLsbD i)
                 else (if i < 8 then v.getLsbD i else s.lpi.mask.getLsbD i)))
            ∧ (alertAsserted t = true ↔ ∃ i < 16, t.lpi.flags.getLsbD i = true ∧ t.lpi.mask.getLsbD i = true)
            ∧ t = { s with lpi := { s.lpi with mask := t.lpi.mask, offset := if high then 0x24 else 0x23,
                                               transaction := .writing } })
      ∧ (taken 0x27 →
          exec (.viewselWrite { value := v, via := via }) s = .next
            { s with lpi := { s.lpi with viewSel := v, offset := 0x28, transaction := .writing } })
      ∧ exec (.offsetWrite v) s = .next { s with lpi := { s.lpi with offset := v, transaction := .writing } }
      ∧ (¬ (0x20 ≤ o.toNat ∧ o.toNat ≤ 0x24) → o.toNat ≠ 0x27 → taken o →
          exec (.registerWrite o { value := v, via := via }) s = .next
            { s with lpi := { s.lpi with offset := BitVec.ofNat 8 (o.toNat + 1), transaction := .writing } })
      ∧ ((¬ taken (if high then 0x21 else 0x20) → exec (.eventsClear high { value := v, via := via }) s = .next s)
          ∧ (¬ taken (if high then 0x23 else 0x22) → exec (.maskWrite high { value := v, via := via }) s = .next s)
          ∧ (¬ taken 0x27 → exec (.viewselWrite { value := v, via := via }) s = .next s)
          ∧ (¬ (0x20 ≤ o.toNat ∧ o.toNat ≤ 0x24) → o.toNat ≠ 0x27 → ¬ taken o →
              exec (.registerWrite o { value := v, via := via }) s = .next s))
      ∧ (∀ x g, ∃ t, exec (.restart x g) s = .next t
          ∧ exec (.eventsClear high { value := v, via := .following }) t = .next t
          ∧ exec (.maskWrite high { value := v, via := .following }) t = .next t
          ∧ exec (.viewselWrite { value := v, via := .following }) t = .next t)
      ∧ (¬ (1 ≤ v.toNat ∧ v.toNat ≤ 5) → v.toNat ≠ 0xA5 →
          exec (.unknownCommand v) s = .next
            { s with lpi := { s.lpi with lastCmd := v, result := .unknown, offset := 0x25, transaction := .writing } })
      ∧ (0x20 ≤ o.toNat ∧ o.toNat ≤ 0x24 ∨ o.toNat = 0x27 →
          exec (.registerWrite o { value := v, via := via }) s = .refused .illFormed)
      ∧ (1 ≤ v.toNat ∧ v.toNat ≤ 5 ∨ v.toNat = 0xA5 → exec (.unknownCommand v) s = .refused .illFormed)
      ∧ (s.lpi.lampTimer.isSome = true →
          exec .lampBlinkToggle s = .next
            { s with lpi := { s.lpi with lampLit := !s.lpi.lampLit, lampTimer := halfPeriod (lampPattern s) } })

/-- Reads of the port (R172, R173, R174). A field's first byte loads the field's whole buffer from the value as it stands and returns
its first byte, no other buffer moving; a later byte comes from the buffer as last loaded, and loads nothing. The offset advances,
and nothing but the port changes; a read with no offset byte before it is at the current offset (R172). VIEWDATA_READ is the read of
VIEWDATA's first byte, whose record is absent for a slot without an entry and for the own slot. What each field holds is as its table
codes it, part by part (R188): STATUS, FAULT, CLAIM, CEFF, LC, the readings, FEEDS, EVENTS, MASK, CMDSTAT and VIEWDATA, each number with
its most significant byte first, for values that their fields hold, at the offsets of that table; RETRIES holds the retry limit and
count, the limit reading 0 with no valid profile (the model's choice, notes/assumptions/32.md); and VIEWSEL reads at 0x27 as written,
while CMD and the offsets from 0x35 on, which no register occupies, read 0 (R172). -/
def Obligations.SnapshotsHoldAFieldTogether : Prop :=
  (∀ (f : PortField) (first width i : Nat) (s : State),
    (f, first, width) ∈ [(PortField.status, 0x00, 9), (.fault, 0x09, 3), (.claim, 0x0C, 2), (.ceff, 0x0E, 2), (.lc, 0x10, 2),
      (.vf, 0x12, 2), (.vmin8, 0x14, 2), (.vbulk, 0x16, 2), (.iload, 0x18, 2), (.feeds, 0x1A, 5), (.events, 0x20, 2),
      (.mask, 0x22, 2), (.cmdstat, 0x25, 2), (.viewdata, 0x28, 13)] → i < width →
    ∃ t, exec (.snapshotRead (some (BitVec.ofNat 8 first))) s = .next t
      ∧ (∀ k, bufferByte f k t.lpi.buffers = (fieldBytes f s).getD k 0)
      ∧ (∀ g, g ≠ f → ∀ k, bufferByte g k t.lpi.buffers = bufferByte g k s.lpi.buffers)
      ∧ t.lpi.readByte = (fieldBytes f s).getD 0 0 ∧ t.lpi.offset = BitVec.ofNat 8 (first + 1)
      ∧ t = { s with lpi := { s.lpi with buffers := t.lpi.buffers, readByte := t.lpi.readByte, offset := t.lpi.offset,
                                         transaction := .reading } }
      ∧ (0 < i → exec (.snapshotRead (some (BitVec.ofNat 8 (first + i)))) s = .next
          { s with lpi := { s.lpi with readByte := bufferByte f i s.lpi.buffers, offset := BitVec.ofNat 8 (first + i + 1),
                                       transaction := .reading } })
      ∧ exec .viewdataRead s = exec (.snapshotRead (some 0x28)) s ∧ (f = .viewdata → exec .viewdataRead s = .next t)
      ∧ exec (.snapshotRead none) s = exec (.snapshotRead (some s.lpi.offset)) s
      ∧ (fieldBytes f s).length = width
      ∧ (∀ sl : Slot, s.lpi.viewSel.toNat = sl.val → (s.sc.slot = some sl ∨ lookup s.sv.table sl = none ∨ s.sv.opened = false) →
          fieldBytes .viewdata s = List.replicate 13 0))
    ∧ ∀ s : State,
      let byte : PortField → Nat → Nat := fun f k => ((fieldBytes f s).getD k 0).toNat
      let word : PortField → Nat → Nat := fun f k => byte f k * 256 + byte f (k + 1)
      let one : Bool → Nat := fun b => if b then 1 else 0
      let code : Phase → Nat := fun p =>
        match p with | .waiting => 0 | .precharging => 1 | .bringup => 2 | .admitted => 3 | .retiring => 4 | .stopped => 5
      (byte .status 0 / 32
          = (match s.sc.start with | .unseated => 0 | .settling => 1 | .loading => 2 | .relearn => 3 | .done => 4)
        ∧ byte .status 0 % 32 = (match s.sc.slot with | some sl => sl.val | none => 0)
        ∧ byte .status 1 / 128 = one s.sc.slot.isSome
        ∧ byte .status 1 / 16 % 8
          = (match s.ae.reason with | .none => 0 | .feed => 1 | .line => 2 | .denied => 3 | .busy => 4 | .noRoom => 5)
        ∧ byte .status 1 % 16
          = (match s.ae.engine with
             | .none => 0 | .waiting => 1 | .bidding => 2 | .backoff => 3 | .powering => 4 | .bringup => 5 | .admitted _ => 6
             | .retiring _ => 7 | .discharging => 8 | .cooldown => 9 | .released => 10 | .stopped => 11)
        ∧ byte .status 2 / 64 = (match s.ae.engine with | .admitted .upgradeBid => 1 | .admitted .shedding => 2 | _ => 0)
        ∧ byte .status 2 / 16 % 4
          = (match s.ae.engine with | .retiring .held => 1 | .retiring .draining => 2 | .retiring .teardown => 3 | _ => 0)
        ∧ byte .status 2 / 2 % 8
          = (match s.ae.exit with | .none => 0 | .waiting => 1 | .cooldown => 2 | .released => 3 | .stopped => 4)
        ∧ byte .status 2 % 2 = one s.ae.bringupFault
        ∧ byte .status 3 / 32 = (match announcedPhase s with | some p => code p | none => 7)
        ∧ byte .status 3 / 16 % 2 = one s.ae.bid.isSome ∧ byte .status 3 / 8 % 2 = one s.rc.handoverReq
        ∧ byte .status 3 / 4 % 2 = one s.ae.carrying ∧ byte .status 3 / 2 % 2 = one s.ae.profFullPending
        ∧ byte .status 3 % 2 = one s.ae.excursion
        ∧ byte .status 4 / 32
          = (match s.pp.path with | .opened => 0 | .precharge => 1 | .closing => 2 | .closed => 3 | .tripped => 4)
        ∧ byte .status 4 / 16 % 2 = one s.pp.foldback ∧ byte .status 4 / 8 % 2 = one s.pp.discharged
        ∧ byte .status 4 / 2 % 4 = (match s.ae.source with | .none => 0 | .latch => 1 | .command => 2)
        ∧ byte .status 4 % 2 = one s.rc.latchOpen
        ∧ byte .status 5 / 64 = (match s.bp.prog with | .off => 0 | .forward => 1 | .up => 2 | .teardown => 3)
        ∧ byte .status 5 / 16 % 4
          = (match s.bp.prog, s.bp.sub with | .forward, .condition => 1 | .forward, .dwell => 2 | _, _ => 0)
        ∧ (s.bp.pointer ≤ 12 → byte .status 5 % 16 = s.bp.pointer)
        ∧ byte .status 6 / 16 = s.held.rails.toNat ∧ byte .status 6 / 4 % 4 = s.held.lanes.toNat
        ∧ byte .status 6 / 2 % 2 = one s.held.clk ∧ byte .status 6 % 2 = one s.held.payRst
        ∧ byte .status 7 / 128 = one s.held.profFull ∧ byte .status 7 / 64 % 2 = one s.held.drain
        ∧ byte .status 7 / 32 % 2 = one s.held.takeover
        ∧ byte .status 7 / 16 % 2 = one (decide (s.bp.prog = .forward) && s.bp.reconcile)
        ∧ byte .status 7 / 8 % 2 = one (decide (s.pp.path = .closed)) ∧ byte .status 7 % 8 = 0
        ∧ byte .status 8 / 64 = (match s.sli.line with | .idle => 0 | .busy => 1 | .stuck => 2)
        ∧ byte .status 8 / 32 % 2 = one s.sli.impaired ∧ byte .status 8 / 16 % 2 = one (capacityMismatch s)
        ∧ byte .status 8 / 8 % 2 = one (mateMismatch s)
        ∧ (s.sli.queue.length ≤ 4 → byte .status 8 % 8 = s.sli.queue.length))
      ∧ (byte .fault 0
          = (match s.ae.cause with
             | .none => 0 | .prechargeTimeout => 1 | .closeFail => 2 | .trip => 3 | .bringupTimeout => 4 | .feedUv => 5
             | .feedOv => 6 | .retryExhausted => 7 | .forcedOff => 8 | .slotClash => 9 | .gaParity => 10 | .profileBad => 11)
        ∧ byte .fault 1
          = (match s.ae.cause with
             | .retryExhausted =>
               (match s.ae.subcause with
                | some .prechargeTimeout => 1 | some .closeFail => 2 | some .trip => 3 | some .bringupTimeout => 4 | none => 0)
             | .profileBad =>
               (match s.sc.loadSub with
                | .none => 0 | .noResponse => 1 | .format => 2 | .version => 3 | .checksum => 4 | .steps => 5)
             | _ => 0)
        ∧ (s.bp.timedOut ≤ 12 → byte .fault 2 = s.bp.timedOut))
      ∧ (ownClaim s ≤ 1023 → word .claim 0 / 32768 = one (decide (s.ae.profile = .full)) ∧ word .claim 0 % 32768 = ownClaim s)
      ∧ (s.sv.opened = true → ownCEff s ≤ 4000 → word .ceff 0 = ownCEff s)
      ∧ (s.sv.opened = true → committedLoad s.sv.table ≤ 32767 → word .lc 0 = committedLoad s.sv.table)
      ∧ (s.sv.opened = false → word .ceff 0 = 0 ∧ word .lc 0 = 0)
      ∧ (∀ x ∈ [(PortField.vf, s.fs.vF), (.vmin8, vMin8 s), (.vbulk, s.pp.vBulk), (.iload, s.pp.iLoad)],
          x.2 ≤ 1023 → word x.1 0 = x.2)
      ∧ (byte .feeds 0 / 128 = one (singleFeed s.fs) ∧ byte .feeds 0 / 64 % 2 = one s.fs.uv
        ∧ byte .feeds 0 / 32 % 2 = one (overvoltage s.fs) ∧ byte .feeds 0 / 16 % 2 = one (feedsFit s.fs)
        ∧ byte .feeds 0 % 16 = 0
        ∧ ∀ x ∈ [(s.fs.a, 1), (s.fs.b, 3)], x.1.sample ≤ 1023 →
            word .feeds x.2 / 16384 = (match x.1.state with | .absent => 0 | .low => 1 | .good => 2 | .high => 3)
              ∧ word .feeds x.2 % 16384 = x.1.sample)
      ∧ (∀ i < 8, ((fieldBytes .events s).getD 0 0).getLsbD i = s.lpi.flags.getLsbD i
          ∧ ((fieldBytes .events s).getD 1 0).getLsbD i = s.lpi.flags.getLsbD (i + 8)
          ∧ ((fieldBytes .mask s).getD 0 0).getLsbD i = s.lpi.mask.getLsbD i
          ∧ ((fieldBytes .mask s).getD 1 0).getLsbD i = s.lpi.mask.getLsbD (i + 8))
      ∧ (byte .cmdstat 0 = s.lpi.lastCmd.toNat
        ∧ byte .cmdstat 1
          = (match s.lpi.result with
             | .none => 0 | .accepted => 1 | .refusedState => 2 | .refusedSource => 3 | .unknown => 4))
      ∧ (∀ sl : Slot, s.lpi.viewSel.toNat = sl.val → s.sv.opened = true → s.sc.slot ≠ some sl →
          ∀ e, lookup s.sv.table sl = some e → e.age ≤ 1000 →
            byte .viewdata 0 = 128 + e.cls.val * 32 + sl.val ∧ byte .viewdata 1 / 32 = code e.phase
              ∧ byte .viewdata 1 / 16 % 2 = one (decide (e.profile = .full)) ∧ byte .viewdata 1 / 8 % 2 = one e.bidOpen
              ∧ byte .viewdata 1 / 4 % 2 = one e.carrying ∧ byte .viewdata 1 / 2 % 2 = one e.handoverReq
              ∧ byte .viewdata 1 % 2 = one e.stale ∧ word .viewdata 2 = e.claim.val ∧ word .viewdata 4 = e.amount.val
              ∧ word .viewdata 6 / 32768 = one e.capValid ∧ word .viewdata 6 % 32768 = e.capacity.val
              ∧ byte .viewdata 8 = (match e.mate with | some m => 128 + m.val | none => 0)
              ∧ word .viewdata 9 = (match e.bid with | some b => 32768 + b.val | none => 0)
              ∧ word .viewdata 11 = e.age)
      ∧ (retryLimit s ≤ 3 → s.ae.retryCount ≤ 3 →
          ∃ t, exec (.snapshotRead (some 0x1F)) s = .next t ∧ t.lpi.readByte.toNat / 16 = retryLimit s
            ∧ t.lpi.readByte.toNat % 16 = s.ae.retryCount)
      ∧ (s.sc.profile = none → retryLimit s = 0)
      ∧ (∀ o : Byte, o.toNat = 0x27 ∨ o.toNat = 0x24 ∨ 0x35 ≤ o.toNat →
          exec (.snapshotRead (some o)) s = .next
            { s with lpi := { s.lpi with readByte := if o.toNat = 0x27 then s.lpi.viewSel else 0,
                                         offset := BitVec.ofNat 8 (o.toNat + 1), transaction := .reading } })

end
end

