-- ==== Sys2Proof/Laws/State.lean ====
section
/-! SUPPORT. What the named updates of the state leave alone, field by field, and what they write. -/

namespace Sys2Proof.Machine

@[simp] theorem raise_fs (f : EventFlag) (s : State) :
    (raise f s).fs = s.fs := rfl
@[simp] theorem raise_sv (f : EventFlag) (s : State) :
    (raise f s).sv = s.sv := rfl
@[simp] theorem raise_pp (f : EventFlag) (s : State) :
    (raise f s).pp = s.pp := rfl
@[simp] theorem raise_held (f : EventFlag) (s : State) :
    (raise f s).held = s.held := rfl
@[simp] theorem raise_bp (f : EventFlag) (s : State) :
    (raise f s).bp = s.bp := rfl
@[simp] theorem raise_rc (f : EventFlag) (s : State) :
    (raise f s).rc = s.rc := rfl
@[simp] theorem raise_inp (f : EventFlag) (s : State) :
    (raise f s).inp = s.inp := rfl
@[simp] theorem raise_sc (f : EventFlag) (s : State) :
    (raise f s).sc = s.sc := rfl
@[simp] theorem raise_freeCount (f : EventFlag) (s : State) :
    (raise f s).freeCount = s.freeCount := rfl
@[simp] theorem raise_pending (f : EventFlag) (s : State) :
    (raise f s).pending = s.pending := rfl
@[simp] theorem raise_ae (f : EventFlag) (s : State) :
    (raise f s).ae = s.ae := rfl
@[simp] theorem raise_sli (f : EventFlag) (s : State) :
    (raise f s).sli = s.sli := rfl

@[simp] theorem raiseIf_fs (c : Bool) (f : EventFlag) (s : State) :
    (raiseIf c f s).fs = s.fs := by
  unfold raiseIf; split <;> simp
@[simp] theorem raiseIf_sv (c : Bool) (f : EventFlag) (s : State) :
    (raiseIf c f s).sv = s.sv := by
  unfold raiseIf; split <;> simp
@[simp] theorem raiseIf_pp (c : Bool) (f : EventFlag) (s : State) :
    (raiseIf c f s).pp = s.pp := by
  unfold raiseIf; split <;> simp
@[simp] theorem raiseIf_held (c : Bool) (f : EventFlag) (s : State) :
    (raiseIf c f s).held = s.held := by
  unfold raiseIf; split <;> simp
@[simp] theorem raiseIf_bp (c : Bool) (f : EventFlag) (s : State) :
    (raiseIf c f s).bp = s.bp := by
  unfold raiseIf; split <;> simp
@[simp] theorem raiseIf_rc (c : Bool) (f : EventFlag) (s : State) :
    (raiseIf c f s).rc = s.rc := by
  unfold raiseIf; split <;> simp
@[simp] theorem raiseIf_inp (c : Bool) (f : EventFlag) (s : State) :
    (raiseIf c f s).inp = s.inp := by
  unfold raiseIf; split <;> simp
@[simp] theorem raiseIf_sc (c : Bool) (f : EventFlag) (s : State) :
    (raiseIf c f s).sc = s.sc := by
  unfold raiseIf; split <;> simp
@[simp] theorem raiseIf_freeCount (c : Bool) (f : EventFlag) (s : State) :
    (raiseIf c f s).freeCount = s.freeCount := by
  unfold raiseIf; split <;> simp
@[simp] theorem raiseIf_pending (c : Bool) (f : EventFlag) (s : State) :
    (raiseIf c f s).pending = s.pending := by
  unfold raiseIf; split <;> simp
@[simp] theorem raiseIf_ae (c : Bool) (f : EventFlag) (s : State) :
    (raiseIf c f s).ae = s.ae := by
  unfold raiseIf; split <;> simp
@[simp] theorem raiseIf_sli (c : Bool) (f : EventFlag) (s : State) :
    (raiseIf c f s).sli = s.sli := by
  unfold raiseIf; split <;> simp

@[simp] theorem dropBid_fs (s : State) :
    (dropBid s).fs = s.fs := rfl
@[simp] theorem dropBid_sv (s : State) :
    (dropBid s).sv = s.sv := rfl
@[simp] theorem dropBid_pp (s : State) :
    (dropBid s).pp = s.pp := rfl
@[simp] theorem dropBid_held (s : State) :
    (dropBid s).held = s.held := rfl
@[simp] theorem dropBid_bp (s : State) :
    (dropBid s).bp = s.bp := rfl
@[simp] theorem dropBid_rc (s : State) :
    (dropBid s).rc = s.rc := rfl
@[simp] theorem dropBid_inp (s : State) :
    (dropBid s).inp = s.inp := rfl
@[simp] theorem dropBid_sc (s : State) :
    (dropBid s).sc = s.sc := rfl
@[simp] theorem dropBid_freeCount (s : State) :
    (dropBid s).freeCount = s.freeCount := rfl
@[simp] theorem dropBid_pending (s : State) :
    (dropBid s).pending = s.pending := rfl
@[simp] theorem dropBid_lpi (s : State) :
    (dropBid s).lpi = s.lpi := rfl

@[simp] theorem commandUp_fs (s : State) :
    (commandUp s).fs = s.fs := by
  unfold commandUp; split <;> simp
@[simp] theorem commandUp_sv (s : State) :
    (commandUp s).sv = s.sv := by
  unfold commandUp; split <;> simp
@[simp] theorem commandUp_pp (s : State) :
    (commandUp s).pp = s.pp := by
  unfold commandUp; split <;> simp
@[simp] theorem commandUp_held (s : State) :
    (commandUp s).held = s.held := by
  unfold commandUp; split <;> simp
@[simp] theorem commandUp_rc (s : State) :
    (commandUp s).rc = s.rc := by
  unfold commandUp; split <;> simp
@[simp] theorem commandUp_inp (s : State) :
    (commandUp s).inp = s.inp := by
  unfold commandUp; split <;> simp
@[simp] theorem commandUp_sc (s : State) :
    (commandUp s).sc = s.sc := by
  unfold commandUp; split <;> simp
@[simp] theorem commandUp_freeCount (s : State) :
    (commandUp s).freeCount = s.freeCount := by
  unfold commandUp; split <;> simp
@[simp] theorem commandUp_pending (s : State) :
    (commandUp s).pending = s.pending := by
  unfold commandUp; split <;> simp
@[simp] theorem commandUp_ae (s : State) :
    (commandUp s).ae = s.ae := by
  unfold commandUp; split <;> simp
@[simp] theorem commandUp_sli (s : State) :
    (commandUp s).sli = s.sli := by
  unfold commandUp; split <;> simp
@[simp] theorem commandUp_lpi (s : State) :
    (commandUp s).lpi = s.lpi := by
  unfold commandUp; split <;> simp

@[simp] theorem withTable_fs (t : List Entry) (s : State) :
    (withTable t s).fs = s.fs := rfl
@[simp] theorem withTable_pp (t : List Entry) (s : State) :
    (withTable t s).pp = s.pp := rfl
@[simp] theorem withTable_held (t : List Entry) (s : State) :
    (withTable t s).held = s.held := rfl
@[simp] theorem withTable_bp (t : List Entry) (s : State) :
    (withTable t s).bp = s.bp := rfl
@[simp] theorem withTable_rc (t : List Entry) (s : State) :
    (withTable t s).rc = s.rc := rfl
@[simp] theorem withTable_inp (t : List Entry) (s : State) :
    (withTable t s).inp = s.inp := rfl
@[simp] theorem withTable_sc (t : List Entry) (s : State) :
    (withTable t s).sc = s.sc := rfl
@[simp] theorem withTable_freeCount (t : List Entry) (s : State) :
    (withTable t s).freeCount = s.freeCount := rfl
@[simp] theorem withTable_pending (t : List Entry) (s : State) :
    (withTable t s).pending = s.pending := rfl
@[simp] theorem withTable_ae (t : List Entry) (s : State) :
    (withTable t s).ae = s.ae := rfl
@[simp] theorem withTable_sli (t : List Entry) (s : State) :
    (withTable t s).sli = s.sli := rfl
@[simp] theorem withTable_lpi (t : List Entry) (s : State) :
    (withTable t s).lpi = s.lpi := rfl

@[simp] theorem upgraded_fs (s : State) :
    (upgraded s).fs = s.fs := rfl
@[simp] theorem upgraded_sv (s : State) :
    (upgraded s).sv = s.sv := rfl
@[simp] theorem upgraded_pp (s : State) :
    (upgraded s).pp = s.pp := rfl
@[simp] theorem upgraded_held (s : State) :
    (upgraded s).held = s.held := rfl
@[simp] theorem upgraded_bp (s : State) :
    (upgraded s).bp = s.bp := rfl
@[simp] theorem upgraded_rc (s : State) :
    (upgraded s).rc = s.rc := rfl
@[simp] theorem upgraded_inp (s : State) :
    (upgraded s).inp = s.inp := rfl
@[simp] theorem upgraded_sc (s : State) :
    (upgraded s).sc = s.sc := rfl
@[simp] theorem upgraded_freeCount (s : State) :
    (upgraded s).freeCount = s.freeCount := rfl
@[simp] theorem upgraded_pending (s : State) :
    (upgraded s).pending = s.pending := rfl
@[simp] theorem upgraded_lpi (s : State) :
    (upgraded s).lpi = s.lpi := rfl

@[simp] theorem commandTaken_fs (code : Byte) (r : CmdResult) (s : State) :
    (commandTaken code r s).fs = s.fs := rfl
@[simp] theorem commandTaken_sv (code : Byte) (r : CmdResult) (s : State) :
    (commandTaken code r s).sv = s.sv := rfl
@[simp] theorem commandTaken_pp (code : Byte) (r : CmdResult) (s : State) :
    (commandTaken code r s).pp = s.pp := rfl
@[simp] theorem commandTaken_held (code : Byte) (r : CmdResult) (s : State) :
    (commandTaken code r s).held = s.held := rfl
@[simp] theorem commandTaken_bp (code : Byte) (r : CmdResult) (s : State) :
    (commandTaken code r s).bp = s.bp := rfl
@[simp] theorem commandTaken_rc (code : Byte) (r : CmdResult) (s : State) :
    (commandTaken code r s).rc = s.rc := rfl
@[simp] theorem commandTaken_inp (code : Byte) (r : CmdResult) (s : State) :
    (commandTaken code r s).inp = s.inp := rfl
@[simp] theorem commandTaken_sc (code : Byte) (r : CmdResult) (s : State) :
    (commandTaken code r s).sc = s.sc := rfl
@[simp] theorem commandTaken_freeCount (code : Byte) (r : CmdResult) (s : State) :
    (commandTaken code r s).freeCount = s.freeCount := rfl
@[simp] theorem commandTaken_pending (code : Byte) (r : CmdResult) (s : State) :
    (commandTaken code r s).pending = s.pending := rfl
@[simp] theorem commandTaken_ae (code : Byte) (r : CmdResult) (s : State) :
    (commandTaken code r s).ae = s.ae := rfl
@[simp] theorem commandTaken_sli (code : Byte) (r : CmdResult) (s : State) :
    (commandTaken code r s).sli = s.sli := rfl

/-! ## What the named updates write -/

@[simp] theorem raise_flags (f : EventFlag) (s : State) : (raise f s).lpi.flags = s.lpi.flags ||| flagWord f := rfl
@[simp] theorem raise_mask (f : EventFlag) (s : State) : (raise f s).lpi.mask = s.lpi.mask := rfl
@[simp] theorem raise_lastCmd (f : EventFlag) (s : State) : (raise f s).lpi.lastCmd = s.lpi.lastCmd := rfl
@[simp] theorem raise_result (f : EventFlag) (s : State) : (raise f s).lpi.result = s.lpi.result := rfl
@[simp] theorem raise_offset (f : EventFlag) (s : State) : (raise f s).lpi.offset = s.lpi.offset := rfl
@[simp] theorem raise_viewSel (f : EventFlag) (s : State) : (raise f s).lpi.viewSel = s.lpi.viewSel := rfl
@[simp] theorem raise_buffers (f : EventFlag) (s : State) : (raise f s).lpi.buffers = s.lpi.buffers := rfl
@[simp] theorem raise_readByte (f : EventFlag) (s : State) : (raise f s).lpi.readByte = s.lpi.readByte := rfl
@[simp] theorem raise_transaction (f : EventFlag) (s : State) : (raise f s).lpi.transaction = s.lpi.transaction := rfl
@[simp] theorem raise_address (f : EventFlag) (s : State) : (raise f s).lpi.address = s.lpi.address := rfl
@[simp] theorem raise_lampLit (f : EventFlag) (s : State) : (raise f s).lpi.lampLit = s.lpi.lampLit := rfl
@[simp] theorem raise_lampTimer (f : EventFlag) (s : State) : (raise f s).lpi.lampTimer = s.lpi.lampTimer := rfl
@[simp] theorem withTable_opened (t : List Entry) (s : State) : (withTable t s).sv.opened = s.sv.opened := rfl
@[simp] theorem withTable_table (t : List Entry) (s : State) : (withTable t s).sv.table = t := rfl
@[simp] theorem commandTaken_flags (code : Byte) (r : CmdResult) (s : State) :
    (commandTaken code r s).lpi.flags = s.lpi.flags := rfl
@[simp] theorem commandTaken_lastCmd (code : Byte) (r : CmdResult) (s : State) :
    (commandTaken code r s).lpi.lastCmd = code := rfl
@[simp] theorem commandTaken_result (code : Byte) (r : CmdResult) (s : State) :
    (commandTaken code r s).lpi.result = r := rfl

/-! ## What the functions over the state read -/

@[simp] theorem silent_raise (f : EventFlag) (s : State) : silent (raise f s) = silent s := rfl
@[simp] theorem ownClaim_raise (f : EventFlag) (s : State) : ownClaim (raise f s) = ownClaim s := rfl
@[simp] theorem lampPattern_raise (f : EventFlag) (s : State) : lampPattern (raise f s) = lampPattern s := rfl
@[simp] theorem announcedPhase_raise (f : EventFlag) (s : State) : announcedPhase (raise f s) = announcedPhase s := rfl
@[simp] theorem silent_commandTaken (code : Byte) (r : CmdResult) (s : State) :
    silent (commandTaken code r s) = silent s := rfl
@[simp] theorem ownClaim_commandTaken (code : Byte) (r : CmdResult) (s : State) :
    ownClaim (commandTaken code r s) = ownClaim s := rfl
@[simp] theorem lampPattern_commandTaken (code : Byte) (r : CmdResult) (s : State) :
    lampPattern (commandTaken code r s) = lampPattern s := rfl

@[simp] theorem ranOut_iff (t : Timer) : ranOut t = true ↔ t = some 0 := by simp [ranOut]

@[simp] theorem returnToUnseated_fs (s : State) :
    (returnToUnseated s).fs = s.fs := rfl
@[simp] theorem returnToUnseated_sv (s : State) :
    (returnToUnseated s).sv = s.sv := rfl
@[simp] theorem returnToUnseated_ae (s : State) :
    (returnToUnseated s).ae = s.ae := rfl
@[simp] theorem returnToUnseated_held (s : State) :
    (returnToUnseated s).held = s.held := rfl
@[simp] theorem returnToUnseated_bp (s : State) :
    (returnToUnseated s).bp = s.bp := rfl
@[simp] theorem returnToUnseated_rc (s : State) :
    (returnToUnseated s).rc = s.rc := rfl
@[simp] theorem returnToUnseated_inp (s : State) :
    (returnToUnseated s).inp = s.inp := rfl
@[simp] theorem returnToUnseated_lpi (s : State) :
    (returnToUnseated s).lpi = s.lpi := rfl
@[simp] theorem returnToUnseated_freeCount (s : State) :
    (returnToUnseated s).freeCount = s.freeCount := rfl
@[simp] theorem returnToUnseated_pending (s : State) :
    (returnToUnseated s).pending = s.pending := rfl

end Sys2Proof.Machine
end

