-- ==== Sys2Proof/Laws/Frames.lean ====
section
/-! SUPPORT. What each shared operation leaves alone, block by block. -/

namespace Sys2Proof.Machine

@[simp] theorem requestNotice_fs (k : NoticeKind) (s : State) :
    (requestNotice k s).fs = s.fs := by
  unfold requestNotice; split <;> simp
@[simp] theorem requestNotice_sv (k : NoticeKind) (s : State) :
    (requestNotice k s).sv = s.sv := by
  unfold requestNotice; split <;> simp
@[simp] theorem requestNotice_pp (k : NoticeKind) (s : State) :
    (requestNotice k s).pp = s.pp := by
  unfold requestNotice; split <;> simp
@[simp] theorem requestNotice_held (k : NoticeKind) (s : State) :
    (requestNotice k s).held = s.held := by
  unfold requestNotice; split <;> simp
@[simp] theorem requestNotice_bp (k : NoticeKind) (s : State) :
    (requestNotice k s).bp = s.bp := by
  unfold requestNotice; split <;> simp
@[simp] theorem requestNotice_rc (k : NoticeKind) (s : State) :
    (requestNotice k s).rc = s.rc := by
  unfold requestNotice; split <;> simp
@[simp] theorem requestNotice_inp (k : NoticeKind) (s : State) :
    (requestNotice k s).inp = s.inp := by
  unfold requestNotice; split <;> simp
@[simp] theorem requestNotice_sc (k : NoticeKind) (s : State) :
    (requestNotice k s).sc = s.sc := by
  unfold requestNotice; split <;> simp
@[simp] theorem requestNotice_freeCount (k : NoticeKind) (s : State) :
    (requestNotice k s).freeCount = s.freeCount := by
  unfold requestNotice; split <;> simp
@[simp] theorem requestNotice_pending (k : NoticeKind) (s : State) :
    (requestNotice k s).pending = s.pending := by
  unfold requestNotice; split <;> simp
@[simp] theorem requestNotice_ae (k : NoticeKind) (s : State) :
    (requestNotice k s).ae = s.ae := by
  unfold requestNotice; split <;> simp
@[simp] theorem requestNotice_lpi (k : NoticeKind) (s : State) :
    (requestNotice k s).lpi = s.lpi := by
  unfold requestNotice; split <;> simp

@[simp] theorem announceFrom_fs (before after : State) :
    (announceFrom before after).fs = after.fs := by
  unfold announceFrom; (repeat' split) <;> simp
@[simp] theorem announceFrom_sv (before after : State) :
    (announceFrom before after).sv = after.sv := by
  unfold announceFrom; (repeat' split) <;> simp
@[simp] theorem announceFrom_pp (before after : State) :
    (announceFrom before after).pp = after.pp := by
  unfold announceFrom; (repeat' split) <;> simp
@[simp] theorem announceFrom_held (before after : State) :
    (announceFrom before after).held = after.held := by
  unfold announceFrom; (repeat' split) <;> simp
@[simp] theorem announceFrom_bp (before after : State) :
    (announceFrom before after).bp = after.bp := by
  unfold announceFrom; (repeat' split) <;> simp
@[simp] theorem announceFrom_rc (before after : State) :
    (announceFrom before after).rc = after.rc := by
  unfold announceFrom; (repeat' split) <;> simp
@[simp] theorem announceFrom_inp (before after : State) :
    (announceFrom before after).inp = after.inp := by
  unfold announceFrom; (repeat' split) <;> simp
@[simp] theorem announceFrom_sc (before after : State) :
    (announceFrom before after).sc = after.sc := by
  unfold announceFrom; (repeat' split) <;> simp
@[simp] theorem announceFrom_freeCount (before after : State) :
    (announceFrom before after).freeCount = after.freeCount := by
  unfold announceFrom; (repeat' split) <;> simp
@[simp] theorem announceFrom_pending (before after : State) :
    (announceFrom before after).pending = after.pending := by
  unfold announceFrom; (repeat' split) <;> simp
@[simp] theorem announceFrom_ae (before after : State) :
    (announceFrom before after).ae = after.ae := by
  unfold announceFrom; (repeat' split) <;> simp

@[simp] theorem settlePeriodic_fs (before after : State) :
    (settlePeriodic before after).fs = after.fs := by
  unfold settlePeriodic; (repeat' split) <;> rfl
@[simp] theorem settlePeriodic_sv (before after : State) :
    (settlePeriodic before after).sv = after.sv := by
  unfold settlePeriodic; (repeat' split) <;> rfl
@[simp] theorem settlePeriodic_pp (before after : State) :
    (settlePeriodic before after).pp = after.pp := by
  unfold settlePeriodic; (repeat' split) <;> rfl
@[simp] theorem settlePeriodic_held (before after : State) :
    (settlePeriodic before after).held = after.held := by
  unfold settlePeriodic; (repeat' split) <;> rfl
@[simp] theorem settlePeriodic_bp (before after : State) :
    (settlePeriodic before after).bp = after.bp := by
  unfold settlePeriodic; (repeat' split) <;> rfl
@[simp] theorem settlePeriodic_rc (before after : State) :
    (settlePeriodic before after).rc = after.rc := by
  unfold settlePeriodic; (repeat' split) <;> rfl
@[simp] theorem settlePeriodic_inp (before after : State) :
    (settlePeriodic before after).inp = after.inp := by
  unfold settlePeriodic; (repeat' split) <;> rfl
@[simp] theorem settlePeriodic_sc (before after : State) :
    (settlePeriodic before after).sc = after.sc := by
  unfold settlePeriodic; (repeat' split) <;> rfl
@[simp] theorem settlePeriodic_freeCount (before after : State) :
    (settlePeriodic before after).freeCount = after.freeCount := by
  unfold settlePeriodic; (repeat' split) <;> rfl
@[simp] theorem settlePeriodic_pending (before after : State) :
    (settlePeriodic before after).pending = after.pending := by
  unfold settlePeriodic; (repeat' split) <;> rfl
@[simp] theorem settlePeriodic_ae (before after : State) :
    (settlePeriodic before after).ae = after.ae := by
  unfold settlePeriodic; (repeat' split) <;> rfl
@[simp] theorem settlePeriodic_lpi (before after : State) :
    (settlePeriodic before after).lpi = after.lpi := by
  unfold settlePeriodic; (repeat' split) <;> rfl

@[simp] theorem settleCongestion_fs (s : State) :
    (settleCongestion s).fs = s.fs := by
  unfold settleCongestion; (repeat' split) <;> rfl
@[simp] theorem settleCongestion_sv (s : State) :
    (settleCongestion s).sv = s.sv := by
  unfold settleCongestion; (repeat' split) <;> rfl
@[simp] theorem settleCongestion_pp (s : State) :
    (settleCongestion s).pp = s.pp := by
  unfold settleCongestion; (repeat' split) <;> rfl
@[simp] theorem settleCongestion_held (s : State) :
    (settleCongestion s).held = s.held := by
  unfold settleCongestion; (repeat' split) <;> rfl
@[simp] theorem settleCongestion_bp (s : State) :
    (settleCongestion s).bp = s.bp := by
  unfold settleCongestion; (repeat' split) <;> rfl
@[simp] theorem settleCongestion_rc (s : State) :
    (settleCongestion s).rc = s.rc := by
  unfold settleCongestion; (repeat' split) <;> rfl
@[simp] theorem settleCongestion_inp (s : State) :
    (settleCongestion s).inp = s.inp := by
  unfold settleCongestion; (repeat' split) <;> rfl
@[simp] theorem settleCongestion_sc (s : State) :
    (settleCongestion s).sc = s.sc := by
  unfold settleCongestion; (repeat' split) <;> rfl
@[simp] theorem settleCongestion_freeCount (s : State) :
    (settleCongestion s).freeCount = s.freeCount := by
  unfold settleCongestion; (repeat' split) <;> rfl
@[simp] theorem settleCongestion_pending (s : State) :
    (settleCongestion s).pending = s.pending := by
  unfold settleCongestion; (repeat' split) <;> rfl
@[simp] theorem settleCongestion_ae (s : State) :
    (settleCongestion s).ae = s.ae := by
  unfold settleCongestion; (repeat' split) <;> rfl

@[simp] theorem settleLamp_fs (before after : State) :
    (settleLamp before after).fs = after.fs := by
  unfold settleLamp; split <;> simp
@[simp] theorem settleLamp_sv (before after : State) :
    (settleLamp before after).sv = after.sv := by
  unfold settleLamp; split <;> simp
@[simp] theorem settleLamp_pp (before after : State) :
    (settleLamp before after).pp = after.pp := by
  unfold settleLamp; split <;> simp
@[simp] theorem settleLamp_held (before after : State) :
    (settleLamp before after).held = after.held := by
  unfold settleLamp; split <;> simp
@[simp] theorem settleLamp_bp (before after : State) :
    (settleLamp before after).bp = after.bp := by
  unfold settleLamp; split <;> simp
@[simp] theorem settleLamp_rc (before after : State) :
    (settleLamp before after).rc = after.rc := by
  unfold settleLamp; split <;> simp
@[simp] theorem settleLamp_inp (before after : State) :
    (settleLamp before after).inp = after.inp := by
  unfold settleLamp; split <;> simp
@[simp] theorem settleLamp_sc (before after : State) :
    (settleLamp before after).sc = after.sc := by
  unfold settleLamp; split <;> simp
@[simp] theorem settleLamp_freeCount (before after : State) :
    (settleLamp before after).freeCount = after.freeCount := by
  unfold settleLamp; split <;> simp
@[simp] theorem settleLamp_pending (before after : State) :
    (settleLamp before after).pending = after.pending := by
  unfold settleLamp; split <;> simp
@[simp] theorem settleLamp_ae (before after : State) :
    (settleLamp before after).ae = after.ae := by
  unfold settleLamp; split <;> simp
@[simp] theorem settleLamp_sli (before after : State) :
    (settleLamp before after).sli = after.sli := by
  unfold settleLamp; split <;> simp

@[simp] theorem settle_fs (before after : State) :
    (settle before after).fs = after.fs := by
  unfold settle; split <;> simp
@[simp] theorem settle_sv (before after : State) :
    (settle before after).sv = after.sv := by
  unfold settle; split <;> simp
@[simp] theorem settle_pp (before after : State) :
    (settle before after).pp = after.pp := by
  unfold settle; split <;> simp
@[simp] theorem settle_held (before after : State) :
    (settle before after).held = after.held := by
  unfold settle; split <;> simp
@[simp] theorem settle_bp (before after : State) :
    (settle before after).bp = after.bp := by
  unfold settle; split <;> simp
@[simp] theorem settle_rc (before after : State) :
    (settle before after).rc = after.rc := by
  unfold settle; split <;> simp
@[simp] theorem settle_inp (before after : State) :
    (settle before after).inp = after.inp := by
  unfold settle; split <;> simp
@[simp] theorem settle_sc (before after : State) :
    (settle before after).sc = after.sc := by
  unfold settle; split <;> simp
@[simp] theorem settle_freeCount (before after : State) :
    (settle before after).freeCount = after.freeCount := by
  unfold settle; split <;> simp
@[simp] theorem settle_pending (before after : State) :
    (settle before after).pending = after.pending := by
  unfold settle; split <;> simp
@[simp] theorem settle_ae (before after : State) :
    (settle before after).ae = after.ae := by
  unfold settle; split <;> simp

@[simp] theorem closeBid_fs (s : State) :
    (closeBid s).fs = s.fs := by
  unfold closeBid; split <;> simp
@[simp] theorem closeBid_sv (s : State) :
    (closeBid s).sv = s.sv := by
  unfold closeBid; split <;> simp
@[simp] theorem closeBid_pp (s : State) :
    (closeBid s).pp = s.pp := by
  unfold closeBid; split <;> simp
@[simp] theorem closeBid_held (s : State) :
    (closeBid s).held = s.held := by
  unfold closeBid; split <;> simp
@[simp] theorem closeBid_bp (s : State) :
    (closeBid s).bp = s.bp := by
  unfold closeBid; split <;> simp
@[simp] theorem closeBid_rc (s : State) :
    (closeBid s).rc = s.rc := by
  unfold closeBid; split <;> simp
@[simp] theorem closeBid_inp (s : State) :
    (closeBid s).inp = s.inp := by
  unfold closeBid; split <;> simp
@[simp] theorem closeBid_sc (s : State) :
    (closeBid s).sc = s.sc := by
  unfold closeBid; split <;> simp
@[simp] theorem closeBid_freeCount (s : State) :
    (closeBid s).freeCount = s.freeCount := by
  unfold closeBid; split <;> simp
@[simp] theorem closeBid_pending (s : State) :
    (closeBid s).pending = s.pending := by
  unfold closeBid; split <;> simp
@[simp] theorem closeBid_lpi (s : State) :
    (closeBid s).lpi = s.lpi := by
  unfold closeBid; split <;> simp

@[simp] theorem setReason_fs (r : WaitReason) (s : State) :
    (setReason r s).fs = s.fs := by
  unfold setReason; simp
@[simp] theorem setReason_sv (r : WaitReason) (s : State) :
    (setReason r s).sv = s.sv := by
  unfold setReason; simp
@[simp] theorem setReason_pp (r : WaitReason) (s : State) :
    (setReason r s).pp = s.pp := by
  unfold setReason; simp
@[simp] theorem setReason_held (r : WaitReason) (s : State) :
    (setReason r s).held = s.held := by
  unfold setReason; simp
@[simp] theorem setReason_bp (r : WaitReason) (s : State) :
    (setReason r s).bp = s.bp := by
  unfold setReason; simp
@[simp] theorem setReason_rc (r : WaitReason) (s : State) :
    (setReason r s).rc = s.rc := by
  unfold setReason; simp
@[simp] theorem setReason_inp (r : WaitReason) (s : State) :
    (setReason r s).inp = s.inp := by
  unfold setReason; simp
@[simp] theorem setReason_sc (r : WaitReason) (s : State) :
    (setReason r s).sc = s.sc := by
  unfold setReason; simp
@[simp] theorem setReason_freeCount (r : WaitReason) (s : State) :
    (setReason r s).freeCount = s.freeCount := by
  unfold setReason; simp
@[simp] theorem setReason_pending (r : WaitReason) (s : State) :
    (setReason r s).pending = s.pending := by
  unfold setReason; simp
@[simp] theorem setReason_sli (r : WaitReason) (s : State) :
    (setReason r s).sli = s.sli := by
  unfold setReason; simp

@[simp] theorem enterBidding_fs (level : PowerLevel) (resv : Nat) (s : State) :
    (enterBidding level resv s).fs = s.fs := by
  unfold enterBidding; simp
@[simp] theorem enterBidding_sv (level : PowerLevel) (resv : Nat) (s : State) :
    (enterBidding level resv s).sv = s.sv := by
  unfold enterBidding; simp
@[simp] theorem enterBidding_pp (level : PowerLevel) (resv : Nat) (s : State) :
    (enterBidding level resv s).pp = s.pp := by
  unfold enterBidding; simp
@[simp] theorem enterBidding_held (level : PowerLevel) (resv : Nat) (s : State) :
    (enterBidding level resv s).held = s.held := by
  unfold enterBidding; simp
@[simp] theorem enterBidding_bp (level : PowerLevel) (resv : Nat) (s : State) :
    (enterBidding level resv s).bp = s.bp := by
  unfold enterBidding; simp
@[simp] theorem enterBidding_rc (level : PowerLevel) (resv : Nat) (s : State) :
    (enterBidding level resv s).rc = s.rc := by
  unfold enterBidding; simp
@[simp] theorem enterBidding_inp (level : PowerLevel) (resv : Nat) (s : State) :
    (enterBidding level resv s).inp = s.inp := by
  unfold enterBidding; simp
@[simp] theorem enterBidding_sc (level : PowerLevel) (resv : Nat) (s : State) :
    (enterBidding level resv s).sc = s.sc := by
  unfold enterBidding; simp
@[simp] theorem enterBidding_freeCount (level : PowerLevel) (resv : Nat) (s : State) :
    (enterBidding level resv s).freeCount = s.freeCount := by
  unfold enterBidding; simp
@[simp] theorem enterBidding_pending (level : PowerLevel) (resv : Nat) (s : State) :
    (enterBidding level resv s).pending = s.pending := by
  unfold enterBidding; simp
@[simp] theorem enterBidding_lpi (level : PowerLevel) (resv : Nat) (s : State) :
    (enterBidding level resv s).lpi = s.lpi := by
  unfold enterBidding; simp

@[simp] theorem evaluateWaiting_fs (s : State) :
    (evaluateWaiting s).fs = s.fs := by
  unfold evaluateWaiting; (repeat' split) <;> simp
@[simp] theorem evaluateWaiting_sv (s : State) :
    (evaluateWaiting s).sv = s.sv := by
  unfold evaluateWaiting; (repeat' split) <;> simp
@[simp] theorem evaluateWaiting_pp (s : State) :
    (evaluateWaiting s).pp = s.pp := by
  unfold evaluateWaiting; (repeat' split) <;> simp
@[simp] theorem evaluateWaiting_held (s : State) :
    (evaluateWaiting s).held = s.held := by
  unfold evaluateWaiting; (repeat' split) <;> simp
@[simp] theorem evaluateWaiting_bp (s : State) :
    (evaluateWaiting s).bp = s.bp := by
  unfold evaluateWaiting; (repeat' split) <;> simp
@[simp] theorem evaluateWaiting_rc (s : State) :
    (evaluateWaiting s).rc = s.rc := by
  unfold evaluateWaiting; (repeat' split) <;> simp
@[simp] theorem evaluateWaiting_inp (s : State) :
    (evaluateWaiting s).inp = s.inp := by
  unfold evaluateWaiting; (repeat' split) <;> simp
@[simp] theorem evaluateWaiting_sc (s : State) :
    (evaluateWaiting s).sc = s.sc := by
  unfold evaluateWaiting; (repeat' split) <;> simp
@[simp] theorem evaluateWaiting_freeCount (s : State) :
    (evaluateWaiting s).freeCount = s.freeCount := by
  unfold evaluateWaiting; (repeat' split) <;> simp
@[simp] theorem evaluateWaiting_pending (s : State) :
    (evaluateWaiting s).pending = s.pending := by
  unfold evaluateWaiting; (repeat' split) <;> simp

@[simp] theorem enterWaiting_fs (s : State) :
    (enterWaiting s).fs = s.fs := by
  unfold enterWaiting; simp
@[simp] theorem enterWaiting_sv (s : State) :
    (enterWaiting s).sv = s.sv := by
  unfold enterWaiting; simp
@[simp] theorem enterWaiting_pp (s : State) :
    (enterWaiting s).pp = s.pp := by
  unfold enterWaiting; simp
@[simp] theorem enterWaiting_held (s : State) :
    (enterWaiting s).held = s.held := by
  unfold enterWaiting; simp
@[simp] theorem enterWaiting_bp (s : State) :
    (enterWaiting s).bp = s.bp := by
  unfold enterWaiting; simp
@[simp] theorem enterWaiting_rc (s : State) :
    (enterWaiting s).rc = s.rc := by
  unfold enterWaiting; simp
@[simp] theorem enterWaiting_inp (s : State) :
    (enterWaiting s).inp = s.inp := by
  unfold enterWaiting; simp
@[simp] theorem enterWaiting_sc (s : State) :
    (enterWaiting s).sc = s.sc := by
  unfold enterWaiting; simp
@[simp] theorem enterWaiting_freeCount (s : State) :
    (enterWaiting s).freeCount = s.freeCount := by
  unfold enterWaiting; simp
@[simp] theorem enterWaiting_pending (s : State) :
    (enterWaiting s).pending = s.pending := by
  unfold enterWaiting; simp

@[simp] theorem enterBackoff_fs (s : State) :
    (enterBackoff s).fs = s.fs := by
  unfold enterBackoff; simp
@[simp] theorem enterBackoff_sv (s : State) :
    (enterBackoff s).sv = s.sv := by
  unfold enterBackoff; simp
@[simp] theorem enterBackoff_pp (s : State) :
    (enterBackoff s).pp = s.pp := by
  unfold enterBackoff; simp
@[simp] theorem enterBackoff_held (s : State) :
    (enterBackoff s).held = s.held := by
  unfold enterBackoff; simp
@[simp] theorem enterBackoff_bp (s : State) :
    (enterBackoff s).bp = s.bp := by
  unfold enterBackoff; simp
@[simp] theorem enterBackoff_rc (s : State) :
    (enterBackoff s).rc = s.rc := by
  unfold enterBackoff; simp
@[simp] theorem enterBackoff_inp (s : State) :
    (enterBackoff s).inp = s.inp := by
  unfold enterBackoff; simp
@[simp] theorem enterBackoff_sc (s : State) :
    (enterBackoff s).sc = s.sc := by
  unfold enterBackoff; simp
@[simp] theorem enterBackoff_freeCount (s : State) :
    (enterBackoff s).freeCount = s.freeCount := by
  unfold enterBackoff; simp
@[simp] theorem enterBackoff_pending (s : State) :
    (enterBackoff s).pending = s.pending := by
  unfold enterBackoff; simp

@[simp] theorem beginDischarging_fs (exit : DischargeExit) (s : State) :
    (beginDischarging exit s).fs = s.fs := by
  unfold beginDischarging; simp
@[simp] theorem beginDischarging_sv (exit : DischargeExit) (s : State) :
    (beginDischarging exit s).sv = s.sv := by
  unfold beginDischarging; simp
@[simp] theorem beginDischarging_pp (exit : DischargeExit) (s : State) :
    (beginDischarging exit s).pp = s.pp := by
  unfold beginDischarging; simp
@[simp] theorem beginDischarging_held (exit : DischargeExit) (s : State) :
    (beginDischarging exit s).held = s.held := by
  unfold beginDischarging; simp
@[simp] theorem beginDischarging_bp (exit : DischargeExit) (s : State) :
    (beginDischarging exit s).bp = s.bp := by
  unfold beginDischarging; simp
@[simp] theorem beginDischarging_rc (exit : DischargeExit) (s : State) :
    (beginDischarging exit s).rc = s.rc := by
  unfold beginDischarging; simp
@[simp] theorem beginDischarging_inp (exit : DischargeExit) (s : State) :
    (beginDischarging exit s).inp = s.inp := by
  unfold beginDischarging; simp
@[simp] theorem beginDischarging_sc (exit : DischargeExit) (s : State) :
    (beginDischarging exit s).sc = s.sc := by
  unfold beginDischarging; simp
@[simp] theorem beginDischarging_freeCount (exit : DischargeExit) (s : State) :
    (beginDischarging exit s).freeCount = s.freeCount := by
  unfold beginDischarging; simp
@[simp] theorem beginDischarging_pending (exit : DischargeExit) (s : State) :
    (beginDischarging exit s).pending = s.pending := by
  unfold beginDischarging; simp

@[simp] theorem completeDischarge_fs (s : State) :
    (completeDischarge s).fs = s.fs := by
  unfold completeDischarge; (repeat' split) <;> simp
@[simp] theorem completeDischarge_sv (s : State) :
    (completeDischarge s).sv = s.sv := by
  unfold completeDischarge; (repeat' split) <;> simp
@[simp] theorem completeDischarge_pp (s : State) :
    (completeDischarge s).pp = s.pp := by
  unfold completeDischarge; (repeat' split) <;> simp
@[simp] theorem completeDischarge_held (s : State) :
    (completeDischarge s).held = s.held := by
  unfold completeDischarge; (repeat' split) <;> simp
@[simp] theorem completeDischarge_bp (s : State) :
    (completeDischarge s).bp = s.bp := by
  unfold completeDischarge; (repeat' split) <;> simp
@[simp] theorem completeDischarge_rc (s : State) :
    (completeDischarge s).rc = s.rc := by
  unfold completeDischarge; (repeat' split) <;> simp
@[simp] theorem completeDischarge_inp (s : State) :
    (completeDischarge s).inp = s.inp := by
  unfold completeDischarge; (repeat' split) <;> simp
@[simp] theorem completeDischarge_sc (s : State) :
    (completeDischarge s).sc = s.sc := by
  unfold completeDischarge; (repeat' split) <;> simp
@[simp] theorem completeDischarge_freeCount (s : State) :
    (completeDischarge s).freeCount = s.freeCount := by
  unfold completeDischarge; (repeat' split) <;> simp
@[simp] theorem completeDischarge_pending (s : State) :
    (completeDischarge s).pending = s.pending := by
  unfold completeDischarge; (repeat' split) <;> simp

@[simp] theorem enterDischarging_fs (exit : DischargeExit) (s : State) :
    (enterDischarging exit s).fs = s.fs := by
  unfold enterDischarging; simp
@[simp] theorem enterDischarging_sv (exit : DischargeExit) (s : State) :
    (enterDischarging exit s).sv = s.sv := by
  unfold enterDischarging; simp
@[simp] theorem enterDischarging_pp (exit : DischargeExit) (s : State) :
    (enterDischarging exit s).pp = s.pp := by
  unfold enterDischarging; simp
@[simp] theorem enterDischarging_held (exit : DischargeExit) (s : State) :
    (enterDischarging exit s).held = s.held := by
  unfold enterDischarging; simp
@[simp] theorem enterDischarging_bp (exit : DischargeExit) (s : State) :
    (enterDischarging exit s).bp = s.bp := by
  unfold enterDischarging; simp
@[simp] theorem enterDischarging_rc (exit : DischargeExit) (s : State) :
    (enterDischarging exit s).rc = s.rc := by
  unfold enterDischarging; simp
@[simp] theorem enterDischarging_inp (exit : DischargeExit) (s : State) :
    (enterDischarging exit s).inp = s.inp := by
  unfold enterDischarging; simp
@[simp] theorem enterDischarging_sc (exit : DischargeExit) (s : State) :
    (enterDischarging exit s).sc = s.sc := by
  unfold enterDischarging; simp
@[simp] theorem enterDischarging_freeCount (exit : DischargeExit) (s : State) :
    (enterDischarging exit s).freeCount = s.freeCount := by
  unfold enterDischarging; simp
@[simp] theorem enterDischarging_pending (exit : DischargeExit) (s : State) :
    (enterDischarging exit s).pending = s.pending := by
  unfold enterDischarging; simp

@[simp] theorem beginRetry_fs (c : CountedFault) (s : State) :
    (beginRetry c s).fs = s.fs := by
  unfold beginRetry; simp
@[simp] theorem beginRetry_sv (c : CountedFault) (s : State) :
    (beginRetry c s).sv = s.sv := by
  unfold beginRetry; simp
@[simp] theorem beginRetry_pp (c : CountedFault) (s : State) :
    (beginRetry c s).pp = s.pp := by
  unfold beginRetry; simp
@[simp] theorem beginRetry_held (c : CountedFault) (s : State) :
    (beginRetry c s).held = s.held := by
  unfold beginRetry; simp
@[simp] theorem beginRetry_bp (c : CountedFault) (s : State) :
    (beginRetry c s).bp = s.bp := by
  unfold beginRetry; simp
@[simp] theorem beginRetry_rc (c : CountedFault) (s : State) :
    (beginRetry c s).rc = s.rc := by
  unfold beginRetry; simp
@[simp] theorem beginRetry_inp (c : CountedFault) (s : State) :
    (beginRetry c s).inp = s.inp := by
  unfold beginRetry; simp
@[simp] theorem beginRetry_sc (c : CountedFault) (s : State) :
    (beginRetry c s).sc = s.sc := by
  unfold beginRetry; simp
@[simp] theorem beginRetry_freeCount (c : CountedFault) (s : State) :
    (beginRetry c s).freeCount = s.freeCount := by
  unfold beginRetry; simp
@[simp] theorem beginRetry_pending (c : CountedFault) (s : State) :
    (beginRetry c s).pending = s.pending := by
  unfold beginRetry; simp

@[simp] theorem retryRule_fs (c : CountedFault) (s : State) :
    (retryRule c s).fs = s.fs := by
  unfold retryRule; simp
@[simp] theorem retryRule_sv (c : CountedFault) (s : State) :
    (retryRule c s).sv = s.sv := by
  unfold retryRule; simp
@[simp] theorem retryRule_pp (c : CountedFault) (s : State) :
    (retryRule c s).pp = s.pp := by
  unfold retryRule; simp
@[simp] theorem retryRule_held (c : CountedFault) (s : State) :
    (retryRule c s).held = s.held := by
  unfold retryRule; simp
@[simp] theorem retryRule_bp (c : CountedFault) (s : State) :
    (retryRule c s).bp = s.bp := by
  unfold retryRule; simp
@[simp] theorem retryRule_rc (c : CountedFault) (s : State) :
    (retryRule c s).rc = s.rc := by
  unfold retryRule; simp
@[simp] theorem retryRule_inp (c : CountedFault) (s : State) :
    (retryRule c s).inp = s.inp := by
  unfold retryRule; simp
@[simp] theorem retryRule_sc (c : CountedFault) (s : State) :
    (retryRule c s).sc = s.sc := by
  unfold retryRule; simp
@[simp] theorem retryRule_freeCount (c : CountedFault) (s : State) :
    (retryRule c s).freeCount = s.freeCount := by
  unfold retryRule; simp
@[simp] theorem retryRule_pending (c : CountedFault) (s : State) :
    (retryRule c s).pending = s.pending := by
  unfold retryRule; simp

@[simp] theorem takeFeedFault_fs (cause : FaultCause) (exit : DischargeExit) (s : State) :
    (takeFeedFault cause exit s).fs = s.fs := by
  unfold takeFeedFault; simp
@[simp] theorem takeFeedFault_sv (cause : FaultCause) (exit : DischargeExit) (s : State) :
    (takeFeedFault cause exit s).sv = s.sv := by
  unfold takeFeedFault; simp
@[simp] theorem takeFeedFault_pp (cause : FaultCause) (exit : DischargeExit) (s : State) :
    (takeFeedFault cause exit s).pp = s.pp := by
  unfold takeFeedFault; simp
@[simp] theorem takeFeedFault_held (cause : FaultCause) (exit : DischargeExit) (s : State) :
    (takeFeedFault cause exit s).held = s.held := by
  unfold takeFeedFault; simp
@[simp] theorem takeFeedFault_bp (cause : FaultCause) (exit : DischargeExit) (s : State) :
    (takeFeedFault cause exit s).bp = s.bp := by
  unfold takeFeedFault; simp
@[simp] theorem takeFeedFault_rc (cause : FaultCause) (exit : DischargeExit) (s : State) :
    (takeFeedFault cause exit s).rc = s.rc := by
  unfold takeFeedFault; simp
@[simp] theorem takeFeedFault_inp (cause : FaultCause) (exit : DischargeExit) (s : State) :
    (takeFeedFault cause exit s).inp = s.inp := by
  unfold takeFeedFault; simp
@[simp] theorem takeFeedFault_sc (cause : FaultCause) (exit : DischargeExit) (s : State) :
    (takeFeedFault cause exit s).sc = s.sc := by
  unfold takeFeedFault; simp
@[simp] theorem takeFeedFault_freeCount (cause : FaultCause) (exit : DischargeExit) (s : State) :
    (takeFeedFault cause exit s).freeCount = s.freeCount := by
  unfold takeFeedFault; simp
@[simp] theorem takeFeedFault_pending (cause : FaultCause) (exit : DischargeExit) (s : State) :
    (takeFeedFault cause exit s).pending = s.pending := by
  unfold takeFeedFault; simp

@[simp] theorem openGates_fs (target : PathState) (s : State) :
    (openGates target s).fs = s.fs := by
  unfold openGates; split <;> simp
@[simp] theorem openGates_sv (target : PathState) (s : State) :
    (openGates target s).sv = s.sv := by
  unfold openGates; split <;> simp
@[simp] theorem openGates_inp (target : PathState) (s : State) :
    (openGates target s).inp = s.inp := by
  unfold openGates; split <;> simp
@[simp] theorem openGates_sc (target : PathState) (s : State) :
    (openGates target s).sc = s.sc := by
  unfold openGates; split <;> simp
@[simp] theorem openGates_freeCount (target : PathState) (s : State) :
    (openGates target s).freeCount = s.freeCount := by
  unfold openGates; split <;> simp
@[simp] theorem openGates_pending (target : PathState) (s : State) :
    (openGates target s).pending = s.pending := by
  unfold openGates; split <;> simp
@[simp] theorem openGates_sli (target : PathState) (s : State) :
    (openGates target s).sli = s.sli := by
  unfold openGates; split <;> simp
@[simp] theorem openGates_lpi (target : PathState) (s : State) :
    (openGates target s).lpi = s.lpi := by
  unfold openGates; split <;> simp

@[simp] theorem failAttempt_fs (c : CountedFault) (s : State) :
    (failAttempt c s).fs = s.fs := by
  unfold failAttempt; dsimp only; (repeat' split) <;> simp
@[simp] theorem failAttempt_sv (c : CountedFault) (s : State) :
    (failAttempt c s).sv = s.sv := by
  unfold failAttempt; dsimp only; (repeat' split) <;> simp
@[simp] theorem failAttempt_inp (c : CountedFault) (s : State) :
    (failAttempt c s).inp = s.inp := by
  unfold failAttempt; dsimp only; (repeat' split) <;> simp
@[simp] theorem failAttempt_sc (c : CountedFault) (s : State) :
    (failAttempt c s).sc = s.sc := by
  unfold failAttempt; dsimp only; (repeat' split) <;> simp
@[simp] theorem failAttempt_freeCount (c : CountedFault) (s : State) :
    (failAttempt c s).freeCount = s.freeCount := by
  unfold failAttempt; dsimp only; (repeat' split) <;> simp
@[simp] theorem failAttempt_pending (c : CountedFault) (s : State) :
    (failAttempt c s).pending = s.pending := by
  unfold failAttempt; dsimp only; (repeat' split) <;> simp

@[simp] theorem trip_fs (s : State) :
    (trip s).fs = s.fs := by
  unfold trip; dsimp only; (repeat' split) <;> simp
@[simp] theorem trip_sv (s : State) :
    (trip s).sv = s.sv := by
  unfold trip; dsimp only; (repeat' split) <;> simp
@[simp] theorem trip_inp (s : State) :
    (trip s).inp = s.inp := by
  unfold trip; dsimp only; (repeat' split) <;> simp
@[simp] theorem trip_sc (s : State) :
    (trip s).sc = s.sc := by
  unfold trip; dsimp only; (repeat' split) <;> simp
@[simp] theorem trip_freeCount (s : State) :
    (trip s).freeCount = s.freeCount := by
  unfold trip; dsimp only; (repeat' split) <;> simp
@[simp] theorem trip_pending (s : State) :
    (trip s).pending = s.pending := by
  unfold trip; dsimp only; (repeat' split) <;> simp

@[simp] theorem answerFeedFault_fs (cause : FaultCause) (opened : Bool) (s : State) :
    (answerFeedFault cause opened s).fs = s.fs := by
  unfold answerFeedFault; (repeat' split) <;> simp
@[simp] theorem answerFeedFault_sv (cause : FaultCause) (opened : Bool) (s : State) :
    (answerFeedFault cause opened s).sv = s.sv := by
  unfold answerFeedFault; (repeat' split) <;> simp
@[simp] theorem answerFeedFault_pp (cause : FaultCause) (opened : Bool) (s : State) :
    (answerFeedFault cause opened s).pp = s.pp := by
  unfold answerFeedFault; (repeat' split) <;> simp
@[simp] theorem answerFeedFault_held (cause : FaultCause) (opened : Bool) (s : State) :
    (answerFeedFault cause opened s).held = s.held := by
  unfold answerFeedFault; (repeat' split) <;> simp
@[simp] theorem answerFeedFault_bp (cause : FaultCause) (opened : Bool) (s : State) :
    (answerFeedFault cause opened s).bp = s.bp := by
  unfold answerFeedFault; (repeat' split) <;> simp
@[simp] theorem answerFeedFault_rc (cause : FaultCause) (opened : Bool) (s : State) :
    (answerFeedFault cause opened s).rc = s.rc := by
  unfold answerFeedFault; (repeat' split) <;> simp
@[simp] theorem answerFeedFault_inp (cause : FaultCause) (opened : Bool) (s : State) :
    (answerFeedFault cause opened s).inp = s.inp := by
  unfold answerFeedFault; (repeat' split) <;> simp
@[simp] theorem answerFeedFault_sc (cause : FaultCause) (opened : Bool) (s : State) :
    (answerFeedFault cause opened s).sc = s.sc := by
  unfold answerFeedFault; (repeat' split) <;> simp
@[simp] theorem answerFeedFault_freeCount (cause : FaultCause) (opened : Bool) (s : State) :
    (answerFeedFault cause opened s).freeCount = s.freeCount := by
  unfold answerFeedFault; (repeat' split) <;> simp
@[simp] theorem answerFeedFault_pending (cause : FaultCause) (opened : Bool) (s : State) :
    (answerFeedFault cause opened s).pending = s.pending := by
  unfold answerFeedFault; (repeat' split) <;> simp

@[simp] theorem feedFault_fs (cause : FaultCause) (s : State) :
    (feedFault cause s).fs = s.fs := by
  unfold feedFault; simp
@[simp] theorem feedFault_sv (cause : FaultCause) (s : State) :
    (feedFault cause s).sv = s.sv := by
  unfold feedFault; simp
@[simp] theorem feedFault_inp (cause : FaultCause) (s : State) :
    (feedFault cause s).inp = s.inp := by
  unfold feedFault; simp
@[simp] theorem feedFault_sc (cause : FaultCause) (s : State) :
    (feedFault cause s).sc = s.sc := by
  unfold feedFault; simp
@[simp] theorem feedFault_freeCount (cause : FaultCause) (s : State) :
    (feedFault cause s).freeCount = s.freeCount := by
  unfold feedFault; simp
@[simp] theorem feedFault_pending (cause : FaultCause) (s : State) :
    (feedFault cause s).pending = s.pending := by
  unfold feedFault; simp

@[simp] theorem teardownComplete_fs (s : State) :
    (teardownComplete s).fs = s.fs := by
  unfold teardownComplete; (repeat' split) <;> simp
@[simp] theorem teardownComplete_sv (s : State) :
    (teardownComplete s).sv = s.sv := by
  unfold teardownComplete; (repeat' split) <;> simp
@[simp] theorem teardownComplete_inp (s : State) :
    (teardownComplete s).inp = s.inp := by
  unfold teardownComplete; (repeat' split) <;> simp
@[simp] theorem teardownComplete_sc (s : State) :
    (teardownComplete s).sc = s.sc := by
  unfold teardownComplete; (repeat' split) <;> simp
@[simp] theorem teardownComplete_freeCount (s : State) :
    (teardownComplete s).freeCount = s.freeCount := by
  unfold teardownComplete; (repeat' split) <;> simp
@[simp] theorem teardownComplete_pending (s : State) :
    (teardownComplete s).pending = s.pending := by
  unfold teardownComplete; (repeat' split) <;> simp

@[simp] theorem undoFrom_fs (n : Nat) (s : State) :
    (undoFrom n s).fs = s.fs := by
  induction n generalizing s with
  | zero => simp [undoFrom]
  | succ k ih => unfold undoFrom; split <;> [exact ih s; skip]; split <;> simp [ih]
@[simp] theorem undoFrom_sv (n : Nat) (s : State) :
    (undoFrom n s).sv = s.sv := by
  induction n generalizing s with
  | zero => simp [undoFrom]
  | succ k ih => unfold undoFrom; split <;> [exact ih s; skip]; split <;> simp [ih]
@[simp] theorem undoFrom_inp (n : Nat) (s : State) :
    (undoFrom n s).inp = s.inp := by
  induction n generalizing s with
  | zero => simp [undoFrom]
  | succ k ih => unfold undoFrom; split <;> [exact ih s; skip]; split <;> simp [ih]
@[simp] theorem undoFrom_sc (n : Nat) (s : State) :
    (undoFrom n s).sc = s.sc := by
  induction n generalizing s with
  | zero => simp [undoFrom]
  | succ k ih => unfold undoFrom; split <;> [exact ih s; skip]; split <;> simp [ih]
@[simp] theorem undoFrom_freeCount (n : Nat) (s : State) :
    (undoFrom n s).freeCount = s.freeCount := by
  induction n generalizing s with
  | zero => simp [undoFrom]
  | succ k ih => unfold undoFrom; split <;> [exact ih s; skip]; split <;> simp [ih]
@[simp] theorem undoFrom_pending (n : Nat) (s : State) :
    (undoFrom n s).pending = s.pending := by
  induction n generalizing s with
  | zero => simp [undoFrom]
  | succ k ih => unfold undoFrom; split <;> [exact ih s; skip]; split <;> simp [ih]

@[simp] theorem teardownCommand_fs (s : State) :
    (teardownCommand s).fs = s.fs := by
  unfold teardownCommand; split <;> simp
@[simp] theorem teardownCommand_sv (s : State) :
    (teardownCommand s).sv = s.sv := by
  unfold teardownCommand; split <;> simp
@[simp] theorem teardownCommand_inp (s : State) :
    (teardownCommand s).inp = s.inp := by
  unfold teardownCommand; split <;> simp
@[simp] theorem teardownCommand_sc (s : State) :
    (teardownCommand s).sc = s.sc := by
  unfold teardownCommand; split <;> simp
@[simp] theorem teardownCommand_freeCount (s : State) :
    (teardownCommand s).freeCount = s.freeCount := by
  unfold teardownCommand; split <;> simp
@[simp] theorem teardownCommand_pending (s : State) :
    (teardownCommand s).pending = s.pending := by
  unfold teardownCommand; split <;> simp

@[simp] theorem enterTeardown_fs (s : State) :
    (enterTeardown s).fs = s.fs := by
  unfold enterTeardown; simp
@[simp] theorem enterTeardown_sv (s : State) :
    (enterTeardown s).sv = s.sv := by
  unfold enterTeardown; simp
@[simp] theorem enterTeardown_inp (s : State) :
    (enterTeardown s).inp = s.inp := by
  unfold enterTeardown; simp
@[simp] theorem enterTeardown_sc (s : State) :
    (enterTeardown s).sc = s.sc := by
  unfold enterTeardown; simp
@[simp] theorem enterTeardown_freeCount (s : State) :
    (enterTeardown s).freeCount = s.freeCount := by
  unfold enterTeardown; simp
@[simp] theorem enterTeardown_pending (s : State) :
    (enterTeardown s).pending = s.pending := by
  unfold enterTeardown; simp

@[simp] theorem enterDraining_fs (s : State) :
    (enterDraining s).fs = s.fs := by
  unfold enterDraining; dsimp only; (repeat' split) <;> simp
@[simp] theorem enterDraining_sv (s : State) :
    (enterDraining s).sv = s.sv := by
  unfold enterDraining; dsimp only; (repeat' split) <;> simp
@[simp] theorem enterDraining_inp (s : State) :
    (enterDraining s).inp = s.inp := by
  unfold enterDraining; dsimp only; (repeat' split) <;> simp
@[simp] theorem enterDraining_sc (s : State) :
    (enterDraining s).sc = s.sc := by
  unfold enterDraining; dsimp only; (repeat' split) <;> simp
@[simp] theorem enterDraining_freeCount (s : State) :
    (enterDraining s).freeCount = s.freeCount := by
  unfold enterDraining; dsimp only; (repeat' split) <;> simp
@[simp] theorem enterDraining_pending (s : State) :
    (enterDraining s).pending = s.pending := by
  unfold enterDraining; dsimp only; (repeat' split) <;> simp

@[simp] theorem enterHandover_fs (s : State) :
    (enterHandover s).fs = s.fs := by
  unfold enterHandover; dsimp only; (repeat' split) <;> simp
@[simp] theorem enterHandover_sv (s : State) :
    (enterHandover s).sv = s.sv := by
  unfold enterHandover; dsimp only; (repeat' split) <;> simp
@[simp] theorem enterHandover_inp (s : State) :
    (enterHandover s).inp = s.inp := by
  unfold enterHandover; dsimp only; (repeat' split) <;> simp
@[simp] theorem enterHandover_sc (s : State) :
    (enterHandover s).sc = s.sc := by
  unfold enterHandover; dsimp only; (repeat' split) <;> simp
@[simp] theorem enterHandover_freeCount (s : State) :
    (enterHandover s).freeCount = s.freeCount := by
  unfold enterHandover; dsimp only; (repeat' split) <;> simp
@[simp] theorem enterHandover_pending (s : State) :
    (enterHandover s).pending = s.pending := by
  unfold enterHandover; dsimp only; (repeat' split) <;> simp

@[simp] theorem enterRetiring_fs (s : State) :
    (enterRetiring s).fs = s.fs := by
  unfold enterRetiring; split <;> simp
@[simp] theorem enterRetiring_sv (s : State) :
    (enterRetiring s).sv = s.sv := by
  unfold enterRetiring; split <;> simp
@[simp] theorem enterRetiring_inp (s : State) :
    (enterRetiring s).inp = s.inp := by
  unfold enterRetiring; split <;> simp
@[simp] theorem enterRetiring_sc (s : State) :
    (enterRetiring s).sc = s.sc := by
  unfold enterRetiring; split <;> simp
@[simp] theorem enterRetiring_freeCount (s : State) :
    (enterRetiring s).freeCount = s.freeCount := by
  unfold enterRetiring; split <;> simp
@[simp] theorem enterRetiring_pending (s : State) :
    (enterRetiring s).pending = s.pending := by
  unfold enterRetiring; split <;> simp

@[simp] theorem evaluateHandover_fs (s : State) :
    (evaluateHandover s).fs = s.fs := by
  unfold evaluateHandover; split <;> simp
@[simp] theorem evaluateHandover_sv (s : State) :
    (evaluateHandover s).sv = s.sv := by
  unfold evaluateHandover; split <;> simp
@[simp] theorem evaluateHandover_inp (s : State) :
    (evaluateHandover s).inp = s.inp := by
  unfold evaluateHandover; split <;> simp
@[simp] theorem evaluateHandover_sc (s : State) :
    (evaluateHandover s).sc = s.sc := by
  unfold evaluateHandover; split <;> simp
@[simp] theorem evaluateHandover_freeCount (s : State) :
    (evaluateHandover s).freeCount = s.freeCount := by
  unfold evaluateHandover; split <;> simp
@[simp] theorem evaluateHandover_pending (s : State) :
    (evaluateHandover s).pending = s.pending := by
  unfold evaluateHandover; split <;> simp

@[simp] theorem forceRetire_fs (s : State) :
    (forceRetire s).fs = s.fs := by
  unfold forceRetire; split <;> simp
@[simp] theorem forceRetire_sv (s : State) :
    (forceRetire s).sv = s.sv := by
  unfold forceRetire; split <;> simp
@[simp] theorem forceRetire_inp (s : State) :
    (forceRetire s).inp = s.inp := by
  unfold forceRetire; split <;> simp
@[simp] theorem forceRetire_sc (s : State) :
    (forceRetire s).sc = s.sc := by
  unfold forceRetire; split <;> simp
@[simp] theorem forceRetire_freeCount (s : State) :
    (forceRetire s).freeCount = s.freeCount := by
  unfold forceRetire; split <;> simp
@[simp] theorem forceRetire_pending (s : State) :
    (forceRetire s).pending = s.pending := by
  unfold forceRetire; split <;> simp

@[simp] theorem maintainTakeover_fs (before s : State) :
    (maintainTakeover before s).fs = s.fs := by
  unfold maintainTakeover; dsimp only; (repeat' split) <;> simp
@[simp] theorem maintainTakeover_sv (before s : State) :
    (maintainTakeover before s).sv = s.sv := by
  unfold maintainTakeover; dsimp only; (repeat' split) <;> simp
@[simp] theorem maintainTakeover_pp (before s : State) :
    (maintainTakeover before s).pp = s.pp := by
  unfold maintainTakeover; dsimp only; (repeat' split) <;> simp
@[simp] theorem maintainTakeover_bp (before s : State) :
    (maintainTakeover before s).bp = s.bp := by
  unfold maintainTakeover; dsimp only; (repeat' split) <;> simp
@[simp] theorem maintainTakeover_inp (before s : State) :
    (maintainTakeover before s).inp = s.inp := by
  unfold maintainTakeover; dsimp only; (repeat' split) <;> simp
@[simp] theorem maintainTakeover_sc (before s : State) :
    (maintainTakeover before s).sc = s.sc := by
  unfold maintainTakeover; dsimp only; (repeat' split) <;> simp
@[simp] theorem maintainTakeover_freeCount (before s : State) :
    (maintainTakeover before s).freeCount = s.freeCount := by
  unfold maintainTakeover; dsimp only; (repeat' split) <;> simp
@[simp] theorem maintainTakeover_pending (before s : State) :
    (maintainTakeover before s).pending = s.pending := by
  unfold maintainTakeover; dsimp only; (repeat' split) <;> simp
@[simp] theorem maintainTakeover_ae (before s : State) :
    (maintainTakeover before s).ae = s.ae := by
  unfold maintainTakeover; dsimp only; (repeat' split) <;> simp
@[simp] theorem maintainTakeover_sli (before s : State) :
    (maintainTakeover before s).sli = s.sli := by
  unfold maintainTakeover; dsimp only; (repeat' split) <;> simp
@[simp] theorem maintainTakeover_lpi (before s : State) :
    (maintainTakeover before s).lpi = s.lpi := by
  unfold maintainTakeover; dsimp only; (repeat' split) <;> simp

@[simp] theorem evaluateTakeover_fs (s : State) :
    (evaluateTakeover s).fs = s.fs := by
  unfold evaluateTakeover; split <;> simp
@[simp] theorem evaluateTakeover_sv (s : State) :
    (evaluateTakeover s).sv = s.sv := by
  unfold evaluateTakeover; split <;> simp
@[simp] theorem evaluateTakeover_pp (s : State) :
    (evaluateTakeover s).pp = s.pp := by
  unfold evaluateTakeover; split <;> simp
@[simp] theorem evaluateTakeover_bp (s : State) :
    (evaluateTakeover s).bp = s.bp := by
  unfold evaluateTakeover; split <;> simp
@[simp] theorem evaluateTakeover_inp (s : State) :
    (evaluateTakeover s).inp = s.inp := by
  unfold evaluateTakeover; split <;> simp
@[simp] theorem evaluateTakeover_sc (s : State) :
    (evaluateTakeover s).sc = s.sc := by
  unfold evaluateTakeover; split <;> simp
@[simp] theorem evaluateTakeover_freeCount (s : State) :
    (evaluateTakeover s).freeCount = s.freeCount := by
  unfold evaluateTakeover; split <;> simp
@[simp] theorem evaluateTakeover_pending (s : State) :
    (evaluateTakeover s).pending = s.pending := by
  unfold evaluateTakeover; split <;> simp
@[simp] theorem evaluateTakeover_ae (s : State) :
    (evaluateTakeover s).ae = s.ae := by
  unfold evaluateTakeover; split <;> simp
@[simp] theorem evaluateTakeover_sli (s : State) :
    (evaluateTakeover s).sli = s.sli := by
  unfold evaluateTakeover; split <;> simp
@[simp] theorem evaluateTakeover_lpi (s : State) :
    (evaluateTakeover s).lpi = s.lpi := by
  unfold evaluateTakeover; split <;> simp

@[simp] theorem completeShed_fs (s : State) :
    (completeShed s).fs = s.fs := by
  unfold completeShed; dsimp only; (repeat' split) <;> simp
@[simp] theorem completeShed_sv (s : State) :
    (completeShed s).sv = s.sv := by
  unfold completeShed; dsimp only; (repeat' split) <;> simp
@[simp] theorem completeShed_inp (s : State) :
    (completeShed s).inp = s.inp := by
  unfold completeShed; dsimp only; (repeat' split) <;> simp
@[simp] theorem completeShed_sc (s : State) :
    (completeShed s).sc = s.sc := by
  unfold completeShed; dsimp only; (repeat' split) <;> simp
@[simp] theorem completeShed_freeCount (s : State) :
    (completeShed s).freeCount = s.freeCount := by
  unfold completeShed; dsimp only; (repeat' split) <;> simp
@[simp] theorem completeShed_pending (s : State) :
    (completeShed s).pending = s.pending := by
  unfold completeShed; dsimp only; (repeat' split) <;> simp

@[simp] theorem enterShedding_fs (s : State) :
    (enterShedding s).fs = s.fs := by
  unfold enterShedding; dsimp only; (repeat' split) <;> simp
@[simp] theorem enterShedding_sv (s : State) :
    (enterShedding s).sv = s.sv := by
  unfold enterShedding; dsimp only; (repeat' split) <;> simp
@[simp] theorem enterShedding_inp (s : State) :
    (enterShedding s).inp = s.inp := by
  unfold enterShedding; dsimp only; (repeat' split) <;> simp
@[simp] theorem enterShedding_sc (s : State) :
    (enterShedding s).sc = s.sc := by
  unfold enterShedding; dsimp only; (repeat' split) <;> simp
@[simp] theorem enterShedding_freeCount (s : State) :
    (enterShedding s).freeCount = s.freeCount := by
  unfold enterShedding; dsimp only; (repeat' split) <;> simp
@[simp] theorem enterShedding_pending (s : State) :
    (enterShedding s).pending = s.pending := by
  unfold enterShedding; dsimp only; (repeat' split) <;> simp

@[simp] theorem failUpgrade_fs (s : State) :
    (failUpgrade s).fs = s.fs := by
  unfold failUpgrade; simp
@[simp] theorem failUpgrade_sv (s : State) :
    (failUpgrade s).sv = s.sv := by
  unfold failUpgrade; simp
@[simp] theorem failUpgrade_pp (s : State) :
    (failUpgrade s).pp = s.pp := by
  unfold failUpgrade; simp
@[simp] theorem failUpgrade_held (s : State) :
    (failUpgrade s).held = s.held := by
  unfold failUpgrade; simp
@[simp] theorem failUpgrade_bp (s : State) :
    (failUpgrade s).bp = s.bp := by
  unfold failUpgrade; simp
@[simp] theorem failUpgrade_rc (s : State) :
    (failUpgrade s).rc = s.rc := by
  unfold failUpgrade; simp
@[simp] theorem failUpgrade_inp (s : State) :
    (failUpgrade s).inp = s.inp := by
  unfold failUpgrade; simp
@[simp] theorem failUpgrade_sc (s : State) :
    (failUpgrade s).sc = s.sc := by
  unfold failUpgrade; simp
@[simp] theorem failUpgrade_freeCount (s : State) :
    (failUpgrade s).freeCount = s.freeCount := by
  unfold failUpgrade; simp
@[simp] theorem failUpgrade_pending (s : State) :
    (failUpgrade s).pending = s.pending := by
  unfold failUpgrade; simp
@[simp] theorem failUpgrade_lpi (s : State) :
    (failUpgrade s).lpi = s.lpi := by
  unfold failUpgrade; simp

@[simp] theorem enterUpgradeBid_fs (p : ProfileData) (vC : Nat) (s : State) :
    (enterUpgradeBid p vC s).fs = s.fs := by
  unfold enterUpgradeBid; simp
@[simp] theorem enterUpgradeBid_sv (p : ProfileData) (vC : Nat) (s : State) :
    (enterUpgradeBid p vC s).sv = s.sv := by
  unfold enterUpgradeBid; simp
@[simp] theorem enterUpgradeBid_pp (p : ProfileData) (vC : Nat) (s : State) :
    (enterUpgradeBid p vC s).pp = s.pp := by
  unfold enterUpgradeBid; simp
@[simp] theorem enterUpgradeBid_held (p : ProfileData) (vC : Nat) (s : State) :
    (enterUpgradeBid p vC s).held = s.held := by
  unfold enterUpgradeBid; simp
@[simp] theorem enterUpgradeBid_bp (p : ProfileData) (vC : Nat) (s : State) :
    (enterUpgradeBid p vC s).bp = s.bp := by
  unfold enterUpgradeBid; simp
@[simp] theorem enterUpgradeBid_rc (p : ProfileData) (vC : Nat) (s : State) :
    (enterUpgradeBid p vC s).rc = s.rc := by
  unfold enterUpgradeBid; simp
@[simp] theorem enterUpgradeBid_inp (p : ProfileData) (vC : Nat) (s : State) :
    (enterUpgradeBid p vC s).inp = s.inp := by
  unfold enterUpgradeBid; simp
@[simp] theorem enterUpgradeBid_sc (p : ProfileData) (vC : Nat) (s : State) :
    (enterUpgradeBid p vC s).sc = s.sc := by
  unfold enterUpgradeBid; simp
@[simp] theorem enterUpgradeBid_freeCount (p : ProfileData) (vC : Nat) (s : State) :
    (enterUpgradeBid p vC s).freeCount = s.freeCount := by
  unfold enterUpgradeBid; simp
@[simp] theorem enterUpgradeBid_pending (p : ProfileData) (vC : Nat) (s : State) :
    (enterUpgradeBid p vC s).pending = s.pending := by
  unfold enterUpgradeBid; simp
@[simp] theorem enterUpgradeBid_lpi (p : ProfileData) (vC : Nat) (s : State) :
    (enterUpgradeBid p vC s).lpi = s.lpi := by
  unfold enterUpgradeBid; simp

@[simp] theorem beginExcursion_fs (sub : AdmittedSub) (s : State) :
    (beginExcursion sub s).fs = s.fs := by
  unfold beginExcursion; (repeat' split) <;> simp
@[simp] theorem beginExcursion_sv (sub : AdmittedSub) (s : State) :
    (beginExcursion sub s).sv = s.sv := by
  unfold beginExcursion; (repeat' split) <;> simp
@[simp] theorem beginExcursion_inp (sub : AdmittedSub) (s : State) :
    (beginExcursion sub s).inp = s.inp := by
  unfold beginExcursion; (repeat' split) <;> simp
@[simp] theorem beginExcursion_sc (sub : AdmittedSub) (s : State) :
    (beginExcursion sub s).sc = s.sc := by
  unfold beginExcursion; (repeat' split) <;> simp
@[simp] theorem beginExcursion_freeCount (sub : AdmittedSub) (s : State) :
    (beginExcursion sub s).freeCount = s.freeCount := by
  unfold beginExcursion; (repeat' split) <;> simp
@[simp] theorem beginExcursion_pending (sub : AdmittedSub) (s : State) :
    (beginExcursion sub s).pending = s.pending := by
  unfold beginExcursion; (repeat' split) <;> simp

@[simp] theorem openUpgrade_fs (sub : AdmittedSub) (s : State) :
    (openUpgrade sub s).fs = s.fs := by
  unfold openUpgrade; (repeat' split) <;> simp
@[simp] theorem openUpgrade_sv (sub : AdmittedSub) (s : State) :
    (openUpgrade sub s).sv = s.sv := by
  unfold openUpgrade; (repeat' split) <;> simp
@[simp] theorem openUpgrade_pp (sub : AdmittedSub) (s : State) :
    (openUpgrade sub s).pp = s.pp := by
  unfold openUpgrade; (repeat' split) <;> simp
@[simp] theorem openUpgrade_held (sub : AdmittedSub) (s : State) :
    (openUpgrade sub s).held = s.held := by
  unfold openUpgrade; (repeat' split) <;> simp
@[simp] theorem openUpgrade_bp (sub : AdmittedSub) (s : State) :
    (openUpgrade sub s).bp = s.bp := by
  unfold openUpgrade; (repeat' split) <;> simp
@[simp] theorem openUpgrade_rc (sub : AdmittedSub) (s : State) :
    (openUpgrade sub s).rc = s.rc := by
  unfold openUpgrade; (repeat' split) <;> simp
@[simp] theorem openUpgrade_inp (sub : AdmittedSub) (s : State) :
    (openUpgrade sub s).inp = s.inp := by
  unfold openUpgrade; (repeat' split) <;> simp
@[simp] theorem openUpgrade_sc (sub : AdmittedSub) (s : State) :
    (openUpgrade sub s).sc = s.sc := by
  unfold openUpgrade; (repeat' split) <;> simp
@[simp] theorem openUpgrade_freeCount (sub : AdmittedSub) (s : State) :
    (openUpgrade sub s).freeCount = s.freeCount := by
  unfold openUpgrade; (repeat' split) <;> simp
@[simp] theorem openUpgrade_pending (sub : AdmittedSub) (s : State) :
    (openUpgrade sub s).pending = s.pending := by
  unfold openUpgrade; (repeat' split) <;> simp
@[simp] theorem openUpgrade_lpi (sub : AdmittedSub) (s : State) :
    (openUpgrade sub s).lpi = s.lpi := by
  unfold openUpgrade; (repeat' split) <;> simp

@[simp] theorem evaluateAdmitted_fs (s : State) :
    (evaluateAdmitted s).fs = s.fs := by
  unfold evaluateAdmitted; (repeat' split) <;> simp
@[simp] theorem evaluateAdmitted_sv (s : State) :
    (evaluateAdmitted s).sv = s.sv := by
  unfold evaluateAdmitted; (repeat' split) <;> simp
@[simp] theorem evaluateAdmitted_inp (s : State) :
    (evaluateAdmitted s).inp = s.inp := by
  unfold evaluateAdmitted; (repeat' split) <;> simp
@[simp] theorem evaluateAdmitted_sc (s : State) :
    (evaluateAdmitted s).sc = s.sc := by
  unfold evaluateAdmitted; (repeat' split) <;> simp
@[simp] theorem evaluateAdmitted_freeCount (s : State) :
    (evaluateAdmitted s).freeCount = s.freeCount := by
  unfold evaluateAdmitted; (repeat' split) <;> simp
@[simp] theorem evaluateAdmitted_pending (s : State) :
    (evaluateAdmitted s).pending = s.pending := by
  unfold evaluateAdmitted; (repeat' split) <;> simp

@[simp] theorem enterAdmitted_fs (s : State) :
    (enterAdmitted s).fs = s.fs := by
  unfold enterAdmitted; simp
@[simp] theorem enterAdmitted_sv (s : State) :
    (enterAdmitted s).sv = s.sv := by
  unfold enterAdmitted; simp
@[simp] theorem enterAdmitted_inp (s : State) :
    (enterAdmitted s).inp = s.inp := by
  unfold enterAdmitted; simp
@[simp] theorem enterAdmitted_sc (s : State) :
    (enterAdmitted s).sc = s.sc := by
  unfold enterAdmitted; simp
@[simp] theorem enterAdmitted_freeCount (s : State) :
    (enterAdmitted s).freeCount = s.freeCount := by
  unfold enterAdmitted; simp
@[simp] theorem enterAdmitted_pending (s : State) :
    (enterAdmitted s).pending = s.pending := by
  unfold enterAdmitted; simp

@[simp] theorem respondRetire_fs (s : State) :
    (respondRetire s).fs = s.fs := by
  unfold respondRetire; (repeat' split) <;> simp
@[simp] theorem respondRetire_sv (s : State) :
    (respondRetire s).sv = s.sv := by
  unfold respondRetire; (repeat' split) <;> simp
@[simp] theorem respondRetire_inp (s : State) :
    (respondRetire s).inp = s.inp := by
  unfold respondRetire; (repeat' split) <;> simp
@[simp] theorem respondRetire_sc (s : State) :
    (respondRetire s).sc = s.sc := by
  unfold respondRetire; (repeat' split) <;> simp
@[simp] theorem respondRetire_freeCount (s : State) :
    (respondRetire s).freeCount = s.freeCount := by
  unfold respondRetire; (repeat' split) <;> simp
@[simp] theorem respondRetire_pending (s : State) :
    (respondRetire s).pending = s.pending := by
  unfold respondRetire; (repeat' split) <;> simp

@[simp] theorem requestRetire_fs (source : RetireSource) (s : State) :
    (requestRetire source s).fs = s.fs := by
  unfold requestRetire; split <;> simp
@[simp] theorem requestRetire_sv (source : RetireSource) (s : State) :
    (requestRetire source s).sv = s.sv := by
  unfold requestRetire; split <;> simp
@[simp] theorem requestRetire_inp (source : RetireSource) (s : State) :
    (requestRetire source s).inp = s.inp := by
  unfold requestRetire; split <;> simp
@[simp] theorem requestRetire_sc (source : RetireSource) (s : State) :
    (requestRetire source s).sc = s.sc := by
  unfold requestRetire; split <;> simp
@[simp] theorem requestRetire_freeCount (source : RetireSource) (s : State) :
    (requestRetire source s).freeCount = s.freeCount := by
  unfold requestRetire; split <;> simp
@[simp] theorem requestRetire_pending (source : RetireSource) (s : State) :
    (requestRetire source s).pending = s.pending := by
  unfold requestRetire; split <;> simp

@[simp] theorem honourCancel_fs (s : State) :
    (honourCancel s).fs = s.fs := by
  unfold honourCancel; split <;> simp
@[simp] theorem honourCancel_sv (s : State) :
    (honourCancel s).sv = s.sv := by
  unfold honourCancel; split <;> simp
@[simp] theorem honourCancel_inp (s : State) :
    (honourCancel s).inp = s.inp := by
  unfold honourCancel; split <;> simp
@[simp] theorem honourCancel_sc (s : State) :
    (honourCancel s).sc = s.sc := by
  unfold honourCancel; split <;> simp
@[simp] theorem honourCancel_freeCount (s : State) :
    (honourCancel s).freeCount = s.freeCount := by
  unfold honourCancel; split <;> simp
@[simp] theorem honourCancel_pending (s : State) :
    (honourCancel s).pending = s.pending := by
  unfold honourCancel; split <;> simp

@[simp] theorem testCondition_fs (r : StepRecord) (s : State) :
    (testCondition r s).1.fs = s.fs := by
  unfold testCondition; split <;> simp
@[simp] theorem testCondition_sv (r : StepRecord) (s : State) :
    (testCondition r s).1.sv = s.sv := by
  unfold testCondition; split <;> simp
@[simp] theorem testCondition_pp (r : StepRecord) (s : State) :
    (testCondition r s).1.pp = s.pp := by
  unfold testCondition; split <;> simp
@[simp] theorem testCondition_held (r : StepRecord) (s : State) :
    (testCondition r s).1.held = s.held := by
  unfold testCondition; split <;> simp
@[simp] theorem testCondition_rc (r : StepRecord) (s : State) :
    (testCondition r s).1.rc = s.rc := by
  unfold testCondition; split <;> simp
@[simp] theorem testCondition_inp (r : StepRecord) (s : State) :
    (testCondition r s).1.inp = s.inp := by
  unfold testCondition; split <;> simp
@[simp] theorem testCondition_sc (r : StepRecord) (s : State) :
    (testCondition r s).1.sc = s.sc := by
  unfold testCondition; split <;> simp
@[simp] theorem testCondition_freeCount (r : StepRecord) (s : State) :
    (testCondition r s).1.freeCount = s.freeCount := by
  unfold testCondition; split <;> simp
@[simp] theorem testCondition_pending (r : StepRecord) (s : State) :
    (testCondition r s).1.pending = s.pending := by
  unfold testCondition; split <;> simp
@[simp] theorem testCondition_ae (r : StepRecord) (s : State) :
    (testCondition r s).1.ae = s.ae := by
  unfold testCondition; split <;> simp
@[simp] theorem testCondition_sli (r : StepRecord) (s : State) :
    (testCondition r s).1.sli = s.sli := by
  unfold testCondition; split <;> simp
@[simp] theorem testCondition_lpi (r : StepRecord) (s : State) :
    (testCondition r s).1.lpi = s.lpi := by
  unfold testCondition; split <;> simp

@[simp] theorem performStep_fs (n : Nat) (r : StepRecord) (s : State) :
    (performStep n r s).1.fs = s.fs := by
  unfold performStep; simp
@[simp] theorem performStep_sv (n : Nat) (r : StepRecord) (s : State) :
    (performStep n r s).1.sv = s.sv := by
  unfold performStep; simp
@[simp] theorem performStep_pp (n : Nat) (r : StepRecord) (s : State) :
    (performStep n r s).1.pp = s.pp := by
  unfold performStep; simp
@[simp] theorem performStep_rc (n : Nat) (r : StepRecord) (s : State) :
    (performStep n r s).1.rc = s.rc := by
  unfold performStep; simp
@[simp] theorem performStep_inp (n : Nat) (r : StepRecord) (s : State) :
    (performStep n r s).1.inp = s.inp := by
  unfold performStep; simp
@[simp] theorem performStep_sc (n : Nat) (r : StepRecord) (s : State) :
    (performStep n r s).1.sc = s.sc := by
  unfold performStep; simp
@[simp] theorem performStep_freeCount (n : Nat) (r : StepRecord) (s : State) :
    (performStep n r s).1.freeCount = s.freeCount := by
  unfold performStep; simp
@[simp] theorem performStep_pending (n : Nat) (r : StepRecord) (s : State) :
    (performStep n r s).1.pending = s.pending := by
  unfold performStep; simp
@[simp] theorem performStep_ae (n : Nat) (r : StepRecord) (s : State) :
    (performStep n r s).1.ae = s.ae := by
  unfold performStep; simp
@[simp] theorem performStep_sli (n : Nat) (r : StepRecord) (s : State) :
    (performStep n r s).1.sli = s.sli := by
  unfold performStep; simp
@[simp] theorem performStep_lpi (n : Nat) (r : StepRecord) (s : State) :
    (performStep n r s).1.lpi = s.lpi := by
  unfold performStep; simp

@[simp] theorem beginStep_fs (n : Nat) (r : StepRecord) (s : State) :
    (beginStep n r s).1.fs = s.fs := by
  unfold beginStep; dsimp only; (repeat' split) <;> simp
@[simp] theorem beginStep_sv (n : Nat) (r : StepRecord) (s : State) :
    (beginStep n r s).1.sv = s.sv := by
  unfold beginStep; dsimp only; (repeat' split) <;> simp
@[simp] theorem beginStep_pp (n : Nat) (r : StepRecord) (s : State) :
    (beginStep n r s).1.pp = s.pp := by
  unfold beginStep; dsimp only; (repeat' split) <;> simp
@[simp] theorem beginStep_rc (n : Nat) (r : StepRecord) (s : State) :
    (beginStep n r s).1.rc = s.rc := by
  unfold beginStep; dsimp only; (repeat' split) <;> simp
@[simp] theorem beginStep_inp (n : Nat) (r : StepRecord) (s : State) :
    (beginStep n r s).1.inp = s.inp := by
  unfold beginStep; dsimp only; (repeat' split) <;> simp
@[simp] theorem beginStep_sc (n : Nat) (r : StepRecord) (s : State) :
    (beginStep n r s).1.sc = s.sc := by
  unfold beginStep; dsimp only; (repeat' split) <;> simp
@[simp] theorem beginStep_freeCount (n : Nat) (r : StepRecord) (s : State) :
    (beginStep n r s).1.freeCount = s.freeCount := by
  unfold beginStep; dsimp only; (repeat' split) <;> simp
@[simp] theorem beginStep_pending (n : Nat) (r : StepRecord) (s : State) :
    (beginStep n r s).1.pending = s.pending := by
  unfold beginStep; dsimp only; (repeat' split) <;> simp
@[simp] theorem beginStep_ae (n : Nat) (r : StepRecord) (s : State) :
    (beginStep n r s).1.ae = s.ae := by
  unfold beginStep; dsimp only; (repeat' split) <;> simp
@[simp] theorem beginStep_sli (n : Nat) (r : StepRecord) (s : State) :
    (beginStep n r s).1.sli = s.sli := by
  unfold beginStep; dsimp only; (repeat' split) <;> simp
@[simp] theorem beginStep_lpi (n : Nat) (r : StepRecord) (s : State) :
    (beginStep n r s).1.lpi = s.lpi := by
  unfold beginStep; dsimp only; (repeat' split) <;> simp

@[simp] theorem completeRun_fs (s : State) :
    (completeRun s).fs = s.fs := by
  unfold completeRun; dsimp only; (repeat' split) <;> simp
@[simp] theorem completeRun_sv (s : State) :
    (completeRun s).sv = s.sv := by
  unfold completeRun; dsimp only; (repeat' split) <;> simp
@[simp] theorem completeRun_inp (s : State) :
    (completeRun s).inp = s.inp := by
  unfold completeRun; dsimp only; (repeat' split) <;> simp
@[simp] theorem completeRun_sc (s : State) :
    (completeRun s).sc = s.sc := by
  unfold completeRun; dsimp only; (repeat' split) <;> simp
@[simp] theorem completeRun_freeCount (s : State) :
    (completeRun s).freeCount = s.freeCount := by
  unfold completeRun; dsimp only; (repeat' split) <;> simp
@[simp] theorem completeRun_pending (s : State) :
    (completeRun s).pending = s.pending := by
  unfold completeRun; dsimp only; (repeat' split) <;> simp

@[simp] theorem runSteps_fs (l : List StepRecord) (n : Nat) (s : State) :
    (runSteps l n s).fs = s.fs := by
  induction l generalizing n s with
  | nil => simp [runSteps]
  | cons r rest ih => unfold runSteps; simp only []; split <;> simp [ih]
@[simp] theorem runSteps_sv (l : List StepRecord) (n : Nat) (s : State) :
    (runSteps l n s).sv = s.sv := by
  induction l generalizing n s with
  | nil => simp [runSteps]
  | cons r rest ih => unfold runSteps; simp only []; split <;> simp [ih]
@[simp] theorem runSteps_inp (l : List StepRecord) (n : Nat) (s : State) :
    (runSteps l n s).inp = s.inp := by
  induction l generalizing n s with
  | nil => simp [runSteps]
  | cons r rest ih => unfold runSteps; simp only []; split <;> simp [ih]
@[simp] theorem runSteps_sc (l : List StepRecord) (n : Nat) (s : State) :
    (runSteps l n s).sc = s.sc := by
  induction l generalizing n s with
  | nil => simp [runSteps]
  | cons r rest ih => unfold runSteps; simp only []; split <;> simp [ih]
@[simp] theorem runSteps_freeCount (l : List StepRecord) (n : Nat) (s : State) :
    (runSteps l n s).freeCount = s.freeCount := by
  induction l generalizing n s with
  | nil => simp [runSteps]
  | cons r rest ih => unfold runSteps; simp only []; split <;> simp [ih]
@[simp] theorem runSteps_pending (l : List StepRecord) (n : Nat) (s : State) :
    (runSteps l n s).pending = s.pending := by
  induction l generalizing n s with
  | nil => simp [runSteps]
  | cons r rest ih => unfold runSteps; simp only []; split <;> simp [ih]

@[simp] theorem afterStep_fs (x : State × Bool) :
    (afterStep x).fs = x.1.fs := by
  unfold afterStep; split <;> simp
@[simp] theorem afterStep_sv (x : State × Bool) :
    (afterStep x).sv = x.1.sv := by
  unfold afterStep; split <;> simp
@[simp] theorem afterStep_inp (x : State × Bool) :
    (afterStep x).inp = x.1.inp := by
  unfold afterStep; split <;> simp
@[simp] theorem afterStep_sc (x : State × Bool) :
    (afterStep x).sc = x.1.sc := by
  unfold afterStep; split <;> simp
@[simp] theorem afterStep_freeCount (x : State × Bool) :
    (afterStep x).freeCount = x.1.freeCount := by
  unfold afterStep; split <;> simp
@[simp] theorem afterStep_pending (x : State × Bool) :
    (afterStep x).pending = x.1.pending := by
  unfold afterStep; split <;> simp

@[simp] theorem runNormal_fs (s : State) :
    (runNormal s).fs = s.fs := by
  unfold runNormal; split <;> simp
@[simp] theorem runNormal_sv (s : State) :
    (runNormal s).sv = s.sv := by
  unfold runNormal; split <;> simp
@[simp] theorem runNormal_inp (s : State) :
    (runNormal s).inp = s.inp := by
  unfold runNormal; split <;> simp
@[simp] theorem runNormal_sc (s : State) :
    (runNormal s).sc = s.sc := by
  unfold runNormal; split <;> simp
@[simp] theorem runNormal_freeCount (s : State) :
    (runNormal s).freeCount = s.freeCount := by
  unfold runNormal; split <;> simp
@[simp] theorem runNormal_pending (s : State) :
    (runNormal s).pending = s.pending := by
  unfold runNormal; split <;> simp

@[simp] theorem runReconcile_fs (s : State) :
    (runReconcile s).fs = s.fs := by
  unfold runReconcile; split <;> simp
@[simp] theorem runReconcile_sv (s : State) :
    (runReconcile s).sv = s.sv := by
  unfold runReconcile; split <;> simp
@[simp] theorem runReconcile_inp (s : State) :
    (runReconcile s).inp = s.inp := by
  unfold runReconcile; split <;> simp
@[simp] theorem runReconcile_sc (s : State) :
    (runReconcile s).sc = s.sc := by
  unfold runReconcile; split <;> simp
@[simp] theorem runReconcile_freeCount (s : State) :
    (runReconcile s).freeCount = s.freeCount := by
  unfold runReconcile; split <;> simp
@[simp] theorem runReconcile_pending (s : State) :
    (runReconcile s).pending = s.pending := by
  unfold runReconcile; split <;> simp

@[simp] theorem enterBringup_fs (s : State) :
    (enterBringup s).fs = s.fs := by
  unfold enterBringup; simp
@[simp] theorem enterBringup_sv (s : State) :
    (enterBringup s).sv = s.sv := by
  unfold enterBringup; simp
@[simp] theorem enterBringup_inp (s : State) :
    (enterBringup s).inp = s.inp := by
  unfold enterBringup; simp
@[simp] theorem enterBringup_sc (s : State) :
    (enterBringup s).sc = s.sc := by
  unfold enterBringup; simp
@[simp] theorem enterBringup_freeCount (s : State) :
    (enterBringup s).freeCount = s.freeCount := by
  unfold enterBringup; simp
@[simp] theorem enterBringup_pending (s : State) :
    (enterBringup s).pending = s.pending := by
  unfold enterBringup; simp

@[simp] theorem takeEdge_fs (s : State) :
    (takeEdge s).fs = s.fs := by
  unfold takeEdge; (repeat' split) <;> simp
@[simp] theorem takeEdge_sv (s : State) :
    (takeEdge s).sv = s.sv := by
  unfold takeEdge; (repeat' split) <;> simp
@[simp] theorem takeEdge_inp (s : State) :
    (takeEdge s).inp = s.inp := by
  unfold takeEdge; (repeat' split) <;> simp
@[simp] theorem takeEdge_sc (s : State) :
    (takeEdge s).sc = s.sc := by
  unfold takeEdge; (repeat' split) <;> simp
@[simp] theorem takeEdge_freeCount (s : State) :
    (takeEdge s).freeCount = s.freeCount := by
  unfold takeEdge; (repeat' split) <;> simp
@[simp] theorem takeEdge_pending (s : State) :
    (takeEdge s).pending = s.pending := by
  unfold takeEdge; (repeat' split) <;> simp

@[simp] theorem commandPrecharge_fs (iSet deadline : Nat) (s : State) :
    (commandPrecharge iSet deadline s).fs = s.fs := by
  unfold commandPrecharge; split <;> simp
@[simp] theorem commandPrecharge_sv (iSet deadline : Nat) (s : State) :
    (commandPrecharge iSet deadline s).sv = s.sv := by
  unfold commandPrecharge; split <;> simp
@[simp] theorem commandPrecharge_held (iSet deadline : Nat) (s : State) :
    (commandPrecharge iSet deadline s).held = s.held := by
  unfold commandPrecharge; split <;> simp
@[simp] theorem commandPrecharge_bp (iSet deadline : Nat) (s : State) :
    (commandPrecharge iSet deadline s).bp = s.bp := by
  unfold commandPrecharge; split <;> simp
@[simp] theorem commandPrecharge_rc (iSet deadline : Nat) (s : State) :
    (commandPrecharge iSet deadline s).rc = s.rc := by
  unfold commandPrecharge; split <;> simp
@[simp] theorem commandPrecharge_inp (iSet deadline : Nat) (s : State) :
    (commandPrecharge iSet deadline s).inp = s.inp := by
  unfold commandPrecharge; split <;> simp
@[simp] theorem commandPrecharge_sc (iSet deadline : Nat) (s : State) :
    (commandPrecharge iSet deadline s).sc = s.sc := by
  unfold commandPrecharge; split <;> simp
@[simp] theorem commandPrecharge_freeCount (iSet deadline : Nat) (s : State) :
    (commandPrecharge iSet deadline s).freeCount = s.freeCount := by
  unfold commandPrecharge; split <;> simp
@[simp] theorem commandPrecharge_pending (iSet deadline : Nat) (s : State) :
    (commandPrecharge iSet deadline s).pending = s.pending := by
  unfold commandPrecharge; split <;> simp
@[simp] theorem commandPrecharge_ae (iSet deadline : Nat) (s : State) :
    (commandPrecharge iSet deadline s).ae = s.ae := by
  unfold commandPrecharge; split <;> simp
@[simp] theorem commandPrecharge_sli (iSet deadline : Nat) (s : State) :
    (commandPrecharge iSet deadline s).sli = s.sli := by
  unfold commandPrecharge; split <;> simp
@[simp] theorem commandPrecharge_lpi (iSet deadline : Nat) (s : State) :
    (commandPrecharge iSet deadline s).lpi = s.lpi := by
  unfold commandPrecharge; split <;> simp

@[simp] theorem prechargeSample_fs (s : State) :
    (prechargeSample s).fs = s.fs := by
  unfold prechargeSample; dsimp only; (repeat' split) <;> simp
@[simp] theorem prechargeSample_sv (s : State) :
    (prechargeSample s).sv = s.sv := by
  unfold prechargeSample; dsimp only; (repeat' split) <;> simp
@[simp] theorem prechargeSample_inp (s : State) :
    (prechargeSample s).inp = s.inp := by
  unfold prechargeSample; dsimp only; (repeat' split) <;> simp
@[simp] theorem prechargeSample_sc (s : State) :
    (prechargeSample s).sc = s.sc := by
  unfold prechargeSample; dsimp only; (repeat' split) <;> simp
@[simp] theorem prechargeSample_freeCount (s : State) :
    (prechargeSample s).freeCount = s.freeCount := by
  unfold prechargeSample; dsimp only; (repeat' split) <;> simp
@[simp] theorem prechargeSample_pending (s : State) :
    (prechargeSample s).pending = s.pending := by
  unfold prechargeSample; dsimp only; (repeat' split) <;> simp

@[simp] theorem overclaimSample_fs (s : State) :
    (overclaimSample s).fs = s.fs := by
  unfold overclaimSample; (repeat' split) <;> rfl
@[simp] theorem overclaimSample_sv (s : State) :
    (overclaimSample s).sv = s.sv := by
  unfold overclaimSample; (repeat' split) <;> rfl
@[simp] theorem overclaimSample_held (s : State) :
    (overclaimSample s).held = s.held := by
  unfold overclaimSample; (repeat' split) <;> rfl
@[simp] theorem overclaimSample_bp (s : State) :
    (overclaimSample s).bp = s.bp := by
  unfold overclaimSample; (repeat' split) <;> rfl
@[simp] theorem overclaimSample_rc (s : State) :
    (overclaimSample s).rc = s.rc := by
  unfold overclaimSample; (repeat' split) <;> rfl
@[simp] theorem overclaimSample_inp (s : State) :
    (overclaimSample s).inp = s.inp := by
  unfold overclaimSample; (repeat' split) <;> rfl
@[simp] theorem overclaimSample_sc (s : State) :
    (overclaimSample s).sc = s.sc := by
  unfold overclaimSample; (repeat' split) <;> rfl
@[simp] theorem overclaimSample_freeCount (s : State) :
    (overclaimSample s).freeCount = s.freeCount := by
  unfold overclaimSample; (repeat' split) <;> rfl
@[simp] theorem overclaimSample_pending (s : State) :
    (overclaimSample s).pending = s.pending := by
  unfold overclaimSample; (repeat' split) <;> rfl
@[simp] theorem overclaimSample_ae (s : State) :
    (overclaimSample s).ae = s.ae := by
  unfold overclaimSample; (repeat' split) <;> rfl
@[simp] theorem overclaimSample_sli (s : State) :
    (overclaimSample s).sli = s.sli := by
  unfold overclaimSample; (repeat' split) <;> rfl

@[simp] theorem closedSample_fs (s : State) :
    (closedSample s).fs = s.fs := by
  unfold closedSample; split <;> simp
@[simp] theorem closedSample_sv (s : State) :
    (closedSample s).sv = s.sv := by
  unfold closedSample; split <;> simp
@[simp] theorem closedSample_inp (s : State) :
    (closedSample s).inp = s.inp := by
  unfold closedSample; split <;> simp
@[simp] theorem closedSample_sc (s : State) :
    (closedSample s).sc = s.sc := by
  unfold closedSample; split <;> simp
@[simp] theorem closedSample_freeCount (s : State) :
    (closedSample s).freeCount = s.freeCount := by
  unfold closedSample; split <;> simp
@[simp] theorem closedSample_pending (s : State) :
    (closedSample s).pending = s.pending := by
  unfold closedSample; split <;> simp

@[simp] theorem updateDischarged_fs (s : State) :
    (updateDischarged s).fs = s.fs := by
  unfold updateDischarged; (repeat' split) <;> simp
@[simp] theorem updateDischarged_sv (s : State) :
    (updateDischarged s).sv = s.sv := by
  unfold updateDischarged; (repeat' split) <;> simp
@[simp] theorem updateDischarged_held (s : State) :
    (updateDischarged s).held = s.held := by
  unfold updateDischarged; (repeat' split) <;> simp
@[simp] theorem updateDischarged_bp (s : State) :
    (updateDischarged s).bp = s.bp := by
  unfold updateDischarged; (repeat' split) <;> simp
@[simp] theorem updateDischarged_rc (s : State) :
    (updateDischarged s).rc = s.rc := by
  unfold updateDischarged; (repeat' split) <;> simp
@[simp] theorem updateDischarged_inp (s : State) :
    (updateDischarged s).inp = s.inp := by
  unfold updateDischarged; (repeat' split) <;> simp
@[simp] theorem updateDischarged_sc (s : State) :
    (updateDischarged s).sc = s.sc := by
  unfold updateDischarged; (repeat' split) <;> simp
@[simp] theorem updateDischarged_freeCount (s : State) :
    (updateDischarged s).freeCount = s.freeCount := by
  unfold updateDischarged; (repeat' split) <;> simp
@[simp] theorem updateDischarged_pending (s : State) :
    (updateDischarged s).pending = s.pending := by
  unfold updateDischarged; (repeat' split) <;> simp

@[simp] theorem pathSampleEvent_fs (vBulk iLoad : Nat) (s : State) :
    (pathSampleEvent vBulk iLoad s).fs = s.fs := by
  unfold pathSampleEvent; dsimp only; (repeat' split) <;> simp
@[simp] theorem pathSampleEvent_sv (vBulk iLoad : Nat) (s : State) :
    (pathSampleEvent vBulk iLoad s).sv = s.sv := by
  unfold pathSampleEvent; dsimp only; (repeat' split) <;> simp
@[simp] theorem pathSampleEvent_inp (vBulk iLoad : Nat) (s : State) :
    (pathSampleEvent vBulk iLoad s).inp = s.inp := by
  unfold pathSampleEvent; dsimp only; (repeat' split) <;> simp
@[simp] theorem pathSampleEvent_sc (vBulk iLoad : Nat) (s : State) :
    (pathSampleEvent vBulk iLoad s).sc = s.sc := by
  unfold pathSampleEvent; dsimp only; (repeat' split) <;> simp
@[simp] theorem pathSampleEvent_freeCount (vBulk iLoad : Nat) (s : State) :
    (pathSampleEvent vBulk iLoad s).freeCount = s.freeCount := by
  unfold pathSampleEvent; dsimp only; (repeat' split) <;> simp
@[simp] theorem pathSampleEvent_pending (vBulk iLoad : Nat) (s : State) :
    (pathSampleEvent vBulk iLoad s).pending = s.pending := by
  unfold pathSampleEvent; dsimp only; (repeat' split) <;> simp

@[simp] theorem takeFeedChange_fs (s : State) :
    (takeFeedChange s).fs = s.fs := by
  unfold takeFeedChange; dsimp only; (repeat' split) <;> simp
@[simp] theorem takeFeedChange_sv (s : State) :
    (takeFeedChange s).sv = s.sv := by
  unfold takeFeedChange; dsimp only; (repeat' split) <;> simp
@[simp] theorem takeFeedChange_inp (s : State) :
    (takeFeedChange s).inp = s.inp := by
  unfold takeFeedChange; dsimp only; (repeat' split) <;> simp
@[simp] theorem takeFeedChange_sc (s : State) :
    (takeFeedChange s).sc = s.sc := by
  unfold takeFeedChange; dsimp only; (repeat' split) <;> simp
@[simp] theorem takeFeedChange_freeCount (s : State) :
    (takeFeedChange s).freeCount = s.freeCount := by
  unfold takeFeedChange; dsimp only; (repeat' split) <;> simp
@[simp] theorem takeFeedChange_pending (s : State) :
    (takeFeedChange s).pending = s.pending := by
  unfold takeFeedChange; dsimp only; (repeat' split) <;> simp

@[simp] theorem feedSampleEvent_sv (a b : Nat) (s : State) :
    (feedSampleEvent a b s).sv = s.sv := by
  unfold feedSampleEvent; dsimp only; (repeat' split) <;> simp
@[simp] theorem feedSampleEvent_inp (a b : Nat) (s : State) :
    (feedSampleEvent a b s).inp = s.inp := by
  unfold feedSampleEvent; dsimp only; (repeat' split) <;> simp
@[simp] theorem feedSampleEvent_sc (a b : Nat) (s : State) :
    (feedSampleEvent a b s).sc = s.sc := by
  unfold feedSampleEvent; dsimp only; (repeat' split) <;> simp
@[simp] theorem feedSampleEvent_freeCount (a b : Nat) (s : State) :
    (feedSampleEvent a b s).freeCount = s.freeCount := by
  unfold feedSampleEvent; dsimp only; (repeat' split) <;> simp
@[simp] theorem feedSampleEvent_pending (a b : Nat) (s : State) :
    (feedSampleEvent a b s).pending = s.pending := by
  unfold feedSampleEvent; dsimp only; (repeat' split) <;> simp

@[simp] theorem stopSlotClash_fs (s : State) :
    (stopSlotClash s).fs = s.fs := by
  unfold stopSlotClash; simp
@[simp] theorem stopSlotClash_sv (s : State) :
    (stopSlotClash s).sv = s.sv := by
  unfold stopSlotClash; simp
@[simp] theorem stopSlotClash_inp (s : State) :
    (stopSlotClash s).inp = s.inp := by
  unfold stopSlotClash; simp
@[simp] theorem stopSlotClash_freeCount (s : State) :
    (stopSlotClash s).freeCount = s.freeCount := by
  unfold stopSlotClash; simp
@[simp] theorem stopSlotClash_pending (s : State) :
    (stopSlotClash s).pending = s.pending := by
  unfold stopSlotClash; simp

@[simp] theorem slotClash_fs (s : State) :
    (slotClash s).fs = s.fs := by
  unfold slotClash; dsimp only; (repeat' split) <;> simp
@[simp] theorem slotClash_sv (s : State) :
    (slotClash s).sv = s.sv := by
  unfold slotClash; dsimp only; (repeat' split) <;> simp
@[simp] theorem slotClash_inp (s : State) :
    (slotClash s).inp = s.inp := by
  unfold slotClash; dsimp only; (repeat' split) <;> simp
@[simp] theorem slotClash_freeCount (s : State) :
    (slotClash s).freeCount = s.freeCount := by
  unfold slotClash; dsimp only; (repeat' split) <;> simp
@[simp] theorem slotClash_pending (s : State) :
    (slotClash s).pending = s.pending := by
  unfold slotClash; dsimp only; (repeat' split) <;> simp

@[simp] theorem noticeSent_fs (f : InFlight) (s : State) :
    (noticeSent f s).fs = s.fs := by
  unfold noticeSent; (repeat' split) <;> rfl
@[simp] theorem noticeSent_sv (f : InFlight) (s : State) :
    (noticeSent f s).sv = s.sv := by
  unfold noticeSent; (repeat' split) <;> rfl
@[simp] theorem noticeSent_pp (f : InFlight) (s : State) :
    (noticeSent f s).pp = s.pp := by
  unfold noticeSent; (repeat' split) <;> rfl
@[simp] theorem noticeSent_bp (f : InFlight) (s : State) :
    (noticeSent f s).bp = s.bp := by
  unfold noticeSent; (repeat' split) <;> rfl
@[simp] theorem noticeSent_rc (f : InFlight) (s : State) :
    (noticeSent f s).rc = s.rc := by
  unfold noticeSent; (repeat' split) <;> rfl
@[simp] theorem noticeSent_inp (f : InFlight) (s : State) :
    (noticeSent f s).inp = s.inp := by
  unfold noticeSent; (repeat' split) <;> rfl
@[simp] theorem noticeSent_sc (f : InFlight) (s : State) :
    (noticeSent f s).sc = s.sc := by
  unfold noticeSent; (repeat' split) <;> rfl
@[simp] theorem noticeSent_freeCount (f : InFlight) (s : State) :
    (noticeSent f s).freeCount = s.freeCount := by
  unfold noticeSent; (repeat' split) <;> rfl
@[simp] theorem noticeSent_pending (f : InFlight) (s : State) :
    (noticeSent f s).pending = s.pending := by
  unfold noticeSent; (repeat' split) <;> rfl

@[simp] theorem takeLineChange_fs (worse : Bool) (s : State) :
    (takeLineChange worse s).fs = s.fs := by
  unfold takeLineChange; (repeat' split) <;> simp
@[simp] theorem takeLineChange_sv (worse : Bool) (s : State) :
    (takeLineChange worse s).sv = s.sv := by
  unfold takeLineChange; (repeat' split) <;> simp
@[simp] theorem takeLineChange_pp (worse : Bool) (s : State) :
    (takeLineChange worse s).pp = s.pp := by
  unfold takeLineChange; (repeat' split) <;> simp
@[simp] theorem takeLineChange_held (worse : Bool) (s : State) :
    (takeLineChange worse s).held = s.held := by
  unfold takeLineChange; (repeat' split) <;> simp
@[simp] theorem takeLineChange_bp (worse : Bool) (s : State) :
    (takeLineChange worse s).bp = s.bp := by
  unfold takeLineChange; (repeat' split) <;> simp
@[simp] theorem takeLineChange_rc (worse : Bool) (s : State) :
    (takeLineChange worse s).rc = s.rc := by
  unfold takeLineChange; (repeat' split) <;> simp
@[simp] theorem takeLineChange_inp (worse : Bool) (s : State) :
    (takeLineChange worse s).inp = s.inp := by
  unfold takeLineChange; (repeat' split) <;> simp
@[simp] theorem takeLineChange_sc (worse : Bool) (s : State) :
    (takeLineChange worse s).sc = s.sc := by
  unfold takeLineChange; (repeat' split) <;> simp
@[simp] theorem takeLineChange_freeCount (worse : Bool) (s : State) :
    (takeLineChange worse s).freeCount = s.freeCount := by
  unfold takeLineChange; (repeat' split) <;> simp
@[simp] theorem takeLineChange_pending (worse : Bool) (s : State) :
    (takeLineChange worse s).pending = s.pending := by
  unfold takeLineChange; (repeat' split) <;> simp

@[simp] theorem viewEvents_fs (before s : State) :
    (viewEvents before s).fs = s.fs := by
  unfold viewEvents; simp
@[simp] theorem viewEvents_sv (before s : State) :
    (viewEvents before s).sv = s.sv := by
  unfold viewEvents; simp
@[simp] theorem viewEvents_pp (before s : State) :
    (viewEvents before s).pp = s.pp := by
  unfold viewEvents; simp
@[simp] theorem viewEvents_held (before s : State) :
    (viewEvents before s).held = s.held := by
  unfold viewEvents; simp
@[simp] theorem viewEvents_bp (before s : State) :
    (viewEvents before s).bp = s.bp := by
  unfold viewEvents; simp
@[simp] theorem viewEvents_rc (before s : State) :
    (viewEvents before s).rc = s.rc := by
  unfold viewEvents; simp
@[simp] theorem viewEvents_inp (before s : State) :
    (viewEvents before s).inp = s.inp := by
  unfold viewEvents; simp
@[simp] theorem viewEvents_sc (before s : State) :
    (viewEvents before s).sc = s.sc := by
  unfold viewEvents; simp
@[simp] theorem viewEvents_freeCount (before s : State) :
    (viewEvents before s).freeCount = s.freeCount := by
  unfold viewEvents; simp
@[simp] theorem viewEvents_pending (before s : State) :
    (viewEvents before s).pending = s.pending := by
  unfold viewEvents; simp
@[simp] theorem viewEvents_ae (before s : State) :
    (viewEvents before s).ae = s.ae := by
  unfold viewEvents; simp
@[simp] theorem viewEvents_sli (before s : State) :
    (viewEvents before s).sli = s.sli := by
  unfold viewEvents; simp

@[simp] theorem viewChanged_fs (before s : State) :
    (viewChanged before s).fs = s.fs := by
  unfold viewChanged; simp
@[simp] theorem viewChanged_sv (before s : State) :
    (viewChanged before s).sv = s.sv := by
  unfold viewChanged; simp
@[simp] theorem viewChanged_inp (before s : State) :
    (viewChanged before s).inp = s.inp := by
  unfold viewChanged; simp
@[simp] theorem viewChanged_sc (before s : State) :
    (viewChanged before s).sc = s.sc := by
  unfold viewChanged; simp
@[simp] theorem viewChanged_freeCount (before s : State) :
    (viewChanged before s).freeCount = s.freeCount := by
  unfold viewChanged; simp
@[simp] theorem viewChanged_pending (before s : State) :
    (viewChanged before s).pending = s.pending := by
  unfold viewChanged; simp

@[simp] theorem entryArrives_fs (e : Entry) (s : State) :
    (entryArrives e s).fs = s.fs := by
  unfold entryArrives; split <;> simp
@[simp] theorem entryArrives_inp (e : Entry) (s : State) :
    (entryArrives e s).inp = s.inp := by
  unfold entryArrives; split <;> simp
@[simp] theorem entryArrives_sc (e : Entry) (s : State) :
    (entryArrives e s).sc = s.sc := by
  unfold entryArrives; split <;> simp
@[simp] theorem entryArrives_freeCount (e : Entry) (s : State) :
    (entryArrives e s).freeCount = s.freeCount := by
  unfold entryArrives; split <;> simp
@[simp] theorem entryArrives_pending (e : Entry) (s : State) :
    (entryArrives e s).pending = s.pending := by
  unfold entryArrives; split <;> simp

@[simp] theorem entryLeaves_fs (sl : Slot) (s : State) :
    (entryLeaves sl s).fs = s.fs := by
  unfold entryLeaves; split <;> simp
@[simp] theorem entryLeaves_inp (sl : Slot) (s : State) :
    (entryLeaves sl s).inp = s.inp := by
  unfold entryLeaves; split <;> simp
@[simp] theorem entryLeaves_sc (sl : Slot) (s : State) :
    (entryLeaves sl s).sc = s.sc := by
  unfold entryLeaves; split <;> simp
@[simp] theorem entryLeaves_freeCount (sl : Slot) (s : State) :
    (entryLeaves sl s).freeCount = s.freeCount := by
  unfold entryLeaves; split <;> simp
@[simp] theorem entryLeaves_pending (sl : Slot) (s : State) :
    (entryLeaves sl s).pending = s.pending := by
  unfold entryLeaves; split <;> simp

@[simp] theorem deliver_fs (k : NoticeKind) (n : Notice) (s : State) :
    (deliver k n s).fs = s.fs := by
  unfold deliver; (repeat' split) <;> simp
@[simp] theorem deliver_inp (k : NoticeKind) (n : Notice) (s : State) :
    (deliver k n s).inp = s.inp := by
  unfold deliver; (repeat' split) <;> simp
@[simp] theorem deliver_freeCount (k : NoticeKind) (n : Notice) (s : State) :
    (deliver k n s).freeCount = s.freeCount := by
  unfold deliver; (repeat' split) <;> simp
@[simp] theorem deliver_pending (k : NoticeKind) (n : Notice) (s : State) :
    (deliver k n s).pending = s.pending := by
  unfold deliver; (repeat' split) <;> simp

@[simp] theorem receiveValid_fs (k : NoticeKind) (n : Notice) (s : State) :
    (receiveValid k n s).fs = s.fs := by
  unfold receiveValid; split <;> simp
@[simp] theorem receiveValid_inp (k : NoticeKind) (n : Notice) (s : State) :
    (receiveValid k n s).inp = s.inp := by
  unfold receiveValid; split <;> simp
@[simp] theorem receiveValid_freeCount (k : NoticeKind) (n : Notice) (s : State) :
    (receiveValid k n s).freeCount = s.freeCount := by
  unfold receiveValid; split <;> simp
@[simp] theorem receiveValid_pending (k : NoticeKind) (n : Notice) (s : State) :
    (receiveValid k n s).pending = s.pending := by
  unfold receiveValid; split <;> simp

@[simp] theorem receiveBits_fs (bits : BitVec 64) (endRecessive : Bool) (s : State) :
    (receiveBits bits endRecessive s).fs = s.fs := by
  unfold receiveBits; (repeat' split) <;> simp
@[simp] theorem receiveBits_inp (bits : BitVec 64) (endRecessive : Bool) (s : State) :
    (receiveBits bits endRecessive s).inp = s.inp := by
  unfold receiveBits; (repeat' split) <;> simp
@[simp] theorem receiveBits_freeCount (bits : BitVec 64) (endRecessive : Bool) (s : State) :
    (receiveBits bits endRecessive s).freeCount = s.freeCount := by
  unfold receiveBits; (repeat' split) <;> simp
@[simp] theorem receiveBits_pending (bits : BitVec 64) (endRecessive : Bool) (s : State) :
    (receiveBits bits endRecessive s).pending = s.pending := by
  unfold receiveBits; (repeat' split) <;> simp

@[simp] theorem winBid_fs (p : ProfileData) (level : PowerLevel) (iSet resv : Nat) (s : State) :
    (winBid p level iSet resv s).fs = s.fs := by
  unfold winBid; simp
@[simp] theorem winBid_sv (p : ProfileData) (level : PowerLevel) (iSet resv : Nat) (s : State) :
    (winBid p level iSet resv s).sv = s.sv := by
  unfold winBid; simp
@[simp] theorem winBid_held (p : ProfileData) (level : PowerLevel) (iSet resv : Nat) (s : State) :
    (winBid p level iSet resv s).held = s.held := by
  unfold winBid; simp
@[simp] theorem winBid_bp (p : ProfileData) (level : PowerLevel) (iSet resv : Nat) (s : State) :
    (winBid p level iSet resv s).bp = s.bp := by
  unfold winBid; simp
@[simp] theorem winBid_rc (p : ProfileData) (level : PowerLevel) (iSet resv : Nat) (s : State) :
    (winBid p level iSet resv s).rc = s.rc := by
  unfold winBid; simp
@[simp] theorem winBid_inp (p : ProfileData) (level : PowerLevel) (iSet resv : Nat) (s : State) :
    (winBid p level iSet resv s).inp = s.inp := by
  unfold winBid; simp
@[simp] theorem winBid_sc (p : ProfileData) (level : PowerLevel) (iSet resv : Nat) (s : State) :
    (winBid p level iSet resv s).sc = s.sc := by
  unfold winBid; simp
@[simp] theorem winBid_freeCount (p : ProfileData) (level : PowerLevel) (iSet resv : Nat) (s : State) :
    (winBid p level iSet resv s).freeCount = s.freeCount := by
  unfold winBid; simp
@[simp] theorem winBid_pending (p : ProfileData) (level : PowerLevel) (iSet resv : Nat) (s : State) :
    (winBid p level iSet resv s).pending = s.pending := by
  unfold winBid; simp

@[simp] theorem resolveBid_fs (s : State) :
    (resolveBid s).fs = s.fs := by
  unfold resolveBid; (repeat' split) <;> simp
@[simp] theorem resolveBid_sv (s : State) :
    (resolveBid s).sv = s.sv := by
  unfold resolveBid; (repeat' split) <;> simp
@[simp] theorem resolveBid_held (s : State) :
    (resolveBid s).held = s.held := by
  unfold resolveBid; (repeat' split) <;> simp
@[simp] theorem resolveBid_bp (s : State) :
    (resolveBid s).bp = s.bp := by
  unfold resolveBid; (repeat' split) <;> simp
@[simp] theorem resolveBid_rc (s : State) :
    (resolveBid s).rc = s.rc := by
  unfold resolveBid; (repeat' split) <;> simp
@[simp] theorem resolveBid_inp (s : State) :
    (resolveBid s).inp = s.inp := by
  unfold resolveBid; (repeat' split) <;> simp
@[simp] theorem resolveBid_sc (s : State) :
    (resolveBid s).sc = s.sc := by
  unfold resolveBid; (repeat' split) <;> simp
@[simp] theorem resolveBid_freeCount (s : State) :
    (resolveBid s).freeCount = s.freeCount := by
  unfold resolveBid; (repeat' split) <;> simp
@[simp] theorem resolveBid_pending (s : State) :
    (resolveBid s).pending = s.pending := by
  unfold resolveBid; (repeat' split) <;> simp

@[simp] theorem resolveUpgrade_fs (s : State) :
    (resolveUpgrade s).fs = s.fs := by
  unfold resolveUpgrade; (repeat' split) <;> simp
@[simp] theorem resolveUpgrade_sv (s : State) :
    (resolveUpgrade s).sv = s.sv := by
  unfold resolveUpgrade; (repeat' split) <;> simp
@[simp] theorem resolveUpgrade_inp (s : State) :
    (resolveUpgrade s).inp = s.inp := by
  unfold resolveUpgrade; (repeat' split) <;> simp
@[simp] theorem resolveUpgrade_sc (s : State) :
    (resolveUpgrade s).sc = s.sc := by
  unfold resolveUpgrade; (repeat' split) <;> simp
@[simp] theorem resolveUpgrade_freeCount (s : State) :
    (resolveUpgrade s).freeCount = s.freeCount := by
  unfold resolveUpgrade; (repeat' split) <;> simp
@[simp] theorem resolveUpgrade_pending (s : State) :
    (resolveUpgrade s).pending = s.pending := by
  unfold resolveUpgrade; (repeat' split) <;> simp

@[simp] theorem takeClosing_fs (s : State) :
    (takeClosing s).fs = s.fs := by
  unfold takeClosing; (repeat' split) <;> simp
@[simp] theorem takeClosing_sv (s : State) :
    (takeClosing s).sv = s.sv := by
  unfold takeClosing; (repeat' split) <;> simp
@[simp] theorem takeClosing_inp (s : State) :
    (takeClosing s).inp = s.inp := by
  unfold takeClosing; (repeat' split) <;> simp
@[simp] theorem takeClosing_sc (s : State) :
    (takeClosing s).sc = s.sc := by
  unfold takeClosing; (repeat' split) <;> simp
@[simp] theorem takeClosing_freeCount (s : State) :
    (takeClosing s).freeCount = s.freeCount := by
  unfold takeClosing; (repeat' split) <;> simp
@[simp] theorem takeClosing_pending (s : State) :
    (takeClosing s).pending = s.pending := by
  unfold takeClosing; (repeat' split) <;> simp

@[simp] theorem clearFault_fs (before s : State) :
    (clearFault before s).fs = s.fs := by
  unfold clearFault; split <;> simp
@[simp] theorem clearFault_sv (before s : State) :
    (clearFault before s).sv = s.sv := by
  unfold clearFault; split <;> simp
@[simp] theorem clearFault_pp (before s : State) :
    (clearFault before s).pp = s.pp := by
  unfold clearFault; split <;> simp
@[simp] theorem clearFault_held (before s : State) :
    (clearFault before s).held = s.held := by
  unfold clearFault; split <;> simp
@[simp] theorem clearFault_bp (before s : State) :
    (clearFault before s).bp = s.bp := by
  unfold clearFault; split <;> simp
@[simp] theorem clearFault_rc (before s : State) :
    (clearFault before s).rc = s.rc := by
  unfold clearFault; split <;> simp
@[simp] theorem clearFault_inp (before s : State) :
    (clearFault before s).inp = s.inp := by
  unfold clearFault; split <;> simp
@[simp] theorem clearFault_sc (before s : State) :
    (clearFault before s).sc = s.sc := by
  unfold clearFault; split <;> simp
@[simp] theorem clearFault_freeCount (before s : State) :
    (clearFault before s).freeCount = s.freeCount := by
  unfold clearFault; split <;> simp
@[simp] theorem clearFault_pending (before s : State) :
    (clearFault before s).pending = s.pending := by
  unfold clearFault; split <;> simp

@[simp] theorem forceOffStarting_fs (s : State) :
    (forceOffStarting s).fs = s.fs := by
  unfold forceOffStarting; simp
@[simp] theorem forceOffStarting_sv (s : State) :
    (forceOffStarting s).sv = s.sv := by
  unfold forceOffStarting; simp
@[simp] theorem forceOffStarting_inp (s : State) :
    (forceOffStarting s).inp = s.inp := by
  unfold forceOffStarting; simp
@[simp] theorem forceOffStarting_freeCount (s : State) :
    (forceOffStarting s).freeCount = s.freeCount := by
  unfold forceOffStarting; simp
@[simp] theorem forceOffStarting_pending (s : State) :
    (forceOffStarting s).pending = s.pending := by
  unfold forceOffStarting; simp
@[simp] theorem forceOffStarting_sli (s : State) :
    (forceOffStarting s).sli = s.sli := by
  unfold forceOffStarting; simp

@[simp] theorem forceOffRunning_fs (s : State) :
    (forceOffRunning s).fs = s.fs := by
  unfold forceOffRunning; simp
@[simp] theorem forceOffRunning_sv (s : State) :
    (forceOffRunning s).sv = s.sv := by
  unfold forceOffRunning; simp
@[simp] theorem forceOffRunning_inp (s : State) :
    (forceOffRunning s).inp = s.inp := by
  unfold forceOffRunning; simp
@[simp] theorem forceOffRunning_sc (s : State) :
    (forceOffRunning s).sc = s.sc := by
  unfold forceOffRunning; simp
@[simp] theorem forceOffRunning_freeCount (s : State) :
    (forceOffRunning s).freeCount = s.freeCount := by
  unfold forceOffRunning; simp
@[simp] theorem forceOffRunning_pending (s : State) :
    (forceOffRunning s).pending = s.pending := by
  unfold forceOffRunning; simp

@[simp] theorem stopLoading_fs (cause : FaultCause) (s : State) :
    (stopLoading cause s).fs = s.fs := by
  unfold stopLoading; simp
@[simp] theorem stopLoading_sv (cause : FaultCause) (s : State) :
    (stopLoading cause s).sv = s.sv := by
  unfold stopLoading; simp
@[simp] theorem stopLoading_inp (cause : FaultCause) (s : State) :
    (stopLoading cause s).inp = s.inp := by
  unfold stopLoading; simp
@[simp] theorem stopLoading_freeCount (cause : FaultCause) (s : State) :
    (stopLoading cause s).freeCount = s.freeCount := by
  unfold stopLoading; simp
@[simp] theorem stopLoading_pending (cause : FaultCause) (s : State) :
    (stopLoading cause s).pending = s.pending := by
  unfold stopLoading; simp
@[simp] theorem stopLoading_sli (cause : FaultCause) (s : State) :
    (stopLoading cause s).sli = s.sli := by
  unfold stopLoading; simp

@[simp] theorem stopProfileBad_fs (sub : LoadSubcause) (s : State) :
    (stopProfileBad sub s).fs = s.fs := by
  unfold stopProfileBad; simp
@[simp] theorem stopProfileBad_sv (sub : LoadSubcause) (s : State) :
    (stopProfileBad sub s).sv = s.sv := by
  unfold stopProfileBad; simp
@[simp] theorem stopProfileBad_inp (sub : LoadSubcause) (s : State) :
    (stopProfileBad sub s).inp = s.inp := by
  unfold stopProfileBad; simp
@[simp] theorem stopProfileBad_freeCount (sub : LoadSubcause) (s : State) :
    (stopProfileBad sub s).freeCount = s.freeCount := by
  unfold stopProfileBad; simp
@[simp] theorem stopProfileBad_pending (sub : LoadSubcause) (s : State) :
    (stopProfileBad sub s).pending = s.pending := by
  unfold stopProfileBad; simp
@[simp] theorem stopProfileBad_sli (sub : LoadSubcause) (s : State) :
    (stopProfileBad sub s).sli = s.sli := by
  unfold stopProfileBad; simp

@[simp] theorem beginAttempt_fs (pmSdaLow : Bool) (s : State) :
    (beginAttempt pmSdaLow s).fs = s.fs := by
  unfold beginAttempt; split <;> simp
@[simp] theorem beginAttempt_sv (pmSdaLow : Bool) (s : State) :
    (beginAttempt pmSdaLow s).sv = s.sv := by
  unfold beginAttempt; split <;> simp
@[simp] theorem beginAttempt_inp (pmSdaLow : Bool) (s : State) :
    (beginAttempt pmSdaLow s).inp = s.inp := by
  unfold beginAttempt; split <;> simp
@[simp] theorem beginAttempt_freeCount (pmSdaLow : Bool) (s : State) :
    (beginAttempt pmSdaLow s).freeCount = s.freeCount := by
  unfold beginAttempt; split <;> simp
@[simp] theorem beginAttempt_pending (pmSdaLow : Bool) (s : State) :
    (beginAttempt pmSdaLow s).pending = s.pending := by
  unfold beginAttempt; split <;> simp
@[simp] theorem beginAttempt_sli (pmSdaLow : Bool) (s : State) :
    (beginAttempt pmSdaLow s).sli = s.sli := by
  unfold beginAttempt; split <;> simp

@[simp] theorem failLoad_fs (sub : LoadSubcause) (pmSdaLow : Bool) (s : State) :
    (failLoad sub pmSdaLow s).fs = s.fs := by
  unfold failLoad; split <;> simp
@[simp] theorem failLoad_sv (sub : LoadSubcause) (pmSdaLow : Bool) (s : State) :
    (failLoad sub pmSdaLow s).sv = s.sv := by
  unfold failLoad; split <;> simp
@[simp] theorem failLoad_inp (sub : LoadSubcause) (pmSdaLow : Bool) (s : State) :
    (failLoad sub pmSdaLow s).inp = s.inp := by
  unfold failLoad; split <;> simp
@[simp] theorem failLoad_freeCount (sub : LoadSubcause) (pmSdaLow : Bool) (s : State) :
    (failLoad sub pmSdaLow s).freeCount = s.freeCount := by
  unfold failLoad; split <;> simp
@[simp] theorem failLoad_pending (sub : LoadSubcause) (pmSdaLow : Bool) (s : State) :
    (failLoad sub pmSdaLow s).pending = s.pending := by
  unfold failLoad; split <;> simp
@[simp] theorem failLoad_sli (sub : LoadSubcause) (pmSdaLow : Bool) (s : State) :
    (failLoad sub pmSdaLow s).sli = s.sli := by
  unfold failLoad; split <;> simp

@[simp] theorem enterLoading_fs (st : Straps) (s : State) :
    (enterLoading st s).fs = s.fs := by
  unfold enterLoading; split <;> simp
@[simp] theorem enterLoading_sv (st : Straps) (s : State) :
    (enterLoading st s).sv = s.sv := by
  unfold enterLoading; split <;> simp
@[simp] theorem enterLoading_inp (st : Straps) (s : State) :
    (enterLoading st s).inp = s.inp := by
  unfold enterLoading; split <;> simp
@[simp] theorem enterLoading_freeCount (st : Straps) (s : State) :
    (enterLoading st s).freeCount = s.freeCount := by
  unfold enterLoading; split <;> simp
@[simp] theorem enterLoading_pending (st : Straps) (s : State) :
    (enterLoading st s).pending = s.pending := by
  unfold enterLoading; split <;> simp
@[simp] theorem enterLoading_sli (st : Straps) (s : State) :
    (enterLoading st s).sli = s.sli := by
  unfold enterLoading; split <;> simp

@[simp] theorem completeLoading_fs (p : ProfileData) (clamped : Bool) (s : State) :
    (completeLoading p clamped s).fs = s.fs := by
  unfold completeLoading; simp
@[simp] theorem completeLoading_held (p : ProfileData) (clamped : Bool) (s : State) :
    (completeLoading p clamped s).held = s.held := by
  unfold completeLoading; simp
@[simp] theorem completeLoading_bp (p : ProfileData) (clamped : Bool) (s : State) :
    (completeLoading p clamped s).bp = s.bp := by
  unfold completeLoading; simp
@[simp] theorem completeLoading_rc (p : ProfileData) (clamped : Bool) (s : State) :
    (completeLoading p clamped s).rc = s.rc := by
  unfold completeLoading; simp
@[simp] theorem completeLoading_inp (p : ProfileData) (clamped : Bool) (s : State) :
    (completeLoading p clamped s).inp = s.inp := by
  unfold completeLoading; simp
@[simp] theorem completeLoading_freeCount (p : ProfileData) (clamped : Bool) (s : State) :
    (completeLoading p clamped s).freeCount = s.freeCount := by
  unfold completeLoading; simp
@[simp] theorem completeLoading_pending (p : ProfileData) (clamped : Bool) (s : State) :
    (completeLoading p clamped s).pending = s.pending := by
  unfold completeLoading; simp
@[simp] theorem completeLoading_sli (p : ProfileData) (clamped : Bool) (s : State) :
    (completeLoading p clamped s).sli = s.sli := by
  unfold completeLoading; simp

@[simp] theorem reconcile_fs (s : State) :
    (reconcile s).fs = s.fs := by
  unfold reconcile; (repeat' split) <;> simp
@[simp] theorem reconcile_sv (s : State) :
    (reconcile s).sv = s.sv := by
  unfold reconcile; (repeat' split) <;> simp
@[simp] theorem reconcile_inp (s : State) :
    (reconcile s).inp = s.inp := by
  unfold reconcile; (repeat' split) <;> simp
@[simp] theorem reconcile_sc (s : State) :
    (reconcile s).sc = s.sc := by
  unfold reconcile; (repeat' split) <;> simp
@[simp] theorem reconcile_freeCount (s : State) :
    (reconcile s).freeCount = s.freeCount := by
  unfold reconcile; (repeat' split) <;> simp
@[simp] theorem reconcile_pending (s : State) :
    (reconcile s).pending = s.pending := by
  unfold reconcile; (repeat' split) <;> simp

@[simp] theorem takeStandingTrip_fs (s : State) :
    (takeStandingTrip s).fs = s.fs := by
  unfold takeStandingTrip; simp
@[simp] theorem takeStandingTrip_sv (s : State) :
    (takeStandingTrip s).sv = s.sv := by
  unfold takeStandingTrip; simp
@[simp] theorem takeStandingTrip_held (s : State) :
    (takeStandingTrip s).held = s.held := by
  unfold takeStandingTrip; simp
@[simp] theorem takeStandingTrip_bp (s : State) :
    (takeStandingTrip s).bp = s.bp := by
  unfold takeStandingTrip; simp
@[simp] theorem takeStandingTrip_rc (s : State) :
    (takeStandingTrip s).rc = s.rc := by
  unfold takeStandingTrip; simp
@[simp] theorem takeStandingTrip_inp (s : State) :
    (takeStandingTrip s).inp = s.inp := by
  unfold takeStandingTrip; simp
@[simp] theorem takeStandingTrip_sc (s : State) :
    (takeStandingTrip s).sc = s.sc := by
  unfold takeStandingTrip; simp
@[simp] theorem takeStandingTrip_freeCount (s : State) :
    (takeStandingTrip s).freeCount = s.freeCount := by
  unfold takeStandingTrip; simp
@[simp] theorem takeStandingTrip_pending (s : State) :
    (takeStandingTrip s).pending = s.pending := by
  unfold takeStandingTrip; simp

@[simp] theorem takeForcedOff_fs (s : State) :
    (takeForcedOff s).fs = s.fs := by
  unfold takeForcedOff; split <;> simp
@[simp] theorem takeForcedOff_sv (s : State) :
    (takeForcedOff s).sv = s.sv := by
  unfold takeForcedOff; split <;> simp
@[simp] theorem takeForcedOff_pp (s : State) :
    (takeForcedOff s).pp = s.pp := by
  unfold takeForcedOff; split <;> simp
@[simp] theorem takeForcedOff_held (s : State) :
    (takeForcedOff s).held = s.held := by
  unfold takeForcedOff; split <;> simp
@[simp] theorem takeForcedOff_bp (s : State) :
    (takeForcedOff s).bp = s.bp := by
  unfold takeForcedOff; split <;> simp
@[simp] theorem takeForcedOff_rc (s : State) :
    (takeForcedOff s).rc = s.rc := by
  unfold takeForcedOff; split <;> simp
@[simp] theorem takeForcedOff_inp (s : State) :
    (takeForcedOff s).inp = s.inp := by
  unfold takeForcedOff; split <;> simp
@[simp] theorem takeForcedOff_freeCount (s : State) :
    (takeForcedOff s).freeCount = s.freeCount := by
  unfold takeForcedOff; split <;> simp
@[simp] theorem takeForcedOff_pending (s : State) :
    (takeForcedOff s).pending = s.pending := by
  unfold takeForcedOff; split <;> simp

@[simp] theorem firstState_fs (s : State) :
    (firstState s).fs = s.fs := by
  unfold firstState; (repeat' split) <;> simp
@[simp] theorem firstState_sv (s : State) :
    (firstState s).sv = s.sv := by
  unfold firstState; (repeat' split) <;> simp
@[simp] theorem firstState_inp (s : State) :
    (firstState s).inp = s.inp := by
  unfold firstState; (repeat' split) <;> simp
@[simp] theorem firstState_freeCount (s : State) :
    (firstState s).freeCount = s.freeCount := by
  unfold firstState; (repeat' split) <;> simp
@[simp] theorem firstState_pending (s : State) :
    (firstState s).pending = s.pending := by
  unfold firstState; (repeat' split) <;> simp

@[simp] theorem firstLatchRule_fs (s : State) :
    (firstLatchRule s).fs = s.fs := by
  unfold firstLatchRule; split <;> simp
@[simp] theorem firstLatchRule_sv (s : State) :
    (firstLatchRule s).sv = s.sv := by
  unfold firstLatchRule; split <;> simp
@[simp] theorem firstLatchRule_inp (s : State) :
    (firstLatchRule s).inp = s.inp := by
  unfold firstLatchRule; split <;> simp
@[simp] theorem firstLatchRule_sc (s : State) :
    (firstLatchRule s).sc = s.sc := by
  unfold firstLatchRule; split <;> simp
@[simp] theorem firstLatchRule_freeCount (s : State) :
    (firstLatchRule s).freeCount = s.freeCount := by
  unfold firstLatchRule; split <;> simp
@[simp] theorem firstLatchRule_pending (s : State) :
    (firstLatchRule s).pending = s.pending := by
  unfold firstLatchRule; split <;> simp

@[simp] theorem finishRelearn_fs (s : State) :
    (finishRelearn s).fs = s.fs := by
  unfold finishRelearn; simp
@[simp] theorem finishRelearn_sv (s : State) :
    (finishRelearn s).sv = s.sv := by
  unfold finishRelearn; simp
@[simp] theorem finishRelearn_inp (s : State) :
    (finishRelearn s).inp = s.inp := by
  unfold finishRelearn; simp
@[simp] theorem finishRelearn_freeCount (s : State) :
    (finishRelearn s).freeCount = s.freeCount := by
  unfold finishRelearn; simp
@[simp] theorem finishRelearn_pending (s : State) :
    (finishRelearn s).pending = s.pending := by
  unfold finishRelearn; simp

@[simp] theorem unseat_fs (s : State) :
    (unseat s).fs = s.fs := by
  unfold unseat; simp
@[simp] theorem unseat_inp (s : State) :
    (unseat s).inp = s.inp := by
  unfold unseat; simp
@[simp] theorem unseat_freeCount (s : State) :
    (unseat s).freeCount = s.freeCount := by
  unfold unseat; simp
@[simp] theorem unseat_pending (s : State) :
    (unseat s).pending = s.pending := by
  unfold unseat; simp
@[simp] theorem unseat_lpi (s : State) :
    (unseat s).lpi = s.lpi := by
  unfold unseat; simp

end Sys2Proof.Machine
end

