-- ==== Sys2Proof/Laws/Ops.lean ====
section
/-! SUPPORT. One lemma per shared operation that says what it does: the flags, the view's table, the queue, reception, ageing, the
bytes written to the port, the settling of an event, the opening of the path, the bid and the precharge. -/

namespace Sys2Proof.Machine

/-! ## Flags -/

theorem flagSet_raise_self (f : EventFlag) (s : State) : flagSet f (raise f s) = true := by
  cases f <;> simp [flagSet, raise, flagWord, flagBit]

theorem flagSet_raise_of_flagSet (f g : EventFlag) (s : State) (h : flagSet f s = true) : flagSet f (raise g s) = true := by
  simp only [flagSet, raise, BitVec.getLsbD_or] at *
  simp [h]

theorem raiseIf_true (f : EventFlag) (s : State) : raiseIf true f s = raise f s := rfl

theorem raiseIf_false (f : EventFlag) (s : State) : raiseIf false f s = s := rfl

/-! ## The view's table -/

theorem lookup_nil (sl : Slot) : lookup [] sl = none := rfl

theorem lookup_cons (x : Entry) (t : List Entry) (sl : Slot) :
    lookup (x :: t) sl = if x.slot = sl then some x else lookup t sl := by
  by_cases h : x.slot = sl <;> simp [lookup, h]

/-- Read after write: the entry written is the one found. -/
theorem lookup_insertEntry_self (e : Entry) (t : List Entry) : lookup (insertEntry e t) e.slot = some e := by
  induction t with
  | nil => simp [insertEntry, lookup_cons]
  | cons x xs ih =>
    unfold insertEntry
    split
    · simp [lookup_cons]
    · split
      · simp [lookup_cons]
      · rename_i _ h
        rw [lookup_cons, if_neg (fun h' => h h'.symm), ih]

/-- A write leaves every other slot's entry alone. -/
theorem lookup_insertEntry_ne (e : Entry) (t : List Entry) (sl : Slot) (h : sl ≠ e.slot) :
    lookup (insertEntry e t) sl = lookup t sl := by
  induction t with
  | nil => simp [insertEntry, lookup_cons, lookup_nil, Ne.symm h]
  | cons x xs ih =>
    unfold insertEntry
    split
    · rw [lookup_cons, if_neg (Ne.symm h)]
    · split
      · rename_i hx
        rw [lookup_cons, if_neg (Ne.symm h), lookup_cons, if_neg (hx ▸ Ne.symm h)]
      · rw [lookup_cons, lookup_cons, ih]

theorem lookup_removeEntry_self (sl : Slot) (t : List Entry) : lookup (removeEntry sl t) sl = none := by
  induction t with
  | nil => rfl
  | cons x xs ih =>
    simp only [removeEntry, List.filter_cons] at *
    by_cases h : x.slot = sl
    · simpa [h] using ih
    · simpa [h, lookup_cons] using ih

theorem lookup_removeEntry_ne (sl sl' : Slot) (t : List Entry) (h : sl' ≠ sl) :
    lookup (removeEntry sl t) sl' = lookup t sl' := by
  induction t with
  | nil => rfl
  | cons x xs ih =>
    simp only [removeEntry, List.filter_cons] at *
    by_cases hx : x.slot = sl
    · simpa [hx, lookup_cons, Ne.symm h] using ih
    · simp [hx, lookup_cons]
      split
      · rfl
      · simpa using ih

theorem mem_insertEntry (e y : Entry) (t : List Entry) (h : y ∈ insertEntry e t) : y = e ∨ y ∈ t := by
  induction t with
  | nil => simpa [insertEntry] using h
  | cons x xs ih =>
    unfold insertEntry at h
    split at h
    · simpa using h
    · split at h
      · simp only [List.mem_cons] at h ⊢
        tauto
      · simp only [List.mem_cons] at h ⊢
        rcases h with h | h
        · tauto
        · rcases ih h with h | h <;> tauto

/-- The ascending form as an ordering of every pair of places. -/
theorem ascending_iff (t : List Entry) : ascending t = true ↔ t.Pairwise (fun x y => x.slot < y.slot) := by
  induction t with
  | nil => simp [ascending]
  | cons x xs ih =>
    cases xs with
    | nil => simp [ascending]
    | cons y ys =>
      rw [ascending, Bool.and_eq_true, decide_eq_true_iff, ih, List.pairwise_cons (a := x)]
      constructor
      · rintro ⟨hxy, hp⟩
        refine ⟨fun z hz => ?_, hp⟩
        rcases List.mem_cons.1 hz with rfl | hz
        · exact hxy
        · exact lt_trans hxy ((List.pairwise_cons.1 hp).1 z hz)
      · rintro ⟨hall, hp⟩
        exact ⟨hall y (by simp), hp⟩

/-- Every write of an entry keeps the table's form. -/
theorem ascending_insertEntry (e : Entry) (t : List Entry) (h : ascending t = true) : ascending (insertEntry e t) = true := by
  rw [ascending_iff] at *
  induction t with
  | nil => simp [insertEntry]
  | cons x xs ih =>
    obtain ⟨hx, hp⟩ := List.pairwise_cons.1 h
    unfold insertEntry
    split
    · rename_i hlt
      refine List.pairwise_cons.2 ⟨fun z hz => ?_, h⟩
      rcases List.mem_cons.1 hz with rfl | hz
      · exact hlt
      · exact lt_trans hlt (hx z hz)
    · split
      · rename_i heq
        exact List.pairwise_cons.2 ⟨fun z hz => heq ▸ hx z hz, hp⟩
      · rename_i hn hne
        refine List.pairwise_cons.2 ⟨fun z hz => ?_, ih hp⟩
        rcases mem_insertEntry e z xs hz with rfl | hz
        · exact lt_of_le_of_ne (not_lt.1 hn) (fun h' => hne h'.symm)
        · exact hx z hz

/-- Every removal of an entry keeps the table's form. -/
theorem ascending_removeEntry (sl : Slot) (t : List Entry) (h : ascending t = true) :
    ascending (removeEntry sl t) = true := by
  rw [ascending_iff] at *
  exact h.filter _

/-! ## Requests for notices -/

/-- A request in a silent state, or beside a LEAVE, is discarded (R34, R39). -/
theorem requestNotice_discarded (k : NoticeKind) (s : State) (h : silent s = true ∨ leaveUnderway s.sli = true) :
    requestNotice k s = s := by
  rcases h with h | h <;> simp [requestNotice, h]

/-- A request that is not discarded changes the queue alone (R34, R35). -/
theorem requestNotice_taken (k : NoticeKind) (s : State) (h : Requests s) :
    requestNotice k s = { s with sli := { s.sli with queue := queueAfter k s.sli.queue } } := by
  simp [requestNotice, h.1, h.2]

theorem queueAfter_standing (q : List Queued) : queueAfter .standing q = joinTail .standing q := rfl

theorem queueAfter_bid (q : List Queued) : queueAfter .bid q = joinTail .bid q := rfl

theorem isQueued_joinTail_self (k : NoticeKind) (q : List Queued) : isQueued k (joinTail k q) = true := by
  unfold joinTail
  split
  · assumption
  · simp [isQueued]

theorem joinTail_of_queued (k : NoticeKind) (q : List Queued) (h : isQueued k q = true) : joinTail k q = q := by
  simp [joinTail, h]

theorem isQueued_dequeue_self (k : NoticeKind) (q : List Queued) : isQueued k (dequeue k q) = false := by
  simp [isQueued, dequeue]

/-- A notice that joins the tail has not waited: the head's congestion check moves only with the head (R38). -/
theorem congestionDue_joinTail (k : NoticeKind) (q : List Queued) (h : congestionDue q = false) :
    congestionDue (joinTail k q) = false := by
  unfold joinTail
  split
  · exact h
  · cases q with
    | nil => rfl
    | cons x xs => exact h

/-- What an announcement does (R41, R76): nothing where the announced phase is the same or the station is silent; else PHASE and a
prompt STANDING. -/
theorem announceFrom_cases (before after : State) :
    announceFrom before after = after
      ∨ announceFrom before after = requestNotice .standing (raise .phase after) := by
  unfold announceFrom
  split
  · split
    · exact .inl rfl
    · exact .inr rfl
  · exact .inl rfl

/-! ## Reception -/

/-- A line that is neither BUSY nor past a completed gap carries no frame this station receives (R23). -/
theorem receives_gap_incomplete (l : LineInterface) (hi : l.line = .idle) (hd : l.deaf = false) (hg : l.gap < gapBits) :
    receives l = false ∧ frameEnds l = l := by
  have h : listens l = false := by simp [listens, frameStands, hi, hd, hg]
  simp [receives, frameEnds, h]

/-- A STUCK line delivers nothing (R25). -/
theorem receives_stuck (l : LineInterface) (h : l.line = .stuck) : receives l = false ∧ frameEnds l = l := by
  simp [receives, frameEnds, listens, h]

/-- With a notice in flight the station receives its own frame alone (R29). -/
theorem receives_inFlight (l : LineInterface) (h : l.inFlight.isSome = true) : receives l = false ∧ frameEnds l = l := by
  cases hf : l.inFlight <;> simp_all [receives, frameEnds, listens]

/-- What is received ends its frame (R23). -/
theorem frameEnds_of_receives (l : LineInterface) (h : receives l = true) : frameEnds l = endFrame l := by
  simp only [receives, Bool.and_eq_true] at h
  simp [frameEnds, h.1]

/-! ## Ageing -/

@[simp] theorem staleEntry_slot (e : Entry) : (staleEntry e).slot = e.slot := rfl
@[simp] theorem staleEntry_age (e : Entry) : (staleEntry e).age = e.age := rfl
@[simp] theorem staleEntry_stale (e : Entry) : (staleEntry e).stale = true := rfl
@[simp] theorem olderEntry_slot (e : Entry) : (olderEntry e).slot = e.slot := rfl
@[simp] theorem laterNotice_kind (q : Queued) : (laterNotice q).kind = q.kind := rfl
@[simp] theorem laterInFlight_kind (f : InFlight) : (laterInFlight f).kind = f.kind := rfl
@[simp] theorem laterInFlight_dropped (f : InFlight) : (laterInFlight f).dropped = f.dropped := rfl
@[simp] theorem laterInFlight_contents (f : InFlight) : (laterInFlight f).contents = f.contents := rfl

/-- A notice that returns has the request time it left with: the millisecond passes for it in flight as in the queue (R36, R38). -/
theorem returned_laterInFlight (f : InFlight) (q : List Queued) (hd : f.dropped = false) (hl : isQueued .leave q = false)
    (hy : ¬(f.kind = .bid ∧ isQueued .yield q = true)) :
    queueAfterReturn (laterInFlight f) q
      = laterNotice { kind := f.kind, waited := f.waited, congested := f.congested } :: dequeue f.kind q := by
  simp [queueAfterReturn, laterInFlight, laterNotice, hd, hl]
  exact fun hk hq => absurd ⟨hk, hq⟩ hy

/-! ## Bytes written to the local port -/

theorem portTakes_addressed (o : Byte) (s : State) : portTakes .addressed o s = true := rfl

theorem writeByte_addressed (v o : Byte) (effect : State → State) (s : State) :
    writeByte { value := v, via := .addressed } o effect s = effect s := rfl

/-- A following byte is the register's where a write transaction is in progress at its offset (R172). -/
theorem writeByte_following (v o : Byte) (effect : State → State) (s : State)
    (ht : s.lpi.transaction = .writing) (ho : s.lpi.offset = o) :
    writeByte { value := v, via := .following } o effect s = effect s := by
  simp [writeByte, portTakes, ht, ho]

/-- With no write transaction in progress, as after a restart, a following byte is discarded (R179). -/
theorem writeByte_discarded (v o : Byte) (effect : State → State) (s : State) (h : s.lpi.transaction ≠ .writing) :
    writeByte { value := v, via := .following } o effect s = s := by
  simp [writeByte, portTakes, h]

/-! ## The end of an event -/

theorem settleLamp_same (before after : State) (h : lampPattern before = lampPattern after) :
    settleLamp before after = after := by simp [settleLamp, h]

theorem settleCongestion_of_not_due (s : State) (h : congestionDue s.sli.queue = false) : settleCongestion s = s := by
  unfold settleCongestion
  unfold congestionDue at h
  split
  · rename_i x rest hq
    rw [hq] at h
    simp only at h
    rw [if_neg]
    simpa using h
  · rfl

theorem standingDue_self (s : State) : standingDue s s = false := by simp [standingDue]

/-- An event that changes nothing settles to the state it found, where nothing was left over. -/
theorem settle_self (s : State) (h : Settled s) : settle s s = s := by
  have hp : settlePeriodic s s = s := by
    unfold settlePeriodic
    split
    · rename_i hs
      have hn := h.1 hs
      cases s with
      | mk fs sli => cases sli; simp_all
    · rfl
  simp [settle, standingDue_self, hp, settleCongestion_of_not_due s h.2, settleLamp_same]

/-- An event that changes neither what is announced of the own record, nor the silence, nor the lamp, and leaves no head notice
waiting for its LINE event, ends as its body left it. -/
theorem settle_of_unannounced (before after : State) (hd : standingDue before after = false)
    (hs : silent before = silent after) (hp : silent after = true → after.sli.periodic = none)
    (hc : congestionDue after.sli.queue = false) (hl : lampPattern before = lampPattern after) :
    settle before after = after := by
  have h1 : settlePeriodic before after = after := by
    unfold settlePeriodic
    split
    · rename_i h
      have hn := hp h
      cases after with
      | mk fs sli => cases sli; simp_all
    · split
      · rename_i h1 h2
        rw [hs] at h2
        exact absurd h2 h1
      · rfl
  simp [settle, hd, h1, settleCongestion_of_not_due after hc, settleLamp_same before after hl]

/-! ## The opening of the path -/

/-- An opening with a gate on (R112): both gates off, every held output deasserted, the program over, the retire's waiting over. -/
theorem openGates_of_gateOn (target : PathState) (s : State) (h : gateOn s = true) :
    openGates target s =
      { s with pp := openedPath target s.pp, held := HeldOutputs.deasserted, bp := endedProgram s.bp, rc := openedRetire s.rc,
               ae := openedRecord s.ae } := by simp [openGates, h]

/-- An opening that finds both gates off changes nothing (R112). -/
theorem openGates_of_gateOff (target : PathState) (s : State) (h : gateOn s = false) : openGates target s = s := by
  simp [openGates, h]

theorem openedPath_path (target : PathState) (pp : PowerPath) :
    (openedPath target pp).path = if bulkDischarged pp.vBulk then .opened else target := rfl

theorem gateOn_openGates (target : PathState) (s : State) (h : target = .opened ∨ target = .tripped) :
    gateOn (openGates target s) = false := by
  by_cases hg : gateOn s = true
  · rw [openGates_of_gateOn target s hg]
    rcases h with rfl | rfl <;> simp only [gateOn, openedPath] <;> split <;> simp
  · rw [openGates_of_gateOff target s (by simpa using hg)]
    simpa using hg

/-! ## Bids and precharges -/

theorem closeBid_of_none (s : State) (h : s.ae.bid = none) : closeBid s = s := by simp [closeBid, h]

theorem closeBid_of_some (s : State) (h : s.ae.bid.isSome = true) : closeBid s = requestNotice .yield (dropBid s) := by
  simp [closeBid, h]

theorem closeBid_bid (s : State) : (closeBid s).ae.bid = none := by
  unfold closeBid
  split
  · simp [dropBid]
  · rename_i h
    simpa using h

/-- The PRECHARGE command in any path state but OPEN is ignored (R102). -/
theorem commandPrecharge_ignored (iSet deadline : Nat) (s : State) (h : s.pp.path ≠ .opened) :
    commandPrecharge iSet deadline s = s := by simp [commandPrecharge, h]

/-- The PRECHARGE command in OPEN (R102): ramp step 1 at the limit in use for it. -/
theorem commandPrecharge_taken (iSet deadline : Nat) (s : State) (h : s.pp.path = .opened) :
    commandPrecharge iSet deadline s =
      { s with pp := { s.pp with path := .precharge, iSet := iSet, deadline := deadline, ramp := 1, elapsed := 0, half := false,
                                 foldback := false, limit := max (iSet / 8) s.pp.iMin, discharge := none,
                                 discharged := false } } := by
  simp [commandPrecharge, h, limitInUse, rampValue]

/-- The retry rule's count never passes the limit it starts within (R94). -/
theorem retryRecord_count_le (limit : Nat) (c : CountedFault) (ae : OwnRecord) (h : ae.retryCount ≤ limit) :
    (retryRecord limit c ae).retryCount ≤ limit := by
  unfold retryRecord
  split
  · simpa using Nat.succ_le_of_lt ‹_›
  · exact h

end Sys2Proof.Machine
end

