-- ==== Sys2Proof/Tests/Slice0.lean ====
section
/-! SUPPORT. The model's own tests: the smoke of WellFormed, worked values of the manual, one or two steps of each command, and
for every statement with hypotheses a witness that meets them together. -/

namespace Sys2Proof.Tests
open Sys2Proof Sys2Proof.Machine
set_option Elab.async false

/-! ## Helpers -/

/-- The state a command answers. -/
def after (c : Instr) (s : State) : Option State :=
  match exec c s with
  | .next t => some t
  | .fault _ => none
  | .refused _ => none

/-- A command is refused for its operands. -/
def refusedAsIllFormed (c : Instr) (s : State) : Bool :=
  match exec c s with
  | .refused r => decide (r = .illFormed)
  | .fault _ => false
  | .next _ => false

/-- A command answers a next state. -/
def goesOn (c : Instr) (s : State) : Bool := (after c s).isSome

theorem next_of_goesOn (c : Instr) (s : State) (h : goesOn c s = true) : ∃ t, exec c s = .next t := by
  unfold goesOn after at h
  split at h
  · exact ⟨_, ‹_›⟩
  · simp at h
  · simp at h

/-- The step table of chapter 07's worked sequence, as loaded. -/
def sevenSteps : List StepRecord :=
  [ { action := .railOn 0, cond := .powerGood 0, paced := false, dwell := 20, timeout := 50, teardown := 40 },
    { action := .railOn 1, cond := .powerGood 1, paced := false, dwell := 8, timeout := 50, teardown := 20 },
    { action := .attachClock, cond := .always, paced := false, dwell := 4, timeout := 10, teardown := 0 },
    { action := .releaseReset, cond := .ready, paced := false, dwell := 0, timeout := 2000, teardown := 100 },
    { action := .attachLane 0, cond := .always, paced := true, dwell := 12, timeout := 500, teardown := 8 },
    { action := .attachLane 1, cond := .always, paced := true, dwell := 0, timeout := 500, teardown := 8 },
    { action := .note, cond := .ready, paced := false, dwell := 0, timeout := 10, teardown := 0 } ]

/-- The profile of chapter 04's first worked case (rank 38 in slot 6), with those steps and slot 13 for a mate. -/
def prof : ProfileData :=
  { cls := 1, retryLimit := 2, k := 2, pFull := 320, pRed := some 180, vPlan := 400, vSag := 420, f := 400, rsv := 20, u := 10,
    cB := 3300, iMax := 60, iMin := 10, pPk := 200, iTrip := 90, tHandover := 3000, tQuiesce := 2000, mate := some 13,
    steps := sevenSteps, checksum := 0x0E4D }

/-- Its memory image: the header, seven records of which the last repeats RAIL_ON 0, zeros, and the byte sum 0x0E4D. -/
def image : List Byte :=
  [0xC4, 0x60, 0x01, 0x01, 0x02, 0x02, 0x01, 0x40, 0x00, 0xB4, 0x01, 0x90, 0x01, 0xA4, 0x01, 0x90, 0x00, 0x14]
    ++ [0x00, 0x0A, 0x0C, 0xE4, 0x00, 0x3C, 0x00, 0x0A, 0x00, 0xC8, 0x00, 0x5A, 0x0B, 0xB8, 0x07, 0xD0, 0x8D, 0x07]
    ++ [0x10, 0x10, 0x05, 0x00, 0x32, 0x0A] ++ [0x11, 0x11, 0x02, 0x00, 0x32, 0x05] ++ [0x40, 0x00, 0x01, 0x00, 0x0A, 0x00]
    ++ [0x20, 0x20, 0x00, 0x07, 0xD0, 0x19] ++ [0x30, 0x80, 0x03, 0x01, 0xF4, 0x02] ++ [0x31, 0x80, 0x00, 0x01, 0xF4, 0x02]
    ++ [0x10, 0x20, 0x00, 0x00, 0x0A, 0x00] ++ List.replicate 30 0 ++ [0x0E, 0x4D]

/-- GA4..GA0 = 00110 and GAP = 1: three ones. -/
def oddStraps : Straps := { ga := 6, gap := true, pmSdaLow := false }

/-- GA4..GA0 = 00110 and GAP = 0: two ones. -/
def evenStraps : Straps := { ga := 6, gap := false, pmSdaLow := false }

/-- A reset event's readings: both feeds GOOD, the bulk node at 510 dV. -/
def sense : ResetSense := { feedA := 535, feedB := 520, vBulk := 510, iLoad := 40, padr := 2 }

/-- Both feeds GOOD, V_f 535 dV, V_min8 531 dV (chapter 04). -/
def goodFeeds : FeedSupervisor :=
  { a := { sample := 535, state := .good, pending := none, count := 0 },
    b := { sample := 520, state := .good, pending := none, count := 0 },
    vF := 535, window := [535, 535, 531, 535, 535, 535, 535, 535], ride := none, uv := false }

/-- The line IDLE with its gap complete. -/
def quietLine : LineInterface := { LineInterface.reset with gap := 12, gapSeen := true, periodic := some 30 }

/-- A station of that profile, in DONE with an engine state, its path open and discharged, its view open and empty. -/
def station (e : Engine) : State :=
  { State.reset with
    fs := goodFeeds
    sli := quietLine
    sv := { opened := true, table := [] }
    ae := { OwnRecord.reset with engine := e, vC := some 400 }
    pp := { PowerPath.reset with iMin := 10, vSag := 420, iTrip := 90 }
    sc := { StartControl.reset with start := .done, seated := true, slot := some 6, profile := some prof, attempts := 1 } }

/-- That station with its path CLOSED and its program UP. -/
def powered (e : Engine) : State :=
  let s := station e
  { s with
    pp := { s.pp with path := .closed, vBulk := 530, iLoad := 40, discharged := false }
    held := { rails := 3, payRst := false, lanes := 3, clk := true, profFull := false, drain := false, takeover := false }
    bp := { BringUp.reset with prog := .up, pointer := 7, completed := 7 } }

/-- That station in BRINGUP, at a step of a forward run. -/
def stepping (sub : ForwardSub) (n done : Nat) : State :=
  let s := powered .bringup
  { s with held := { HeldOutputs.deasserted with payRst := true }
           bp := { BringUp.reset with prog := .forward, sub := sub, pointer := n, completed := done, stepTimer := some 40 } }

/-- The station before it is seated, in a start state. -/
def starting (st : StartState) : State :=
  { State.reset with fs := goodFeeds, sli := { quietLine with periodic := none },
                     sc := { StartControl.reset with start := st, seated := true } }

/-- The station at an attempt to read its profile. -/
def loading (n : Nat) : State :=
  let s := starting .loading
  { s with sc := { s.sc with slot := some 6, attempts := n, attempt := some 20 } }

/-- The station in RELEARN. -/
def relearning : State :=
  let s := starting .relearn
  { s with sc := { s.sc with slot := some 6, profile := some prof, attempts := 1, relearn := some 0 },
           sv := { opened := true, table := [] }, ae := { OwnRecord.reset with vC := some 400 },
           pp := { PowerPath.reset with iMin := 10, vSag := 420, iTrip := 90 } }

/-- The station in RELEARN with its path kept CLOSED across a restart. -/
def relearningPowered : State :=
  { relearning with
    pp := { relearning.pp with path := .closed, vBulk := 530, discharged := false }
    held := { rails := 3, payRst := false, lanes := 3, clk := true, profFull := false, drain := true, takeover := false } }

/-- A queued notice that has waited. -/
def waiting (k : NoticeKind) (ms : Nat) : Queued := { kind := k, waited := ms, congested := false }

/-- A state with a queue. -/
def withQueue (q : List Queued) (s : State) : State := { s with sli := { s.sli with queue := q } }

/-- A notice of a peer. -/
def peer (slot : Slot) (cls : Fin 4) (phase : Phase) (claim : Fin 1024) : Notice :=
  { cls := cls, slot := slot, phase := phase, profile := .full, bidOpen := false, carrying := false, handoverReq := false,
    claim := claim, amount := 0, capacity := 400, mate := none }

/-- A notice of the own station on the line. -/
def sending (k : NoticeKind) : InFlight :=
  { kind := k, waited := 5, congested := false, contents := peer 6 1 .waiting 0, bits := encodeFrame k (peer 6 1 .waiting 0),
    dropped := false, voided := false, afterUpgrade := false }

/-- A state with a notice of the own station on the line. -/
def withFlight (f : InFlight) (s : State) : State := { s with sli := { s.sli with line := .busy, gap := 0, inFlight := some f } }

/-- A state with a view table. -/
def withPeers (t : List Entry) (s : State) : State := { s with sv := { opened := true, table := t } }

/-- The entries of chapter 04's first worked case. -/
def fivePeers : List Entry :=
  [ entryOf .standing (peer 3 0 .admitted 75), entryOf .standing (peer 10 0 .admitted 80),
    entryOf .standing (peer 12 0 .precharging 70), entryOf .standing (peer 17 1 .admitted 62),
    entryOf .standing (peer 25 2 .admitted 45) ]

/-- The station of chapter 04's first worked case at the end of its bid's window. -/
def bidding : State :=
  let s := withPeers fivePeers (station .bidding)
  { s with ae := { s.ae with profile := .reduced, bid := some 45, window := some 0, reservation := some 45 } }

/-- The station in a precharge at I_set 37 cu and D 146 ms (chapter 06). -/
def precharging : State :=
  let s := station .powering
  { s with ae := { s.ae with profile := .reduced, reservation := some 45, iSet := some 37, deadline := some 146 }
           pp := { s.pp with path := .precharge, iSet := 37, deadline := 146, ramp := 1, limit := 10, discharged := false } }

/-- The station in CLOSING. -/
def closing (vBulk : Nat) : State :=
  { precharging with pp := { precharging.pp with path := .closing, vBulk := vBulk, closing := some 0 } }

/-- The station in DISCHARGING with an exit, its bulk node still charged. -/
def draining (exit : DischargeExit) : State :=
  let s := station .discharging
  { s with ae := { s.ae with exit := exit }, pp := { s.pp with vBulk := 300, discharged := false, discharge := some 900 } }

/-- A data byte after its own offset byte. -/
def byte (v : Byte) : PortByte := { value := v, via := .addressed }

/-- The next byte of the write transaction in progress. -/
def next (v : Byte) : PortByte := { value := v, via := .following }

/-! ## The smoke of WellFormed -/

theorem test_short_image_refused : refusedAsIllFormed (.profileAttemptComplete (image.take 109) false) (loading 1) = true := by
  decide +kernel
theorem test_known_code_refused : refusedAsIllFormed (.unknownCommand 0xA5) State.reset = true := by decide +kernel
theorem test_writable_offset_refused : refusedAsIllFormed (.registerWrite 0x27 (byte 0)) State.reset = true := by decide +kernel
theorem test_wellFormed_agrees :
    ([Instr.profileAttemptComplete image false, .unknownCommand 0x00, .registerWrite 0x00 (byte 1)].all Instr.wellFormed
      && !([Instr.profileAttemptComplete [] false, .unknownCommand 0x01, .registerWrite 0x24 (byte 1)].any Instr.wellFormed)) = true := by
  decide +kernel

/-! ## Worked values of the manual -/

/-- The frame of R184, its bits written out; its check field worked out by hand as the remainder of R185. -/
theorem test_frame_of_R184 :
    encodeFrame .standing { (peer 6 1 .precharging 45) with profile := .reduced, amount := 37 }
      = 0b0010011000000100000000101101000010010100011001000000000001100011#64 := by decide +kernel

/-- A kind of 4..7 and a phase of 6..7 are invalid, whatever the check (R31). -/
theorem test_invalid_codes : kindOfCode 4 = none ∧ kindOfCode 7 = none ∧ phaseOfCode 6 = none ∧ phaseOfCode 7 = none := by decide

/-- Codes of R187: RAIL_ON 4 and READY with operand 3 are invalid; paced with NONE is valid. -/
theorem test_step_codes :
    actionOfByte 0x14 = none ∧ conditionOfByte 0x23 = none ∧ conditionOfByte 0x80 = some .always := by decide

/-- The image loads as the profile, with PROFILE_CLAMPED for the repeated RAIL_ON 0 (R121). -/
theorem test_image_loads : (loadImage image).toOption = some (prof, true) := by decide +kernel

/-- Values out of range (R163): P_red of 1..9 W, of P_full or more; V_plan 0; the clash wait of 0x3A7E (R186). -/
theorem test_ranges :
    pRedTaken 320 9 = (some 10, true) ∧ pRedTaken 10 9 = (none, true) ∧ pRedTaken 320 320 = (none, true)
      ∧ vPlanTaken 0 = (400, false) ∧ clashWaitMs 0x3A7E = 15 := by decide

/-- Chapter 04, first case: V_c 400 dV, claims 80 and 45 cu, H = 48 cu, the reduced profile with I_set 37 and reservation 45, and
D = 146 ms. -/
theorem test_first_budget_case :
    claimVoltage prof 531 = 400 ∧ sFull prof 400 = 80 ∧ sRed prof 400 = some 45 ∧ headroomAtBid prof bidding = 48
      ∧ bidEvaluation prof 400 bidding = .setpoint .reduced 37 45 ∧ prechargeDeadline 3300 535 37 = 146 := by decide +kernel

/-- Chapter 04, the sag: at 362 dV the claims are 89 and 50 cu; the extremes of R59 and R67. -/
theorem test_claims_round_up :
    sFull prof 362 = 89 ∧ sRed prof 362 = some 50 ∧ ceilDiv (100 * 1500) 360 = 417 ∧ ceilDiv (100 * 10) 600 = 2
      ∧ nominalPrecharge 20000 1023 5 = 4092 ∧ nominalPrecharge 100 360 222 = 1 ∧ nominalPrecharge 4700 540 55 = 47 := by
  decide +kernel

/-- Chapter 04, the sag by rank: Q of rank 38 is 388 cu once ranks 4 and 17 announce 166 and 133 cu. -/
theorem test_overcommit_sum :
    let t := [entryOf .standing (peer 4 0 .admitted 166), entryOf .standing (peer 17 0 .admitted 133)]
    let s := withPeers t (powered (.admitted .steady))
    overcommitSum { s with ae := { s.ae with profile := .full, vC := some 362 } } = 388 := by decide +kernel

/-- Chapter 01 at 47 ms: L_c 287 with a peer in WAITING adding nothing, C_eff 360, B_better 45 for rank 9. -/
theorem test_view_sums :
    let t := [entryOf .standing (peer 3 0 .admitted 75),
              entryOf .bid { (peer 5 0 .waiting 0) with amount := 45, capacity := 380 },
              entryOf .standing (peer 10 0 .admitted 80), entryOf .standing (peer 14 1 .precharging 70),
              entryOf .standing { (peer 21 2 .admitted 62) with mate := some 21 }]
    committedLoad t = 287 ∧ prechargingCount t = 1 ∧ cEff prof t = 360 ∧ betterBids 9 t = 45 ∧ betterInitialBids 9 t = 1
      ∧ (lookup t 21).map (·.mate) = some none := by decide +kernel

/-- The table of R44 at the ends of its rows. -/
theorem test_feed_targets :
    [0, 199, 200, 359, 360, 379, 380, 730, 731, 750, 751, 1023].map (feedTarget .low)
        = [.absent, .absent, .low, .low, .low, .low, .good, .good, .good, .good, .high, .high]
      ∧ [0, 199, 200, 359, 360, 379, 380, 730, 731, 750, 751, 1023].map (feedTarget .high)
        = [.absent, .absent, .low, .low, .good, .good, .good, .good, .high, .high, .high, .high] := by decide +kernel

/-- The ramp of chapter 06 at I_set 37 cu and I_min 10 cu, and its foldback cap of 18 cu. -/
theorem test_ramp :
    (List.range 8).map (fun k => limitInUse 37 10 (k + 1) false) = [10, 10, 13, 18, 23, 27, 32, 37]
      ∧ limitInUse 37 10 8 true = 18 := by decide +kernel

/-- The view record of chapter 11's worked sequence. -/
theorem test_view_record :
    entryBytes { (entryOf .yield { (peer 5 0 .waiting 0) with capacity := 380 }) with age := 440, stale := true }
      = [0x85, 0x11, 0x00, 0x00, 0x00, 0x00, 0x81, 0x7C, 0x00, 0x00, 0x00, 0x01, 0xB8] := by decide +kernel

/-- No row of the table gives bits. -/
theorem test_no_word_decodes : decodeTableWord 16 0 = none ∧ State.reset.withFetchWord 16 0 = State.reset := by decide +kernel

/-! ## One step of each command -/

/-- What a test looks at in the state a command answers. -/
def sees {α : Type} (c : Instr) (s : State) (f : State → α) : Option α := (after c s).map f

theorem test_power_on_reset :
    sees (.powerOnReset true sense { railPg := 1, payReady := true, quiesced := false, profAck := true }) (powered .bringup)
      (fun t => (t.sc.start, t.sc.settle, t.pp.path, t.held, t.lpi.address))
      = some (.settling, some 100, .opened, HeldOutputs.deasserted, 0x5A) := by decide +kernel

theorem test_restart_pin_keeps_a_closed_path :
    sees (.restartNFall sense oddStraps) (powered (.admitted .steady))
      (fun t => (t.pp.path, t.held.rails, ownClaim t, t.lpi.flags, t.lpi.result, t.sc.attempts))
      = some (.closed, 3, 45, 0x8000, .none, 1) := by decide +kernel

theorem test_restart_command_aborts_a_precharge :
    sees (.restart sense oddStraps) precharging
      (fun t => (t.pp.path, t.pp.discharge, t.lpi.lastCmd, t.lpi.result, flagSet .fault t))
      = some (.opened, some 2000, 0xA5, .accepted, false) := by decide +kernel

theorem test_seated_starts_the_settle_timer :
    sees .seatedDebouncedSeated (withQueue [waiting .leave 3] State.reset) (fun t => (t.sc.start, t.sc.settle, t.sli.queue))
      = some (.settling, some 100, []) := by decide +kernel

theorem test_loss_of_seating_queues_a_leave :
    sees .lossOfSeating (withQueue [waiting .standing 9] (powered (.admitted .steady)))
      (fun t => (t.sc.start, t.pp.path, t.sli.queue, t.sli.leaveCopy.map (·.checksum), t.held))
      = some (.unseated, .opened, [waiting .leave 0], some 0x0E4D, HeldOutputs.deasserted) := by decide +kernel

theorem test_return_to_unseated_clears_the_mark :
    sees .lossOfSeating
      (let s := starting .settling
       { s with pp := { s.pp with slowMark := true }, sli := { s.sli with clashCount := 1 }, sc := { s.sc with settle := some 40 } })
      (fun t => (t.sc.start, t.sc.settle, t.pp.slowMark, t.sli.clashCount, t.sli.queue)) = some (.unseated, none, false, 0, []) := by
  decide +kernel

theorem test_odd_parity_begins_an_attempt :
    sees (.settleExpiry oddStraps) (let s := starting .settling; { s with sc := { s.sc with settle := some 0 } })
      (fun t => (t.sc.start, t.sc.slot, t.sc.attempts, t.sc.attempt)) = some (.loading, some 6, 1, some 20) := by decide +kernel

theorem test_even_parity_stops :
    sees (.settleExpiry evenStraps) (let s := starting .settling; { s with sc := { s.sc with settle := some 0 } })
      (fun t => (t.sc.slot, t.ae.engine, t.ae.cause, faultPin t)) = some (none, .stopped, .gaParity, true) := by decide +kernel

theorem test_image_opens_the_view :
    sees (.profileAttemptComplete image false) (loading 1)
      (fun t => (t.sc.start, t.sc.relearn, t.sv.opened, t.ae.vC, t.pp.iTrip, flagSet .profileClamped t))
      = some (.relearn, some 250, true, some 400, 90, true) := by decide +kernel

theorem test_bad_checksum_tries_again :
    sees (.profileAttemptComplete (image.take 108 ++ [0x0E, 0x4E]) false) (loading 1)
      (fun t => (t.sc.start, t.sc.attempts, t.sc.loadSub)) = some (.loading, 2, .checksum) := by decide +kernel

theorem test_third_silence_makes_the_profile_bad :
    sees (.profileNoResponse false) (loading 3) (fun t => (t.ae.engine, t.ae.cause, fieldBytes .fault t))
      = some (.stopped, .profileBad, [11, 1, 0]) := by decide +kernel

theorem test_attempt_timer_begins_the_next :
    sees (.attemptTimerExpiry false) (loading 2) (fun t => (t.sc.attempts, t.sc.attempt)) = some (3, some 20) := by decide +kernel

theorem test_relearn_ends_in_a_bid :
    sees .relearnExpiry relearning (fun t => (t.ae.engine, t.ae.bid, t.sli.queue, t.sli.periodic, flagSet .phase t))
      = some (.bidding, some 80, [waiting .standing 0, waiting .bid 0], some 50, true) := by decide +kernel

theorem test_reconcile_by_the_held_domain :
    sees .relearnExpiry relearningPowered (fun t => (t.ae.engine, t.bp.prog, t.bp.pointer, ownClaim t, t.held.drain))
      = some (.admitted .upgradeBid, .up, 7, 45, false) := by decide +kernel

theorem test_transmission_is_composed_now :
    sees .transmissionBegin (withQueue [waiting .bid 0] bidding)
      (fun t => (t.sli.line, t.sli.queue, t.sli.inFlight.map (fun f => (f.contents.phase, f.contents.bidOpen, f.contents.amount))))
      = some (.busy, [], some (.waiting, true, 45)) := by decide +kernel

theorem test_lost_notice_takes_the_head :
    sees .lostArbitration (withFlight (sending .standing) (withQueue [waiting .bid 1, waiting .standing 1] (station .backoff)))
      (fun t => (t.sli.inFlight, t.sli.queue, t.sli.errors)) = some (none, [waiting .standing 5, waiting .bid 1], 0) := by
  decide +kernel

theorem test_first_clash_waits :
    sees .clash (withFlight (sending .standing) (station .backoff)) (fun t => (t.sli.clashCount, t.sli.clashWait, t.sli.queue))
      = some (1, .awaitingGap 14, [waiting .standing 5]) := by decide +kernel

theorem test_second_clash_stops :
    sees .clash
      (let s := withFlight (sending .standing) (station .backoff); { s with sli := { s.sli with clashCount := 1 } })
      (fun t => (t.ae.engine, t.ae.cause, t.sli.clashCount, t.sli.queue, flagSet .line t))
      = some (.stopped, .slotClash, 0, [], true) := by decide +kernel

theorem test_sent_bid_opens_its_window :
    sees (.loopback true) (withFlight (sending .bid) (let s := bidding; { s with ae := { s.ae with window := none } }))
      (fun t => (t.ae.window, t.sli.line, t.sli.inFlight)) = some (some 120, .idle, none) := by decide +kernel

theorem test_failed_loopback_returns :
    sees (.loopback false) (withFlight (sending .bid) bidding) (fun t => (t.sli.queue, t.sli.errors)) = some ([waiting .bid 5], 1) := by
  decide +kernel

theorem test_standing_creates_an_entry :
    sees (.standingNotice { (peer 5 0 .admitted 70) with capacity := 380 }) (station .backoff)
      (fun t => (committedLoad t.sv.table, ownCEff t, flagSet .capacityMismatch t)) = some (70, 360, true) := by decide +kernel

theorem test_own_slot_stops_an_open_station :
    sees (.standingNotice (peer 6 2 .admitted 70)) precharging (fun t => (t.ae.cause, t.pp.path, t.sv.table))
      = some (.slotClash, .opened, []) := by decide +kernel

theorem test_bid_notice_is_a_bid :
    sees (.bidNotice { (peer 5 0 .waiting 0) with amount := 45 }) (station .backoff)
      (fun t => (betterBids 38 t.sv.table, betterInitialBids 38 t.sv.table)) = some (45, 1) := by decide +kernel

theorem test_yield_notice_removes_the_bid :
    sees (.yieldNotice (peer 5 0 .waiting 0)) (withPeers [entryOf .bid { (peer 5 0 .waiting 0) with amount := 45 }] (station .backoff))
      (fun t => (lookup t.sv.table 5).map (·.bid)) = some (some none) := by decide +kernel

theorem test_leave_notice_removes_the_entry :
    sees (.leaveNotice (peer 12 0 .stopped 0)) (withPeers fivePeers (station .backoff))
      (fun t => (t.sv.table.length, committedLoad t.sv.table, flagSet .peerExpired t)) = some (4, 262, false) := by decide +kernel

theorem test_bad_check_counts_an_error :
    sees (.invalidFrame (encodeFrame .standing (peer 5 0 .admitted 70) ^^^ 1) true) (station .backoff)
      (fun t => (t.sli.errors, t.sv.table)) = some (1, []) := by decide +kernel

theorem test_dominant_end_counts_an_error :
    sees (.invalidFrame (encodeFrame .standing (peer 5 0 .admitted 70)) false) (station .backoff)
      (fun t => (t.sli.errors, t.sv.table)) = some (1, []) := by decide +kernel

theorem test_disturbance_restarts_the_gap :
    sees .disturbance (let s := station .backoff; { s with sli := { s.sli with gap := 7, errors := 255 } })
      (fun t => (t.sli.gap, t.sli.errors)) = some (0, 255) := by decide +kernel

theorem test_stuck_closes_a_waiting_bid :
    sees .lineStuck (withQueue [waiting .bid 2] (let s := bidding; { s with ae := { s.ae with window := none } }))
      (fun t => (t.sli.line, t.ae.engine, t.ae.backoff, t.sli.queue)) = some (.stuck, .backoff, some 580, [waiting .standing 0]) := by
  decide +kernel

theorem test_freed_line_has_its_gap :
    sees .lineFreed (let s := station .backoff; { s with sli := { s.sli with line := .stuck, gap := 0 } })
      (fun t => (t.sli.line, t.sli.gap, flagSet .line t)) = some (.idle, 12, true) := by decide +kernel

theorem test_clash_wait_ends :
    sees .clashWaitExpiry (let s := station .backoff; { s with sli := { s.sli with clashWait := .running 0 } })
      (fun t => t.sli.clashWait) = some .stopped := by decide +kernel

theorem test_eight_errors_impair :
    sees .qualityIntervalEnd (let s := station .backoff; { s with sli := { s.sli with errors := 8 } })
      (fun t => (t.sli.impaired, t.sli.errors, flagSet .line t)) = some (true, 0, true) := by decide +kernel

theorem test_two_errors_leave_impaired :
    sees .qualityIntervalEnd (let s := station .backoff; { s with sli := { s.sli with errors := 2, impaired := true } })
      (fun t => (t.sli.impaired, flagSet .line t)) = some (true, false) := by decide +kernel

theorem test_congestion_raises_line_once :
    sees .transmitCongestion (withQueue [waiting .standing 250] (station .backoff))
      (fun t => (flagSet .line t, t.sli.queue.map (·.congested))) = some (true, [true]) := by decide +kernel

theorem test_periodic_notice :
    sees .periodicNoticeExpiry (station .backoff) (fun t => (t.sli.periodic, t.sli.queue)) = some (some 50, [waiting .standing 0]) := by
  decide +kernel

/-- Chapter 04's five entries, all at an age. -/
def aged (ms : Nat) : List Entry := fivePeers.map (fun e => { e with age := ms })

theorem test_stale_entry_keeps_its_claim :
    sees (.entryStale 10) (withPeers (aged 200) (station .backoff))
      (fun t => ((lookup t.sv.table 10).map (fun e => (e.stale, e.age)), committedLoad t.sv.table)) = some (some (true, 200), 332) := by
  decide +kernel

theorem test_expired_peer_is_removed :
    sees (.peerExpired 10) (withPeers (aged 1000) (station .backoff))
      (fun t => (committedLoad t.sv.table, flagSet .peerExpired t)) = some (252, true) := by decide +kernel

/-- R14: an arrival taken before the events of age leaves its entry FRESH and in the table. -/
theorem test_an_arrival_comes_first :
    let s := withPeers (insertEntry (entryOf .standing (peer 10 0 .admitted 80)) (aged 1000)) (station .backoff)
    sees (.entryStale 10) s (fun t => (lookup t.sv.table 10).map (·.stale)) = some (some false)
      ∧ sees (.peerExpired 10) s (fun t => (t.sv.table.length, flagSet .peerExpired t)) = some (5, false) := by decide +kernel

/-- R23: with the gap incomplete, no frame is received. -/
theorem test_no_frame_before_the_gap :
    sees (.standingNotice (peer 5 0 .admitted 70)) (let s := station .backoff; { s with sli := { s.sli with gap := 11 } })
      (fun t => (t.sv.table, t.sli.gap)) = some ([], 11) := by decide +kernel

/-- R36: ten milliseconds on the line are ten of the notice's wait. -/
theorem test_flight_ages_the_notice :
    let s := (List.replicate 10 tick).foldl (fun s f => f s) (withFlight (sending .standing) (station .backoff))
    sees .lostArbitration s (fun t => t.sli.queue) = some [waiting .standing 15] := by decide +kernel

/-- Chapter 03, the fuse: at 5 ms B's fourth LOW sample takes the last GOOD feed, and the ride-through starts. -/
theorem test_last_good_feed_goes :
    sees (.feedSample 0 358)
      (let s := station .backoff
       { s with fs := { s.fs with a := { sample := 0, state := .absent, pending := none, count := 0 },
                                  b := { sample := 355, state := .good, pending := some .low, count := 3 }, vF := 355 } })
      (fun t => (t.fs.b.state, t.fs.vF, t.fs.ride, flagSet .feed t)) = some (.low, 358, some 10, true) := by decide +kernel

theorem test_ride_through_opens_the_path :
    sees .rideThroughExpiry (let s := powered (.admitted .steady); { s with fs := { s.fs with ride := some 0 } })
      (fun t => (t.fs.uv, t.pp.path, t.ae.engine, t.ae.exit, t.ae.cause, t.ae.retryCount))
      = some (true, .opened, .discharging, .waiting, .feedUv, 0) := by decide +kernel

/-- Chapter 04's first case resolves to I_set 37 cu, reservation 45 cu and D 146 ms. -/
theorem test_resolution :
    sees .bidWindowExpiry bidding (fun t => (t.ae.engine, t.ae.iSet, ownClaim t, t.ae.deadline, t.pp.path))
      = some (.powering, some 37, 45, some 146, .precharge) := by decide +kernel

/-- The same with a better bid of 30 cu: a yield and 580 ms of backoff. -/
theorem test_resolution_yields :
    sees .bidWindowExpiry (withPeers (insertEntry (entryOf .bid { (peer 4 0 .waiting 0) with amount := 30 }) fivePeers) bidding)
      (fun t => (t.ae.engine, t.ae.backoff, t.sli.queue)) = some (.backoff, some 580, [waiting .yield 0, waiting .standing 0]) := by
  decide +kernel

theorem test_backoff_ends_in_noroom :
    sees .backoffExpiry
      (withPeers (insertEntry (entryOf .standing (peer 4 0 .admitted 30)) fivePeers)
        (let s := station .backoff; { s with ae := { s.ae with backoff := some 0 } }))
      (fun t => (t.ae.engine, t.ae.reason, t.ae.backoff)) = some (.waiting, .noRoom, none) := by decide +kernel

theorem test_cooldown_ends_in_a_bid :
    sees .cooldownExpiry (let s := station .cooldown; { s with ae := { s.ae with cooldown := some 0, retryCount := 1 } })
      (fun t => (t.ae.engine, t.ae.bid, t.ae.retryCount)) = some (.bidding, some 80, 1) := by decide +kernel

theorem test_profile_acknowledge_completes_the_shed :
    sees (.profAckChange false)
      (let s := powered (.admitted .shedding); { s with ae := { s.ae with profile := .full, shedWait := some 300 } })
      (fun t => (t.ae.engine, ownClaim t, t.ae.upgradeHold, flagSet .profile t)) = some (.admitted .steady, 45, some 10000, true) := by
  decide +kernel

theorem test_shed_wait_completes_the_shed :
    sees .shedWaitExpiry
      (let s := powered (.admitted .shedding); { s with ae := { s.ae with profile := .full, shedWait := some 0 } })
      (fun t => (t.ae.profile, t.ae.shedWait, t.sli.queue)) = some (.reduced, none, [waiting .standing 0]) := by decide +kernel

/-- Chapter 04's upgrade: success at a claim of 80 cu, PROF_FULL waiting for a sent STANDING. -/
theorem test_upgrade_succeeds :
    sees .upgradeWindowExpiry
      (let s := powered (.admitted .upgradeBid); { s with ae := { s.ae with bid := some 35, window := some 0 } })
      (fun t => (t.ae.engine, ownClaim t, t.ae.profFullPending, t.held.profFull)) = some (.admitted .steady, 80, true, false) := by
  decide +kernel

theorem test_upgrade_hold_stops :
    sees .upgradeHoldExpiry (let s := powered (.admitted .steady); { s with ae := { s.ae with upgradeHold := some 0 } })
      (fun t => t.ae.upgradeHold) = some none := by decide +kernel

theorem test_upgrade_retry_hold_stops :
    sees .upgradeRetryHoldExpiry (let s := powered (.admitted .steady); { s with ae := { s.ae with retryHold := some 0 } })
      (fun t => t.ae.retryHold) = some none := by decide +kernel

theorem test_carrying_is_announced :
    sees (.carryingChange true) (powered (.admitted .steady)) (fun t => (t.ae.carrying, t.sli.queue))
      = some (true, [waiting .standing 0]) := by decide +kernel

/-- Chapter 06, t = 1: ramp step 2, the limit still I_min, elapsed 1. -/
theorem test_first_precharge_sample :
    sees (.pathSample 3 10) precharging (fun t => (t.pp.ramp, t.pp.limit, t.pp.elapsed, t.pp.path)) = some (2, 10, 1, .precharge) := by
  decide +kernel

/-- Chapter 06, t = 55: 521 ≥ 535 − 20. -/
theorem test_precharge_completes :
    sees (.pathSample 521 37) precharging (fun t => (t.pp.path, t.pp.closing)) = some (.closing, some 5) := by decide +kernel

theorem test_deadline_counts_a_fault :
    sees (.prechargeTimeout 300 37) precharging (fun t => (t.pp.path, t.ae.engine, t.ae.retryCount, t.ae.cause, t.ae.exit))
      = some (.opened, .discharging, 1, .prechargeTimeout, .cooldown) := by decide +kernel

/-- Chapter 06's trip, at the retry limit of 2. -/
theorem test_slow_trip_at_the_limit :
    sees (.slowTrip 530 101) (let s := powered (.admitted .steady); { s with ae := { s.ae with retryCount := 2 } })
      (fun t => (t.pp.path, t.ae.cause, t.ae.subcause, t.ae.exit)) = some (.tripped, .retryExhausted, some .trip, .stopped) := by
  decide +kernel

theorem test_fast_trip :
    sees (.pathSample 530 181) (powered (.admitted .steady)) (fun t => (t.pp.path, t.held.rails)) = some (.tripped, 0) := by
  decide +kernel

theorem test_overclaim :
    sees (.overclaim 530 46) (powered (.admitted .steady)) (fun t => (t.pp.overclaim, flagSet .overclaim t)) = some (true, true) := by
  decide +kernel

/-- R107 and R125: CLOSED, BRINGUP, PROF_FULL at the reduced profile, PAY_RST asserted, rail 0 enabled, waiting for PG 0. -/
theorem test_closing_begins_the_program :
    sees .closingExpiry (closing 531) (fun t => (t.pp.path, t.ae.engine, t.held.rails, t.held.payRst, t.bp.sub, ownClaim t))
      = some (.closed, .bringup, 1, true, .condition, 45) := by decide +kernel

theorem test_close_fail :
    sees .closingExpiry (closing 524) (fun t => (t.pp.path, t.ae.cause)) = some (.opened, .closeFail) := by decide +kernel

theorem test_discharge_slow :
    sees .dischargeSlow (draining .cooldown) (fun t => (flagSet .dischargeSlow t, t.pp.discharge, t.pp.slowMark))
      = some (true, none, true) := by decide +kernel

/-- Chapter 07, 470 ms: the edge paces step 6; step 7 finds READY high; the run completes and the engine is ADMITTED. -/
theorem test_step_edge_completes_the_run :
    sees (.stepEdge true) (let s := stepping .pace 6 5; { s with inp := { s.inp with payReady := true } })
      (fun t => (t.bp.prog, t.bp.pointer, t.held.lanes, (phaseOf t.ae.engine))) = some (.up, 7, 2, some .admitted) := by decide +kernel

/-- Chapter 07, 412 ms: PAY_READY rises; step 5 consumes the remembered edge and dwells. -/
theorem test_condition_consumes_the_edge :
    sees (.conditionInputChange 3 true) (let s := stepping .condition 4 4; { s with bp := { s.bp with edge := true } })
      (fun t => (t.bp.pointer, t.bp.sub, t.bp.dwell, t.bp.edge, t.held.lanes))
      = some (5, .dwell, some 12, false, 1) := by decide +kernel

/-- Chapter 07's timeout of step 4: PAY_RST is asserted again and the teardown holds for 100 ms. -/
theorem test_step_timeout :
    sees .bringupTimeout
      (let s := stepping .condition 4 4
       { s with held := { s.held with rails := 3, clk := true, payRst := false }, bp := { s.bp with stepTimer := some 0 } })
      (fun t => (t.bp.timedOut, t.bp.prog, t.bp.teardown, t.held.payRst, t.ae.engine, t.ae.bringupFault))
      = some (4, .teardown, some 100, true, .bringup, true) := by decide +kernel

/-- R131: PAY_READY ends step 4, of dwell 0 ms, as its timer runs out, and the expiry behind it finds step 5 with 500 ms left. -/
theorem test_expiry_behind_the_condition_is_no_timeout :
    ((after (.conditionInputChange 3 true)
        (let s := stepping .condition 4 4; { s with bp := { s.bp with stepTimer := some 0 } })).bind
      fun t => sees .bringupTimeout t fun u => (u.bp.prog, u.bp.sub, u.bp.pointer, u.bp.stepTimer, u.ae.bringupFault))
      = some (.forward, .pace, 5, some 500, false) := by decide +kernel

theorem test_dwell_ends_in_the_next_step :
    sees .dwellExpiry
      (let s := stepping .dwell 1 1; { s with bp := { s.bp with stepTimer := none, dwell := some 0 } })
      (fun t => (t.bp.pointer, t.bp.stepTimer, t.held.rails)) = some (2, some 50, 2) := by decide +kernel

/-- Chapter 07, 2143 ms: step 3 and step 2 are undone in one event. -/
theorem test_teardown_undoes_two_steps :
    sees .teardownDwellExpiry
      (let s := powered (.retiring .teardown); { s with bp := { s.bp with prog := .teardown, pointer := 4, teardown := some 0 } })
      (fun t => (t.bp.pointer, t.bp.teardown, t.held.clk, t.held.rails)) = some (2, some 20, false, 1) := by decide +kernel

theorem test_latch_opening_retires :
    sees .latchOpening (powered (.admitted .steady)) (fun t => (t.ae.engine, t.ae.source, t.held.drain, t.rc.quiesce, t.rc.force))
      = some (.retiring .draining, .latch, true, some 2000, some 10000) := by decide +kernel

theorem test_latch_closing_cancels :
    sees .latchClosing
      (let s := powered (.retiring .draining)
       { s with ae := { s.ae with source := .latch }, held := { s.held with drain := true }, rc := { s.rc with latchOpen := true } })
      (fun t => (phaseOf t.ae.engine, t.ae.source, t.held.drain)) = some (some .admitted, .none, false) := by decide +kernel

theorem test_first_settling_is_no_opening :
    sees (.ejectFirstSettling true) (station .waiting) (fun t => (t.ae.source, t.rc.latchOpen, t.rc.force))
      = some (.none, true, some 10000) := by decide +kernel

theorem test_latch_held_forces :
    sees .forceTimerExpiry
      (let s := powered (.retiring .held); { s with rc := { s.rc with force := some 0, handoverReq := true } })
      (fun t => (t.ae.engine, t.rc.latchHeld, t.rc.handoverReq)) = some (.retiring .draining, true, false) := by decide +kernel

theorem test_handover_timer_holds :
    sees .handoverTimerExpiry (let s := powered (.retiring .handover); { s with rc := { s.rc with handover := some 0 } })
      (fun t => (t.ae.engine, flagSet .held t)) = some (.retiring .held, true) := by decide +kernel

theorem test_quiesced_tears_down :
    sees (.quiescedRise true) (powered (.retiring .draining))
      (fun t => (t.ae.engine, t.bp.prog, t.bp.pointer, t.held.lanes, t.bp.teardown))
      = some (.retiring .teardown, .teardown, 6, 1, some 8) := by decide +kernel

theorem test_quiesce_timeout :
    sees .quiesceTimeout (let s := powered (.retiring .draining); { s with rc := { s.rc with quiesce := some 0 } })
      (fun t => (t.ae.engine, flagSet .quiesceTimeout t)) = some (.retiring .teardown, true) := by decide +kernel

/-- R145: with a mate configured and CARRYING set, a retire asks for a handover. -/
theorem test_retire_asks_for_a_handover :
    sees .retire (let s := powered (.admitted .steady); { s with ae := { s.ae with carrying := true } })
      (fun t => (t.ae.engine, t.rc.handoverReq, t.rc.handover, t.lpi.result)) = some (.retiring .handover, true, some 3000, .accepted) := by
  decide +kernel

theorem test_second_retire_refused :
    sees .retire (let s := powered (.retiring .held); { s with ae := { s.ae with source := .command } }) (fun t => t.lpi.result)
      = some .refusedState := by decide +kernel

theorem test_cancel_of_a_latch_retire_refused :
    sees .cancelRetire (let s := powered (.retiring .held); { s with ae := { s.ae with source := .latch } })
      (fun t => (t.lpi.result, t.ae.engine)) = some (.refusedSource, .retiring .held) := by decide +kernel

theorem test_force_retire :
    sees .forceRetire (powered (.retiring .handover)) (fun t => (t.ae.engine, t.lpi.result)) = some (.retiring .draining, .accepted) := by
  decide +kernel

theorem test_clear_fault_of_a_trip_discharges :
    sees .clearFault
      (let s := station .stopped
       { s with ae := { s.ae with cause := .slotClash, retryCount := 1 }, pp := { s.pp with path := .tripped, discharged := false } })
      (fun t => (t.ae.engine, t.ae.exit, t.ae.retryCount, t.lpi.result)) = some (.discharging, .waiting, 0, .accepted) := by
  decide +kernel

theorem test_force_off :
    sees .forceOff (powered (.admitted .steady)) (fun t => (t.ae.engine, t.ae.exit, t.ae.cause, t.pp.path, t.held.rails))
      = some (.discharging, .stopped, .forcedOff, .opened, 0) := by decide +kernel

theorem test_unknown_command :
    sees (.unknownCommand 0x00) (station .waiting) (fun t => fieldBytes .cmdstat t) = some [0x00, 4] := by decide +kernel

theorem test_events_clear :
    sees (.eventsClear true (byte 0x81)) { (station .waiting) with lpi := { LocalPort.reset with flags := 0xFFFF } }
      (fun t => (t.lpi.flags, alertAsserted t)) = some (0x7EFF, true) := by decide +kernel

theorem test_mask_write :
    sees (.maskWrite false (byte 0x0F)) { (station .waiting) with lpi := { LocalPort.reset with flags := 0x0010 } }
      (fun t => (t.lpi.mask, alertAsserted t)) = some (0xFF0F, false) := by decide +kernel

theorem test_viewsel_write :
    sees (.viewselWrite (byte 200)) (station .waiting) (fun t => (t.lpi.viewSel, viewBytes t)) = some (200, List.replicate 13 0) := by
  decide +kernel

theorem test_offset_write : sees (.offsetWrite 0xFF) (station .waiting) (fun t => t.lpi.offset) = some 0xFF := by decide +kernel

/-- R172: two bytes after an offset byte of 0x22 write both halves of MASK. -/
theorem test_following_byte_writes_the_next_register :
    ((after (.maskWrite false (byte 0x0F)) (station .waiting)).bind (after (.maskWrite true (next 0xF0)))).map
      (fun t => (t.lpi.mask, t.lpi.offset)) = some (0xF00F, 0x24) := by decide +kernel

/-- R179: the bytes after the code of RESTART are discarded. -/
theorem test_bytes_after_restart_are_discarded :
    ((after (.restart sense oddStraps) (station .waiting)).bind (after (.maskWrite false (next 0x00)))).map
      (fun t => t.lpi.mask) = some 0xFFFF := by decide +kernel

theorem test_register_write_wraps :
    sees (.registerWrite 0xFF (byte 7)) (station .waiting) (fun t => t.lpi.offset) = some 0x00 := by decide +kernel

theorem test_snapshot_read :
    sees (.snapshotRead (some 0x0C)) (powered (.admitted .steady))
      (fun t => (t.lpi.readByte, bufferByte .claim 1 t.lpi.buffers, t.lpi.offset))
      = some (0x00, 45, 0x0D) := by decide +kernel

/-- R172: a read with no offset byte before it begins at the current offset. -/
theorem test_read_at_the_current_offset :
    sees (.snapshotRead none) { (station .waiting) with lpi := { LocalPort.reset with offset := 0x27, viewSel := 9 } }
      (fun t => (t.lpi.readByte, t.lpi.offset)) = some (9, 0x28) := by decide +kernel

theorem test_viewdata_read :
    sees .viewdataRead { (withPeers fivePeers (station .waiting)) with lpi := { LocalPort.reset with viewSel := 17 } }
      (fun t => (t.lpi.readByte, bufferByte .viewdata 3 t.lpi.buffers)) = some (0x80 + 49, 62) := by decide +kernel

theorem test_lamp_toggles :
    sees .lampBlinkToggle { (station .waiting) with lpi := { LocalPort.reset with lampTimer := some 0 } }
      (fun t => (statAmber t, t.lpi.lampTimer)) = some (false, some 500) := by decide +kernel

theorem test_gap_starts_the_clash_wait :
    sees .gapComplete (let s := station .waiting; { s with sli := { s.sli with gap := 3, clashWait := .awaitingGap 14 } })
      (fun t => (t.sli.gap, t.sli.clashWait)) = some (12, .running 14) := by decide +kernel

theorem test_start_bit : sees .startBit (station .waiting) (fun t => (t.sli.line, t.sli.gap)) = some (.busy, 0) := by decide +kernel

theorem test_step_first_settling_is_no_edge :
    sees (.debouncerFirstSettling .stepInput true) (stepping .pace 6 5) (fun t => (t.inp.stepLevel, t.bp.sub)) = some (true, .pace) := by
  decide +kernel

/-- Chapter 08: a mate's request asserts TAKEOVER in ADMITTED. -/
theorem test_takeover :
    sees (.standingNotice { (peer 13 1 .retiring 45) with handoverReq := true, mate := some 6 }) (powered (.admitted .steady))
      (fun t => (t.held.takeover, t.rc.mateGone)) = some (true, false) := by decide +kernel

/-! ## Witnesses: for each statement with hypotheses, a state and operands that meet them together -/

/-- The station in ADMITTED with an entry in its view and a notice waiting among its commands. -/
def busyStation : State :=
  { (withQueue [waiting .standing 3] (withPeers fivePeers (powered (.admitted .steady)))) with
    pending := [.standingNotice (peer 5 0 .admitted 70), .forceOff] }

theorem busyStation_steps : ∃ t, step busyStation = .next t :=
  next_of_goesOn (.standingNotice (peer 5 0 .admitted 70)) { busyStation with pending := [.forceOff] } (by decide +kernel)

theorem witness_StepIdlesByTheMillisecond :
    ((station .waiting).pending = [] ∧ due (station .waiting) = none)
      ∧ ((closing 531).pending = [] ∧ due (closing 531) = some .closingExpiry) := by decide +kernel

theorem witness_StepKeepsTheView : ∃ s t, ViewOk s ∧ s.sv.table ≠ [] ∧ step s = .next t := by
  obtain ⟨t, ht⟩ := busyStation_steps
  exact ⟨busyStation, t, by unfold ViewOk; decide +kernel, by decide +kernel, ht⟩

theorem witness_StepKeepsTheQueue : ∃ s t, QueueOk s ∧ s.sli.queue ≠ [] ∧ step s = .next t := by
  obtain ⟨t, ht⟩ := busyStation_steps
  refine ⟨busyStation, t, ⟨by unfold StartOk; decide +kernel, by decide +kernel, by decide +kernel, ?_, by decide +kernel, ?_,
    by decide +kernel⟩, by decide +kernel, ht⟩
  · intro f hf
    have h0 : busyStation.sli.inFlight = none := by decide +kernel
    rw [h0] at hf; cases hf
  · intro hs; exact absurd hs (by decide +kernel)

theorem witness_StepKeepsTheHeldOutputs : ∃ s t, HeldOk s ∧ gateOn s = true ∧ step s = .next t := by
  obtain ⟨t, ht⟩ := busyStation_steps
  exact ⟨busyStation, t, by unfold HeldOk; decide +kernel, by decide +kernel, ht⟩

theorem witness_StepKeepsTheRetryCount : ∃ s t, RetryOk s ∧ step s = .next t := by
  obtain ⟨t, ht⟩ := busyStation_steps
  exact ⟨busyStation, t, by unfold RetryOk StartOk; decide +kernel, ht⟩

theorem witness_StepKeepsTheBid : ∃ s t, BidOk s ∧ s.ae.bid.isSome = true ∧ step s = .next t := by
  obtain ⟨t, ht⟩ := next_of_goesOn .lineStuck { bidding with pending := [] } (by decide +kernel)
  exact ⟨{ bidding with pending := [.lineStuck] }, t, by unfold BidOk StartOk; decide +kernel, by decide +kernel, ht⟩

theorem witness_RestartKeepsTheHeldDomain :
    (∀ s ∈ [powered (.admitted .steady), precharging, station .waiting, { (station .discharging) with
        pp := { PowerPath.reset with path := .tripped, discharged := false } }],
      s.sc.seated = true ∧ parityHolds oddStraps = true ∧ oddStraps.pmSdaLow = false ∧ sense.feedA ≤ 750 ∧ sense.feedB ≤ 750)
      ∧ (powered (.admitted .steady)).pp.path = .closed ∧ precharging.pp.path = .precharge
      ∧ (station .waiting).pp.path = .opened := by decide +kernel

theorem witness_SeatingBeforeLoading :
    State.reset.sc.start = .unseated ∧ (starting .settling).sc.start = .settling ∧ Settled (starting .settling) := by
  unfold Settled; decide +kernel

theorem witness_LossOfSeatingQueuesTheLeave :
    (∀ s ∈ [powered (.admitted .steady), station .waiting, loading 1],
      s.sc.start ≠ .unseated ∧ s.sc.start ≠ .settling)
      ∧ (powered (.admitted .steady)).sc.slot = some 6 ∧ (powered (.admitted .steady)).sc.profile = some prof
      ∧ gateOn (powered (.admitted .steady)) = true ∧ gateOn (station .waiting) = false ∧ (loading 1).sc.start = .loading := by
  decide +kernel

/-- SETTLING with its timer run out. -/
def settling : State := let s := starting .settling; { s with sc := { s.sc with settle := some 0 } }

theorem witness_SettleExpiryReadsTheAddress :
    settling.sc.start = .settling ∧ settling.sc.settle.isSome = true ∧ Settled settling ∧ settling.pp.path = .opened
      ∧ parityHolds oddStraps = true ∧ parityHolds evenStraps = false
      ∧ parityHolds { oddStraps with pmSdaLow := true } = true := by unfold Settled; decide +kernel

/-- The image with its last checksum byte altered. -/
def badImage : List Byte := image.take 109 ++ [0x4E]

theorem witness_FailedAttempts :
    (image.take 109).length ≠ 110
      ∧ (∀ s ∈ [loading 2, loading 3], s.sc.start = .loading ∧ s.sc.attempt.isSome = true ∧ Settled s)
      ∧ badImage.length = 110 ∧ (∃ sub, loadImage badImage = .error sub) ∧ (loading 2).sc.attempts < 3 ∧ 3 ≤ (loading 3).sc.attempts := by
  refine ⟨by decide +kernel, by unfold Settled; decide +kernel, by decide +kernel, ⟨.checksum, by rfl⟩, by decide +kernel,
    by decide +kernel⟩

theorem image_gives_prof : loadImage image = .ok (prof, true) := by
  have h : (loadImage image).toOption = some (prof, true) := by decide +kernel
  cases hx : loadImage image with
  | error e => simp [hx, Except.toOption] at h
  | ok x => simpa [hx, Except.toOption] using h

theorem witness_ProfileComesIntoRange : ∃ img p clamped, loadImage img = .ok (p, clamped) := ⟨image, prof, true, image_gives_prof⟩

/-- The image with a word of it replaced, and its checksum worked out again. -/
def withWord (at_ v : Nat) : List Byte :=
  let b := image.take at_ ++ twoBytes v ++ (image.drop (at_ + 2)).take (106 - at_)
  b ++ twoBytes (imageSum b)

theorem witness_ProfileComesIntoRange_words :
    (∀ v ∈ [0, 1, 359, 360, 600, 601, 65535], (loadImage (withWord 10 v)).toOption.isSome = true ∧ imageWord (withWord 10 v) 10 = v)
      ∧ (∀ v ∈ [0, 1, 9, 10, 319, 320], (loadImage (withWord 8 v)).toOption.isSome = true ∧ imageWord (withWord 8 v) 8 = v)
      ∧ (∀ v ∈ [4, 5, 60, 61], (loadImage (withWord 24 v)).toOption.isSome = true ∧ imageWord (withWord 24 v) 24 = v)
      ∧ (∀ v ∈ [9, 10, 5000, 5001], (loadImage (withWord 39 v)).toOption.isSome = true ∧ imageWord (withWord 39 v) 39 = v) := by
  decide +kernel

theorem witness_LoadingCompletes :
    ∃ img p clamped s, img.length = 110 ∧ s.sc.start = .loading ∧ s.sc.attempt.isSome = true ∧ Settled s
      ∧ loadImage img = .ok (p, clamped) :=
  ⟨image, prof, true, loading 1, by decide +kernel, by decide +kernel, by decide +kernel, by unfold Settled; decide +kernel,
    image_gives_prof⟩

theorem witness_RelearnEndsInWaiting :
    ∃ (p : ProfileData) (v : Nat) (s : State), s.sc.start = .relearn ∧ s.sc.relearn.isSome = true ∧ s.sc.profile = some p
      ∧ s.ae = { OwnRecord.reset with vC := some v } ∧ s.pp.path = .opened ∧ s.pp.tripPending = false ∧ s.sc.forcedOff = false
      ∧ s.sli.queue = [] ∧ s.sli.inFlight = none ∧ s.rc.latchOpen = false :=
  ⟨prof, 400, relearning, by decide +kernel⟩

/-- RELEARN with the path OPEN: the latch open, a trip pending, the forced-off mark set, or both of these; the bulk node charged. -/
def relearnings : List State :=
  [ { relearning with rc := { relearning.rc with latchOpen := true } },
    { relearning with pp := { relearning.pp with tripPending := true, discharged := false } },
    { relearning with sc := { relearning.sc with forcedOff := true } },
    { relearning with pp := { relearning.pp with tripPending := true }, sc := { relearning.sc with forcedOff := true } } ]

theorem witness_RelearnEndsInWaiting_marks :
    (∀ s ∈ relearnings, s.sc.start = .relearn ∧ s.sc.relearn.isSome = true ∧ s.sc.profile = some prof
      ∧ s.ae = { OwnRecord.reset with vC := some 400 } ∧ s.pp.path = .opened ∧ s.sli.queue = [] ∧ s.sli.inFlight = none)
      ∧ relearnings.map (fun s => (s.rc.latchOpen, s.pp.tripPending, s.sc.forcedOff, s.pp.discharged))
        = [(true, false, false, true), (false, true, false, false), (false, false, true, true), (false, true, true, true)] := by
  decide +kernel

/-- RELEARN with the path kept CLOSED and lane 1 down. -/
def halfUp : State := { relearningPowered with held := { relearningPowered.held with lanes := 1 } }

/-- RELEARN with the path TRIPPED and its bulk node charged. -/
def trippedRelearn : State := { relearning with pp := { relearning.pp with path := .tripped, discharged := false } }

theorem witness_RelearnReconcilesAClosedPath :
    (∀ s ∈ [relearningPowered, halfUp, trippedRelearn],
      s.sc.start = .relearn ∧ s.sc.relearn.isSome = true ∧ s.sc.profile = some prof ∧ s.ae.engine = .none ∧ s.ae.source = .none
        ∧ s.ae.vC = some 400 ∧ s.pp.tripPending = false ∧ s.sc.forcedOff = false ∧ s.rc.latchOpen = false ∧ s.bp.prog = .off)
      ∧ relearningPowered.pp.path = .closed ∧ allStepsUp relearningPowered = true
      ∧ halfUp.pp.path = .closed ∧ allStepsUp halfUp = false
      ∧ trippedRelearn.pp.path = .tripped ∧ trippedRelearn.pp.discharged = false ∧ trippedRelearn.ae.retryCount = 0 := by
  decide +kernel

/-- RELEARN with the path kept CLOSED, lane 1 down and the attachment of lane 1 the first step. -/
def pacedFirst : State :=
  { halfUp with sc := { halfUp.sc with profile := some { prof with steps := sevenSteps.drop 5 } } }

/-- The runs that begin at a step found up whose condition fails, and at a paced step that is down (R138). -/
theorem witness_RelearnReconcilesAClosedPath_run :
    (∃ p r, halfUp.sc.profile = some p ∧ p.steps.head? = some r ∧ stepIsUp r.action halfUp.held = true
        ∧ conditionMet r.cond halfUp.inp = false)
      ∧ (let s := pacedFirst
         ∃ p r, s.sc.profile = some p ∧ p.steps.head? = some r ∧ stepIsUp r.action s.held = false ∧ r.paced = true
          ∧ s.pp.path = .closed ∧ allStepsUp s = false ∧ s.sc.start = .relearn ∧ s.sc.relearn.isSome = true ∧ s.bp.prog = .off) :=
  ⟨⟨prof, _, rfl, rfl, by decide +kernel⟩, ⟨_, _, rfl, rfl, by decide +kernel⟩⟩

theorem witness_RequestsJoinTheQueue :
    let s := withQueue [waiting .bid 3] (station .backoff)
    silent (starting .loading) = true ∧ silent s = false ∧ leaveUnderway s.sli = false
      ∧ leaveUnderway (withQueue [waiting .leave 3] s).sli = true ∧ isQueued .bid s.sli.queue = true
      ∧ isQueued .standing s.sli.queue = false ∧ isQueued .yield s.sli.queue = false := by decide +kernel

/-- An unseated part with its LEAVE queued. -/
def leaving : State :=
  let s := withQueue [waiting .leave 0] State.reset
  { s with sli := { quietLine with periodic := none, queue := [waiting .leave 0],
                                   leaveCopy := some { cls := 1, slot := 6, f := 400, mate := some 13, checksum := 0x0E4D } } }

theorem witness_TransmissionComposesTheHeadNotice :
    (∀ s ∈ [withQueue [waiting .bid 0] bidding, leaving],
      s.sli.queue.tail = [] ∧ s.sli.queue ≠ [] ∧ Settled s ∧ s.sli.line = .idle ∧ 12 ≤ s.sli.gap ∧ s.sli.inFlight = none
        ∧ s.sli.clashWait = .stopped ∧ ¬ (s.ae.engine = .stopped ∧ silentCause s.ae.cause = true))
      ∧ bidding.sc.profile = some prof ∧ bidding.sc.slot = some 6 ∧ phaseOf bidding.ae.engine = some .waiting
      ∧ leaving.sli.leaveCopy.isSome = true ∧ congestionDue [] = false := by unfold Settled; decide +kernel

/-- A notice on the line with others queued behind it. -/
def sendingAmong (k : NoticeKind) (q : List Queued) : State := withFlight (sending k) (withQueue q (station .backoff))

theorem witness_LossesReturnTheNotice :
    (∀ s ∈ [sendingAmong .standing [waiting .bid 1, waiting .standing 1], sendingAmong .bid [waiting .yield 1],
            sendingAmong .standing [waiting .leave 1]],
      s.sli.inFlight.isSome = true ∧ Settled s ∧ s.sli.clashCount = 0
        ∧ congestionDue (queueAfterReturn ((s.sli.inFlight).getD (sending .standing)) s.sli.queue) = false)
      ∧ isQueued .leave [waiting .leave 1] = true ∧ isQueued .yield [waiting .yield 1] = true ∧ (sending .bid).dropped = false := by
  unfold Settled; decide +kernel

theorem witness_FirstClashStartsTheWait :
    let s := sendingAmong .standing []
    s.sli.inFlight = some (sending .standing) ∧ Settled s
      ∧ congestionDue (queueAfterReturn (sending .standing) s.sli.queue) = false ∧ s.sli.clashCount = 0
      ∧ s.sc.profile = some prof ∧ s.sli.leaveCopy = none := by unfold Settled; decide +kernel

/-- The station with a notice on the line and one clash counted. -/
def clashedOnce : State :=
  let s := sendingAmong .standing []
  { s with sli := { s.sli with clashCount := 1 } }

theorem witness_SlotClashStopsAnOpenStation :
    (∀ s ∈ [precharging, powered (.admitted .steady), relearning],
      s.sv.opened = true ∧ s.sc.slot = some (peer 6 2 .admitted 70).slot ∧ receives s.sli = true
        ∧ (s.sc.start = .relearn ∧ s.ae.engine = .none ∨ s.sc.start = .done ∧ s.ae.engine ≠ .none)
        ∧ ¬ (s.ae.engine = .stopped ∧ silentCause s.ae.cause = true))
      ∧ clashedOnce.sli.inFlight.isSome = true ∧ clashedOnce.sli.clashCount = 1 ∧ clashedOnce.sc.start = .done
      ∧ clashedOnce.ae.engine = .backoff ∧ precharging.pp.path ≠ .closed ∧ (powered (.admitted .steady)).pp.path = .closed
      ∧ (let s := withFlight (sending .standing) (withQueue [waiting .bid 1] (powered (.admitted .steady)))
         let t := { s with sli := { s.sli with clashCount := 1 } }
         t.sli.inFlight = some (sending .standing) ∧ t.sli.clashCount = 1 ∧ t.pp.path = .closed
          ∧ queueAfterReturn (sending .standing) t.sli.queue ≠ t.sli.queue) := by
  decide +kernel

theorem witness_LoopbackSendsTheNotice :
    let s := sendingAmong .standing [waiting .bid 1]
    s.sli.inFlight = some (sending .standing) ∧ Settled s := by unfold Settled; decide +kernel

/-- The station waiting to send its bid. -/
def bidQueued : State := let s := withQueue [waiting .bid 2] bidding; { s with ae := { s.ae with window := none } }

/-- The station with its line STUCK. -/
def stuck : State := let s := station .backoff; { s with sli := { s.sli with line := .stuck } }

theorem witness_StuckAndFreed :
    Settled bidQueued ∧ bidQueued.sli.line ≠ .stuck ∧ bidQueued.ae.engine = .bidding ∧ bidQueued.ae.bid.isSome = true
      ∧ bidQueued.sc.start = .done ∧ bidQueued.ae.window = none ∧ bidding.ae.window.isSome = true ∧ Settled bidding
      ∧ Settled stuck ∧ stuck.sli.line = .stuck ∧ stuck.ae.engine ≠ .waiting ∧ bids stuck.ae.engine = false := by
  unfold Settled; decide +kernel

/-- UPGRADE_BID with its window running or not yet open. -/
def upgradeBid (window : Timer) : State :=
  let s := withQueue [waiting .bid 2] (powered (.admitted .upgradeBid))
  { s with ae := { s.ae with bid := some 35, window := window } }

/-- WAITING with its line STUCK. -/
def stuckWaiting : State := let s := station .waiting; { s with sli := { s.sli with line := .stuck } }

theorem witness_StuckAndFreed_bids :
    (∀ w ∈ [none, some 40], Settled (upgradeBid w) ∧ Requests (upgradeBid w) ∧ (upgradeBid w).sli.line ≠ .stuck
        ∧ (upgradeBid w).ae.engine = .admitted .upgradeBid ∧ (upgradeBid w).ae.bid.isSome = true)
      ∧ Requests bidQueued ∧ bids bidQueued.ae.engine = true ∧ isQueued .bid bidQueued.sli.queue = true
      ∧ (∀ s ∈ [station .waiting, stuckWaiting], Settled s ∧ s.sc.profile = some prof ∧ s.ae.vC = some 400 ∧ s.ae.engine = .waiting
          ∧ s.ae.bid = none ∧ Requests s)
      ∧ (station .waiting).sli.line ≠ .stuck ∧ stuckWaiting.sli.line = .stuck := by unfold Settled Requests; decide +kernel

/-- The evaluation of WAITING: the conditions hold on a quiet line, and fail on an IMPAIRED one. -/
theorem witness_bid_conditions_both_ways :
    (bidConditions prof 400 (station .waiting)).toOption.isSome = true
      ∧ (bidConditions prof 400 (let s := station .waiting; { s with sli := { s.sli with impaired := true } })).toOption = none := by
  decide +kernel

/-- The station with errors counted. -/
def withErrors (n : Nat) (impaired : Bool) : State :=
  let s := station .backoff
  { s with sli := { s.sli with errors := n, impaired := impaired } }

theorem witness_QualityIntervalSetsImpaired :
    (∀ n ∈ [0, 1, 2, 7, 8, 255], Settled (withErrors n true) ∧ Settled (withErrors n false))
      ∧ (withErrors 8 false).ae.engine ≠ .waiting ∧ bids (withErrors 8 false).ae.engine = false := by
  unfold Settled; decide +kernel

/-- The interval's end changes IMPAIRED: set in BIDDING, UPGRADE_BID and WAITING, clear in a running bid and in WAITING. -/
theorem witness_QualityIntervalSetsImpaired_bids :
    let count := fun (n : Nat) (i : Bool) (s : State) => { s with sli := { s.sli with errors := n, impaired := i } }
    (∀ x ∈ [(bidQueued, Engine.bidding), (upgradeBid none, .admitted .upgradeBid), (upgradeBid (some 40), .admitted .upgradeBid),
            (station .waiting, .waiting)],
      let s := count 8 false x.1
      Settled s ∧ Requests s ∧ s.sc.start = .done ∧ s.ae.engine = x.2 ∧ (s.ae.bid.isSome = true ↔ x.2 ≠ .waiting)
        ∧ s.sli.impaired = false ∧ sees .qualityIntervalEnd s (fun t => t.sli.impaired) = some true)
      ∧ (∀ x ∈ [upgradeBid none, station .waiting], sees .qualityIntervalEnd (count 1 true x) (fun t => t.sli.impaired) = some false)
      ∧ (station .waiting).sc.profile = some prof ∧ (station .waiting).ae.vC = some 400 ∧ (station .waiting).ae.bid = none := by
  unfold Settled Requests; decide +kernel

theorem witness_LineCountsAndTimers :
    let s := station .backoff
    let g := fun n => { s with sli := { s.sli with gap := n, clashWait := .running 0 } }
    Settled s ∧ Settled (g 11) ∧ (g 11).sli.line = .idle ∧ (g 11).sli.gap < 12 ∧ 12 ≤ (g 12).sli.gap
      ∧ (g 12).sli.clashWait = .running 0 ∧ 250 ≤ (waiting .standing 250).waited ∧ (waiting .standing 250).congested = false
      ∧ ({ (waiting .standing 250) with congested := true } : Queued).congested = true ∧ Requests s ∧ s.sli.periodic.isSome = true := by
  unfold Settled Requests; decide +kernel

theorem witness_NoticesWriteTheirEntry :
    (∀ s ∈ [station .backoff, withPeers fivePeers (powered (.retiring .draining))],
      s.sv.opened = true ∧ s.sc.slot ≠ some (peer 12 0 .bringup 70).slot ∧ receives s.sli = true ∧ Settled s
        ∧ s.ae.engine ≠ .waiting ∧ phaseOf s.ae.engine ≠ some .admitted ∧ s.ae.engine ≠ .retiring .handover
        ∧ s.ae.engine ≠ .retiring .held ∧ s.held.takeover = false) := by unfold Settled; decide +kernel

theorem witness_LeaveRemovesTheEntry :
    let s := withPeers fivePeers (station .backoff)
    s.sv.opened = true ∧ s.sc.slot ≠ some (peer 12 0 .stopped 0).slot ∧ receives s.sli = true ∧ Settled s
      ∧ (peer 12 1 .waiting 0).slot = (peer 12 0 .stopped 0).slot
      ∧ (lookup s.sv.table 12).isSome = true ∧ lookup s.sv.table 13 = none := by unfold Settled; decide +kernel

theorem witness_FramesThatDoNotReachTheView :
    let s := station .backoff
    let closed := starting .loading
    let early := { s with sli := { s.sli with gap := 11 } }
    Settled s ∧ receives s.sli = true ∧ decodeFrame 1 = none ∧ Settled closed ∧ receives closed.sli = true
      ∧ closed.sv.opened = false ∧ stuck.sli.line = .stuck ∧ (sendingAmong .standing []).sli.inFlight.isSome = true
      ∧ Settled early ∧ early.sli.line = .idle ∧ early.sli.gap < 12 ∧ early.sli.deaf = false
      ∧ ({ s.sli with line := .busy, deaf := true } : LineInterface).deaf = true ∧ s.sli.inFlight = none := by
  unfold Settled; decide +kernel

theorem witness_EntriesAgeAndExpire :
    ∀ ms ∈ [199, 200, 999, 1000],
      let s := withPeers (aged ms) (station .backoff)
      Settled s ∧ ascending s.sv.table = true ∧ lookup s.sv.table 13 = none
        ∧ (lookup s.sv.table 12).map (fun e => (e.stale, e.age)) = some (false, ms) := by
  unfold Settled; decide +kernel

theorem witness_SumsFollowTheTable :
    ascending fivePeers = true ∧ prof.rsv ≤ cMin prof.f fivePeers
      ∧ cMin prof.f fivePeers ≤ ({ prof with rsv := 500 } : ProfileData).rsv := by decide +kernel

theorem witness_FeedTargets :
    ∀ v ∈ [0, 199, 200, 359, 360, 379, 380, 730, 731, 750, 751, 1023],
      v ≤ 199 ∨ (200 ≤ v ∧ v ≤ 359) ∨ (360 ≤ v ∧ v ≤ 379) ∨ (380 ≤ v ∧ v ≤ 730) ∨ (731 ≤ v ∧ v ≤ 750) ∨ (751 ≤ v ∧ v ≤ 1023) := by
  decide

theorem witness_FeedSampleClassifies : Settled (station .backoff) ∧ Settled (powered (.admitted .steady)) := by
  unfold Settled; decide +kernel

/-- A sample at which V_min8 falls to 388 dV, in POWERING, BRINGUP and WAITING. -/
theorem witness_FeedSampleClassifies_claims :
    (∀ s ∈ [precharging, stepping .pace 1 0, station .waiting, withPeers fivePeers (station .waiting)],
      s.sc.profile = some prof ∧ s.ae.vC = some 400 ∧ Settled s
        ∧ sees (.feedSample 388 385) s (fun t => (vMin8 t, overvoltage t.fs)) = some (388, false) ∧ vMin8 s ≠ 388)
      ∧ min prof.vPlan (max 388 360) ≠ 400 ∧ precharging.ae.iSet = some 37 ∧ precharging.ae.engine = .powering ∧ Requests precharging
      ∧ sees (.feedSample 388 385) precharging ownClaim = some 47 ∧ ownClaim precharging < 47
      ∧ (stepping .pace 1 0).ae.engine = .bringup ∧ gateOn (station .waiting) = false
      ∧ (sees (.feedSample 450 450) (station .waiting) fun t => (vMin8 t, t.ae.engine)) = some (450, .bidding)
      ∧ (sees (.feedSample 388 385) (station .waiting) fun t => (t.ae.engine, t.ae.reason)) = some (.waiting, .feed) := by
  unfold Settled Requests; decide +kernel

/-- The powered station with A at its third sample over 750 dV. -/
def surging : State :=
  let s := powered (.admitted .steady)
  { s with fs := { s.fs with a := { sample := 766, state := .good, pending := some .high, count := 3 } } }

/-- The powered station with its ride-through timer run out. -/
def feedless : State := let s := powered (.retiring .held); { s with fs := { s.fs with ride := some 0 } }

theorem witness_FeedFaultsOpenThePath :
    (∀ s ∈ [surging, feedless], s.sc.start = .done ∧ Settled s ∧ gateOn s = true ∧ 50 ≤ s.pp.vBulk ∧ s.ae.source = .none
        ∧ s.ae.bringupFault = false ∧ holdsBlade s.ae.engine = true)
      ∧ feedless.fs.ride.isSome = true ∧ overvoltage surging.fs = false ∧ overvoltage (sampledFeeds surging.fs 768 520) = true := by
  unfold Settled; decide +kernel

theorem witness_SetpointStaysWithinItsLimits :
    ∃ p vC vF gate h level iSet resv, 0 < vF ∧ evaluate p vC vF gate h = .setpoint level iSet resv ∧ p.pPk ≤ 800 ∧ 360 ≤ vF :=
  ⟨prof, 400, 535, true, 48, .reduced, 37, 45, by decide +kernel⟩

theorem witness_ClaimsAndPrechargeTimesRoundUp :
    (360 ≤ prof.vPlan ∧ prof.vPlan ≤ 600 ∧ 10 ≤ prof.pFull ∧ prof.pFull ≤ 1500 ∧ prof.pRed = some 180 ∧ 180 < prof.pFull)
      ∧ ∀ x ∈ [(100, 360, 222), (20000, 1023, 5), (3300, 535, 37)],
          100 ≤ x.1 ∧ x.1 ≤ 20000 ∧ 360 ≤ x.2.1 ∧ x.2.1 ≤ 1023 ∧ 5 ≤ x.2.2 ∧ x.2.2 ≤ 222 := by decide +kernel

theorem witness_BidWindowExpiryWins :
    bidding.sc.profile = some prof ∧ bidding.ae.vC = some 400 ∧ bidding.sc.start = .done ∧ bidding.ae.engine = .bidding
      ∧ bidding.ae.window.isSome = true ∧ Requests bidding ∧ Settled bidding ∧ bidding.pp.path = .opened
      ∧ bidding.sli.line ≠ .stuck ∧ bidding.sli.impaired = false
      ∧ evaluate prof 400 bidding.fs.vF (feedGate prof bidding)
          ((cEff prof bidding.sv.table : Int) - committedLoad bidding.sv.table - betterBids (ownRank bidding) bidding.sv.table)
          = .setpoint .reduced 37 45
      ∧ prechargingCount bidding.sv.table + betterInitialBids (ownRank bidding) bidding.sv.table < prof.k := by
  unfold Settled Requests; decide +kernel

/-- That bid with the line IMPAIRED, its BID still queued. -/
def impairedBid : State :=
  let s := withQueue [waiting .bid 2] bidding
  { s with sli := { s.sli with impaired := true } }

theorem witness_BidWindowExpiryFails :
    impairedBid.sc.profile = some prof ∧ impairedBid.ae.vC = some 400 ∧ impairedBid.sc.start = .done
      ∧ impairedBid.ae.engine = .bidding ∧ impairedBid.ae.bid.isSome = true ∧ impairedBid.ae.window.isSome = true
      ∧ Requests impairedBid ∧ Settled impairedBid ∧ congestionDue (dequeue .bid impairedBid.sli.queue) = false
      ∧ impairedBid.sli.impaired = true ∧ isQueued .bid impairedBid.sli.queue = true ∧ isQueued .bid bidding.sli.queue = false := by
  unfold Settled Requests; decide +kernel

/-- BACKOFF, and COOLDOWN, each with its own timer run out and no other. -/
def rested (e : Engine) : State :=
  let s := station e
  { s with ae := { s.ae with backoff := if e = .backoff then some 0 else none, cooldown := if e = .cooldown then some 0 else none } }

/-- A peer's notice that no state of these tests has in its view. -/
def news : Notice := peer 5 0 .admitted 20

theorem witness_BackoffAndCooldownEndInWaiting :
    (∀ s ∈ [rested .backoff, rested .cooldown],
      s.sc.profile = some prof ∧ s.ae.vC = some 400 ∧ s.sc.start = .done ∧ s.ae.bid = none ∧ Requests s ∧ Settled s)
      ∧ (rested .backoff).ae.engine = .backoff ∧ (rested .backoff).ae.backoff.isSome = true ∧ (rested .backoff).ae.cooldown = none
      ∧ (rested .cooldown).ae.engine = .cooldown ∧ (rested .cooldown).ae.cooldown.isSome = true
      ∧ (rested .cooldown).ae.backoff = none
      ∧ feedGate prof (rested .backoff) = true ∧ lineFine (rested .backoff) = true
      ∧ deniedBy prof 400 535 (cEff prof []) = false := by unfold Settled Requests; decide +kernel

theorem witness_BackoffAndCooldownEndInWaiting_view :
    let s := station .waiting
    s.sc.profile = some prof ∧ s.ae.vC = some 400 ∧ s.sc.start = .done ∧ s.ae.bid = none ∧ Requests s ∧ Settled s
      ∧ s.sv.opened = true ∧ receives s.sli = true ∧ s.sc.slot ≠ some news.slot ∧ lookup s.sv.table news.slot = none
      ∧ (sees (.standingNotice news) s fun t => t.ae.engine) = some .bidding
      ∧ (sees (.standingNotice { news with claim := 380 }) s fun t => (t.ae.engine, t.ae.reason)) = some (.waiting, .noRoom)
      ∧ (sees (.standingNotice { news with capacity := 50 }) s fun t => (t.ae.engine, t.ae.reason)) = some (.waiting, .denied) := by
  unfold Settled Requests; decide +kernel

/-- SHEDDING with its wait run out. -/
def shedding (source : RetireSource) : State :=
  let s := powered (.admitted .shedding)
  { s with ae := { s.ae with profile := .full, shedWait := some 0, source := source } }

theorem witness_ShedCompletes :
    ∀ s ∈ [shedding .none, shedding .command, (let s := shedding .latch; { s with rc := { s.rc with latchOpen := true } })],
      s.sc.profile = some prof ∧ s.ae.vC = some 400 ∧ s.sc.start = .done ∧ s.ae.engine = .admitted .shedding
        ∧ s.ae.profile = .full ∧ s.ae.bid = none ∧ Requests s ∧ Settled s ∧ s.ae.shedWait.isSome = true
        ∧ prof.pRed.isSome = true ∧ (s.ae.engine = .admitted .steady → s.ae.source = .none)
        ∧ (s.ae.source = .latch → s.rc.latchOpen = true) := by
  unfold Settled Requests; decide +kernel

/-- A better-ranked peer that leaves 10 cu to this station. -/
def crowd : Notice := peer 5 0 .admitted 370

/-- The ADMITTED states in which crowd begins an excursion, or finds one: no mate is configured. -/
def admittedStates : List (AdmittedSub × State) :=
  let base := fun (sub : AdmittedSub) (level : PowerLevel) (exc ack : Bool) =>
    let s := powered (.admitted sub)
    (sub, { s with sc := { s.sc with profile := some { prof with mate := none } }, inp := { s.inp with profAck := ack }
                   ae := { s.ae with profile := level, excursion := exc, bid := if sub = .upgradeBid then some 35 else none } })
  [ base .steady .full true true, base .shedding .full false true, base .steady .full false true, base .steady .full false false,
    base .steady .reduced false true, base .upgradeBid .reduced false true ]

theorem witness_ShedCompletes_excursions :
    (∀ x ∈ admittedStates,
      let s := x.2
      s.ae.engine = .admitted x.1 ∧ s.sc.profile = some { prof with mate := none } ∧ s.ae.vC = some 400 ∧ s.sc.start = .done
        ∧ Requests s ∧ Settled s ∧ s.sv.opened = true ∧ receives s.sli = true ∧ s.sc.slot ≠ some crowd.slot
        ∧ lookup s.sv.table crowd.slot = none ∧ ownMate s = none ∧ s.held.takeover = false ∧ s.ae.source = .none
        ∧ (s.ae.engine = .admitted .steady → s.ae.source = .none) ∧ (s.ae.source = .latch → s.rc.latchOpen = true)
        ∧ (s.ae.bid.isSome = true ↔ x.1 = .upgradeBid)
        ∧ (let table := insertEntry (entryOf .standing crowd) s.sv.table
           cEff prof table < steadyClaim prof 400 s.ae.profile + ((table.filter (fun e => e.rank < ownRank s)).map loadOf).sum))
      ∧ admittedStates.map (fun x => (x.2.ae.excursion, x.2.inp.profAck))
        = [(true, true), (false, true), (false, true), (false, false), (false, true), (false, true)] := by
  unfold Settled Requests; decide +kernel

/-- UPGRADE_BID with its window run out. -/
def upgrading (t : List Entry) : State :=
  let s := withPeers t (powered (.admitted .upgradeBid))
  { s with ae := { s.ae with bid := some 35, window := some 0 } }

theorem witness_UpgradeWindowExpiry :
    (∀ s ∈ [upgrading [], upgrading fivePeers],
      s.sc.profile = some prof ∧ s.ae.vC = some 400 ∧ s.sc.start = .done ∧ s.ae.engine = .admitted .upgradeBid
        ∧ s.ae.profile = .reduced ∧ s.ae.bid.isSome = true ∧ s.ae.window.isSome = true ∧ Requests s ∧ Settled s
        ∧ congestionDue (dequeue .bid s.sli.queue) = false ∧ s.sli.line ≠ .stuck ∧ s.sli.impaired = false)
      ∧ committedLoad [] + betterBids 38 [] + sFull prof 400 ≤ cEff prof []
      ∧ cEff prof fivePeers < committedLoad fivePeers + betterBids 38 fivePeers + sFull prof 400 := by
  unfold Settled Requests; decide +kernel

theorem witness_UpgradeWindowExpiry_opening :
    let s0 := powered (.admitted .steady)
    let s := { s0 with sc := { s0.sc with profile := some { prof with mate := none } } }
    let p := { prof with mate := none }
    s.sc.profile = some p ∧ s.ae.vC = some 400 ∧ s.sc.start = .done ∧ s.ae.profile = .reduced ∧ Requests s ∧ Settled s
      ∧ s.ae.engine = .admitted .steady ∧ s.sv.opened = true ∧ receives s.sli = true ∧ s.sc.slot ≠ some news.slot
      ∧ lookup s.sv.table news.slot = none ∧ ownMate s = none ∧ s.held.takeover = false ∧ s.ae.bid = none
      ∧ s.ae.profFullPending = false ∧ s.ae.retryHold = none ∧ s.ae.upgradeHold = none
      ∧ (let table := insertEntry (entryOf .standing news) s.sv.table
         steadyClaim p 400 .reduced + ((table.filter (fun e => e.rank < ownRank s)).map loadOf).sum ≤ cEff p table
          ∧ committedLoad table + sFull p 400 + p.u ≤ cEff p table)
      ∧ (sees (.standingNotice { news with claim := 291 }) s fun t => t.ae.engine) = some (.admitted .steady) := by
  unfold Settled Requests; decide +kernel

theorem witness_SingleInputsAndHolds :
    let s := powered (.admitted .steady)
    Settled s ∧ s.ae.engine ≠ .admitted .shedding ∧ s.ae.engine ≠ .retiring .draining ∧ s.bp.prog ≠ .forward
      ∧ s.ae.engine ≠ .none ∧ Requests s ∧ Settled (starting .loading) ∧ (starting .loading).ae.engine = .none := by
  unfold Settled Requests; decide +kernel

theorem witness_PrechargeSampleTakesItsSteps :
    precharging.pp.path = .precharge ∧ precharging.pp.discharged = false ∧ Settled precharging
      ∧ precharging.pp.elapsed < precharging.pp.deadline ∧ feedsFit precharging.fs = true
      ∧ precharging.fs.vF ≤ min 515 1023 + 20 ∧ min 514 1023 + 20 < precharging.fs.vF := by unfold Settled; decide +kernel

/-- A step that waits for STEP. -/
def pacedStep : StepRecord := { action := .note, cond := .always, paced := true, dwell := 0, timeout := 100, teardown := 4 }

/-- CLOSING in a station whose first step is paced. -/
def pacedClosing : State :=
  let s := closing 525
  { s with sc := { s.sc with profile := some { prof with steps := pacedStep :: sevenSteps } } }

theorem witness_ClosingExpiryClosesTheSwitch :
    ∃ p r rest s, s.sc.profile = some p ∧ p.steps = r :: rest ∧ s.sc.start = .done ∧ s.ae.engine = .powering
      ∧ s.ae.source = .none ∧ s.ae.bid = none ∧ s.bp.prog = .off ∧ s.pp.path = .closing ∧ s.pp.closing.isSome = true
      ∧ s.fs.vF ≤ s.pp.vBulk + 10 ∧ Requests s ∧ Settled s ∧ r.paced = true :=
  ⟨{ prof with steps := pacedStep :: sevenSteps }, pacedStep, sevenSteps, pacedClosing, by
    unfold Settled Requests; decide +kernel⟩

theorem witness_CountedFaultsTakeTheRetryRule :
    (∀ s ∈ [precharging, closing 524, powered (.admitted .steady), { (powered .bringup) with
        ae := { (powered .bringup).ae with retryCount := 2 } }],
      s.sc.profile = some prof ∧ s.sc.start = .done ∧ Settled s ∧ Requests s ∧ s.ae.source = .none ∧ s.ae.bid = none)
      ∧ 50 ≤ (closing 524).pp.vBulk ∧ (closing 524).pp.vBulk + 10 < (closing 524).fs.vF
      ∧ 50 ≤ (powered (.admitted .steady)).pp.vBulk ∧ (powered (.admitted .steady)).pp.iTrip < min 91 1023
      ∧ min (2 * (powered (.admitted .steady)).pp.iTrip) 1023 < min 181 1023 := by unfold Settled Requests; decide +kernel

/-- PRECHARGE aborted by its deadline with the bulk node at 300 dV. -/
def lateCharge : State := { precharging with pp := { precharging.pp with vBulk := 300 } }

theorem witness_CountedFaultsTakeTheRetryRule_timeout :
    lateCharge.sc.profile = some prof ∧ lateCharge.sc.start = .done ∧ Settled lateCharge ∧ Requests lateCharge
      ∧ lateCharge.ae.source = .none ∧ 50 ≤ 300 ∧ 50 ≤ lateCharge.pp.vBulk ∧ lateCharge.pp.path = .precharge
      ∧ lateCharge.ae.engine = .powering ∧ min 300 1023 + 20 < lateCharge.fs.vF := by unfold Settled Requests; decide +kernel

/-- The powered station with its counts one short. -/
def countsShort : State :=
  let s := powered (.admitted .steady)
  { s with pp := { s.pp with overCount := 999, slowCount := 2 } }

theorem witness_ClosedSamplesCount :
    countsShort.pp.path = .closed ∧ countsShort.pp.discharged = false ∧ Settled countsShort
      ∧ min 180 1023 ≤ min (2 * countsShort.pp.iTrip) 1023 ∧ countsShort.pp.slowCount < 3
      ∧ min 45 1023 ≤ ownClaim countsShort ∧ ownClaim countsShort < min 46 1023 ∧ countsShort.pp.overclaim = false
      ∧ countsShort.pp.overCount = 999 := by unfold Settled; decide +kernel

theorem witness_DischargeCompletesBelowFifty :
    (∀ x ∈ [DischargeExit.cooldown, .released, .stopped, .waiting],
      let s := draining x
      Settled s ∧ s.pp.path = .opened ∧ s.pp.discharged = false ∧ s.ae.engine = .discharging ∧ s.ae.exit = x
        ∧ s.sc.profile.isSome = true ∧ s.ae.vC.isSome = true)
      ∧ (draining .cooldown).pp.discharge.isSome = true ∧ (draining .cooldown).pp.slowMark = false ∧ 50 ≤ 50 ∧ 49 < 50 := by
  unfold Settled; decide +kernel

theorem witness_StepEdgePacesTheStep :
    let s := stepping .pace 5 4
    Settled s ∧ s.bp.prog = .forward ∧ s.bp.sub = .pace ∧ s.bp.foundUp = false ∧ currentStep s = sevenSteps[4]?
      ∧ (sevenSteps[4]?).map (fun r => decide (0 < r.dwell)) = some true
      ∧ (stepping .condition 4 4).bp.sub ≠ .pace ∧ (powered (.admitted .steady)).bp.prog ≠ .forward := by
  unfold Settled; decide +kernel

/-- DWELL at a step, its timer run out. -/
def dwelling (n : Nat) : State :=
  let s := stepping .dwell n n
  { s with bp := { s.bp with stepTimer := none, dwell := some 0 } }

theorem witness_ConditionsAndDwellsEndSteps :
    (∀ s ∈ [stepping .condition 1 1, dwelling 4, dwelling 7],
      Settled s ∧ s.bp.prog = .forward ∧ s.bp.foundUp = false ∧ s.bp.reconcile = false)
      ∧ (stepping .condition 1 1).bp.sub = .condition ∧ currentStep (stepping .condition 1 1) = sevenSteps[0]?
      ∧ conditionMet (.powerGood 0) { (stepping .condition 1 1).inp with railPg := 1, payReady := false } = true
      ∧ conditionMet (.powerGood 0) { (stepping .condition 1 1).inp with railPg := 0, payReady := false } = false
      ∧ (dwelling 4).bp.sub = .dwell ∧ (dwelling 4).bp.dwell.isSome = true ∧ (dwelling 4).bp.edge = false
      ∧ ((stepTable (dwelling 4))[4]?).map (·.paced) = some true ∧ (dwelling 7).bp.pointer = (stepTable (dwelling 7)).length
      ∧ (dwelling 7).ae.engine = .bringup ∧ (dwelling 7).ae.source = .none ∧ (dwelling 7).sc.start = .done
      ∧ Requests (dwelling 7) := by unfold Settled Requests; decide +kernel

/-- A reconcile run at a step, its latches at given levels: found up in CONDITION, or not up in DWELL. -/
def reconciling (found : Bool) (n : Nat) (held : HeldOutputs) : State :=
  let s := if found then stepping .condition n n else dwelling n
  { s with held := held, bp := { s.bp with reconcile := true, foundUp := found } }

/-- A reconcile run's next step: found up with its condition met or not, paced and down, and down with no edge to wait for. -/
theorem witness_ConditionsAndDwellsEndSteps_reconcile :
    let up : HeldOutputs := { HeldOutputs.deasserted with rails := 3, clk := true }
    (∀ s ∈ [reconciling true 1 up, reconciling true 2 up, reconciling false 1 up, reconciling false 4 up, reconciling true 3 up],
      Settled s ∧ s.bp.prog = .forward ∧ s.bp.reconcile = true ∧ s.bp.pointer < (stepTable s).length)
      ∧ (reconciling true 1 up).bp.sub = .condition ∧ (reconciling true 1 up).bp.foundUp = true
      ∧ (currentStep (reconciling true 1 up)).map (·.cond) = some (.powerGood 0)
      ∧ (conditionMet (.powerGood 0) { (reconciling true 1 up).inp with railPg := 1 } = true
          ∧ conditionMet (.powerGood 1) { (reconciling true 1 up).inp with railPg := 1 } = false
          ∧ conditionMet (.powerGood 1) { (reconciling true 1 up).inp with railPg := 3 } = true)
      ∧ (stepTable (reconciling true 1 up))[1]?.map (fun r => (r.cond, stepIsUp r.action up)) = some (.powerGood 1, true)
      ∧ (stepTable (reconciling false 4 up))[4]?.map (fun r => (r.paced, stepIsUp r.action up)) = some (true, false)
      ∧ (stepTable (reconciling true 3 up))[3]?.map (fun r => (r.paced, stepIsUp r.action up)) = some (false, true)
      ∧ (stepTable (reconciling false 1 HeldOutputs.deasserted))[1]?.map (fun r => (r.paced, stepIsUp r.action HeldOutputs.deasserted))
        = some (false, false)
      ∧ (reconciling false 1 up).bp.sub = .dwell ∧ (reconciling false 1 up).bp.dwell.isSome = true
      ∧ (reconciling false 4 up).bp.edge = false := by unfold Settled; decide +kernel

/-- TEARDOWN at a step, its dwell run out. -/
def undone (n : Nat) (fault : Bool) : State :=
  let s := powered (if fault then .bringup else .retiring .teardown)
  { s with bp := { s.bp with prog := .teardown, pointer := n, teardown := some 0 }, ae := { s.ae with bringupFault := fault } }

/-- A step in PACE or CONDITION whose timer has run out. -/
def runOut (sub : ForwardSub) (n done : Nat) : State :=
  let s := stepping sub n done
  { s with bp := { s.bp with stepTimer := some 0 } }

theorem witness_TimeoutAndTeardownUndoSteps :
    let s := runOut .condition 4 4
    Settled s ∧ s.bp.prog = .forward ∧ s.bp.sub ≠ .dwell ∧ s.bp.stepTimer = some 0 ∧ s.bp.completed = 3 + 1
      ∧ ((stepTable s)[3]?).map (·.teardown) = some 100 ∧ (undone 2 false).bp.pointer = 0 + 2
      ∧ ((stepTable (undone 2 false))[0]?).map (·.teardown) = some 40
      ∧ (∀ x ∈ [undone 1 false, undone 1 true, undone 2 false],
          Settled x ∧ x.bp.prog = .teardown ∧ x.bp.teardown.isSome = true ∧ x.pp.path = .closed ∧ 50 ≤ x.pp.vBulk
            ∧ x.sc.start = .done ∧ holdsBlade x.ae.engine = true ∧ x.ae.source = .none) := by unfold Settled; decide +kernel

/-- A step in PACE whose dwell is 0 ms, its timer run out, with another paced step behind it. -/
def pacedRunOut : State :=
  let s := runOut .pace 1 0
  { s with sc := { s.sc with profile := some { prof with steps := [pacedStep, pacedStep] } } }

/-- The two arrivals of R131 that end their step as its timer runs out, and an expiry that finds time left, a dwell or no run. -/
theorem witness_TimeoutAndTeardownUndoSteps_together :
    (∀ s ∈ [runOut .condition 4 4, pacedRunOut],
      Settled s ∧ s.bp.prog = .forward ∧ s.bp.foundUp = false ∧ s.bp.reconcile = false ∧ s.bp.edge = false
        ∧ (currentStep s).map (·.dwell) = some 0
        ∧ ((stepTable s)[s.bp.pointer]?).map (fun q => (q.paced, decide (0 < q.timeout))) = some (true, true))
      ∧ (runOut .condition 4 4).bp.sub = .condition ∧ (currentStep (runOut .condition 4 4)).map (·.cond) = some .ready
      ∧ conditionMet .ready { (runOut .condition 4 4).inp with railPg := 3, payReady := true } = true
      ∧ pacedRunOut.bp.sub = .pace ∧ (currentStep pacedRunOut).map (·.cond) = some .always
      ∧ (∀ s ∈ [stepping .condition 4 4, dwelling 4, powered (.admitted .steady)],
          Settled s ∧ ¬ (s.bp.prog = .forward ∧ s.bp.sub ≠ .dwell ∧ s.bp.stepTimer = some 0)) := by unfold Settled; decide +kernel

theorem witness_EveryOpeningEndsTheProgram :
    ∃ c s t, AttemptOk s ∧ exec c s = .next t ∧ gateOn s = true ∧ gateOn t = false ∧ (∀ b x a, c ≠ .powerOnReset b x a)
      ∧ (∀ x g, c ≠ .restartNFall x g) ∧ (∀ x g, c ≠ .restart x g) := by
  have h : (after .forceOff (powered (.admitted .steady))).map gateOn = some false := by decide +kernel
  obtain ⟨t, ht⟩ := next_of_goesOn .forceOff (powered (.admitted .steady)) (by decide +kernel)
  refine ⟨.forceOff, powered (.admitted .steady), t, by unfold AttemptOk StartOk HeldOk; decide +kernel, ht, by decide +kernel, ?_,
    by simp, by simp, by simp⟩
  simpa [after, ht] using h

theorem witness_EveryOpeningEndsTheProgram_step : ∃ s t, AttemptOk s ∧ gateOn s = true ∧ step s = .next t := by
  obtain ⟨t, ht⟩ := next_of_goesOn .closingExpiry { (closing 531) with pending := [] } (by decide +kernel)
  exact ⟨{ (closing 531) with pending := [.closingExpiry] }, t, by unfold AttemptOk StartOk HeldOk; decide +kernel, by decide +kernel, ht⟩

/-- The station in DISCHARGING by a latch retire, and in RELEASED. -/
def latchDraining : State := let s := draining .released; { s with ae := { s.ae with source := .latch } }

theorem witness_LatchLevelsAndClosings :
    Settled latchDraining ∧ latchDraining.ae.engine = .discharging ∧ latchDraining.ae.source = .latch
      ∧ Settled (station .released) ∧ (station .released).ae.engine = .released ∧ (station .released).sc.start = .done
      ∧ (station .released).sc.profile.isSome = true ∧ (station .released).ae.vC.isSome = true ∧ Requests (station .released)
      ∧ Settled (station .waiting) ∧ (station .waiting).ae.source ≠ .latch ∧ (station .waiting).ae.engine ≠ .released := by
  unfold Settled Requests; decide +kernel

/-- STOPPED with a cause. -/
def stopped (cause : FaultCause) : State :=
  let s := station .stopped
  { s with ae := { s.ae with cause := cause }, sli := { s.sli with periodic := if silentCause cause then none else some 30 } }

/-- A state in which a retire request is taken, for each state of the engine. -/
def requested : List State :=
  [ station .waiting, bidding, station .backoff, station .cooldown, stopped .retryExhausted, lateCharge, draining .cooldown,
    stepping .pace 2 1, (let s := stepping .pace 2 1; { s with ae := { s.ae with bringupFault := true } }),
    powered (.admitted .steady), upgrading [], powered (.admitted .shedding), powered (.retiring .held), station .released ]

theorem witness_RetireRequestsByState :
    (∀ s ∈ requested, s.sc.profile = some prof ∧ s.sc.start = .done ∧ Requests s ∧ Settled s ∧ s.ae.source = .none
      ∧ s.ae.engine ≠ .none)
      ∧ requested.map (fun s => engineCode s.ae.engine) = [1, 2, 3, 9, 11, 4, 8, 5, 5, 6, 6, 6, 7, 10]
      ∧ bidding.ae.bid.isSome = true ∧ gateOn lateCharge = true ∧ 50 ≤ lateCharge.pp.vBulk
      ∧ (stepping .pace 2 1).bp.prog = .forward ∧ (stepping .pace 2 1).bp.completed = 0 + 1
      ∧ ((stepTable (stepping .pace 2 1))[0]?).map (·.teardown) = some 40 ∧ (upgrading []).ae.bid.isSome = true
      ∧ (∀ s ∈ [powered (.admitted .steady), upgrading []],
          s.rc.latchHeld = false ∧ handoverCondition s = false ∧ s.inp.quiesced = false ∧ ownMate s ≠ none ∧ s.ae.carrying = false)
      ∧ latchDraining.ae.source ≠ .none ∧ Settled latchDraining ∧ Settled (starting .loading)
      ∧ (starting .loading).ae.engine = .none ∧ Settled (stopped .gaParity) ∧ (stopped .gaParity).ae.engine = .stopped
      ∧ silentCause (stopped .gaParity).ae.cause = true := by
  unfold Settled Requests; decide +kernel

/-- The powered station in a substate of RETIRING with its timers running. -/
def retiring (sub : RetiringSub) : State :=
  let s := powered (.retiring sub)
  { s with rc := { s.rc with force := some 9, handover := some 9, quiesce := some 9 } }

theorem witness_RetiringSubstatesEnd :
    (∀ sub ∈ [RetiringSub.handover, .held, .draining, .teardown],
      let s := retiring sub
      Settled s ∧ s.sc.profile = some prof ∧ s.sc.start = .done ∧ s.rc.handover.isSome = true ∧ s.rc.force.isSome = true
        ∧ s.inp.quiesced = false ∧ s.rc.quiesce.isSome = true ∧ s.bp.prog = .up)
      ∧ (let s := retiring .draining
         let t := { s with sc := { s.sc with profile := some { prof with steps := [pacedStep] } } }
         (stepTable t).length = 0 + 1 ∧ (stepTable t)[0]? = some pacedStep ∧ 0 < pacedStep.teardown ∧ Settled t) := by
  unfold Settled; decide +kernel

/-- The mate in slot 13, as R145, R154 and R155 read it. -/
def mateSays (phase : Phase) (carrying request : Bool) : Notice :=
  { (peer 13 1 phase 45) with carrying := carrying, handoverReq := request, mate := some 6 }

theorem witness_RetiringSubstatesEnd_mate :
    let taken := fun (gone : Bool) =>
      let s := withPeers [entryOf .standing (mateSays .retiring true true)] (powered (.admitted .steady))
      { s with held := { s.held with takeover := true }, rc := { s.rc with mateGone := gone } }
    (∀ s ∈ [retiring .handover, retiring .held, powered (.admitted .steady), taken false, taken true],
      Settled s ∧ s.sc.profile = some prof ∧ s.sc.start = .done ∧ s.sc.slot = some 6 ∧ ownMate s = some 13 ∧ s.sv.opened = true
        ∧ receives s.sli = true ∧ s.inp.quiesced = false ∧ s.ae.source = .none)
      ∧ (retiring .held).held.takeover = false ∧ lookup (retiring .held).sv.table 13 = none
      ∧ (powered (.admitted .steady)).held.takeover = false ∧ (taken false).held.takeover = true
      ∧ (lookup (taken true).sv.table 13).isSome = true
      ∧ (∀ x ∈ [mateSays .stopped true true, mateSays .admitted true false, mateSays .admitted false true, mateSays .waiting false false],
          x.slot = 13 ∧ ∀ e, lookup (taken true).sv.table 13 = some e → { e with age := 0 } ≠ entryOf .standing x) := by
  refine ⟨by unfold Settled; decide +kernel, by decide +kernel, by decide +kernel, by decide +kernel, by decide +kernel,
    by decide +kernel, ?_⟩
  have h : lookup [entryOf .standing (mateSays .retiring true true)] 13 = some (entryOf .standing (mateSays .retiring true true)) := by
    decide +kernel
  intro x hx
  refine ⟨by revert x; decide +kernel, fun e he => ?_⟩
  obtain rfl : entryOf .standing (mateSays .retiring true true) = e := Option.some.inj (h ▸ he)
  revert x; decide +kernel

theorem witness_CancelsComeFromTheSource :
    (∀ x ∈ [(Engine.retiring .handover, RetireSource.latch), (.retiring .held, .command), (.retiring .draining, .command),
            (.admitted .shedding, .latch)],
      let s := powered x.1
      let t := { s with ae := { s.ae with source := x.2 } }
      Settled t ∧ Requests t ∧ t.sc.start = .done ∧ t.ae.engine ≠ .none ∧ t.ae.source = x.2 ∧ cancellable t = true)
      ∧ (let s := draining .released
         let t := { s with ae := { s.ae with source := .command } }
         Settled t ∧ Requests t ∧ t.ae.source = .command ∧ cancellable t = false) := by unfold Settled Requests; decide +kernel

theorem witness_ClearFaultAndForceOff :
    (∀ c ∈ [FaultCause.slotClash, .retryExhausted, .forcedOff, .gaParity, .profileBad],
      Settled (stopped c) ∧ (stopped c).ae.engine = .stopped ∧ (stopped c).ae.cause = c ∧ (stopped c).sc.start = .done
        ∧ leaveUnderway (stopped c).sli = false)
      ∧ Requests (powered (.admitted .steady)) ∧ Settled (powered (.admitted .steady)) ∧ Settled (loading 1)
      ∧ (loading 1).ae.engine = .none ∧ (loading 1).sc.start = .loading ∧ State.reset.sc.start = .unseated
      ∧ Settled State.reset := by unfold Settled Requests; decide +kernel

theorem witness_PortWritesChangeOnlyTheirRegister :
    (∀ o ∈ [0x00, 0x1F, 0x25, 0x26, 0x28, 0xFF], ¬ (0x20 ≤ o ∧ o ≤ 0x24) ∧ o ≠ 0x27)
      ∧ (∀ v ∈ [0x00, 0x06, 0xA4, 0xFF], ¬ (1 ≤ v ∧ v ≤ 5) ∧ v ≠ 0xA5) ∧ (0x20 ≤ 0x24 ∧ 0x24 ≤ 0x24) ∧ (1 ≤ 5 ∧ 5 ≤ 5)
      ∧ (∀ o ∈ [(0x20 : Byte), 0x21, 0x22, 0x23, 0x27, 0x28],
          let l : LocalPort := { LocalPort.reset with offset := o, transaction := .writing }
          l.transaction = .writing ∧ l.offset = o)
      ∧ LocalPort.reset.transaction ≠ .writing ∧ (Addressing.following ≠ .addressed)
      ∧ ({ LocalPort.reset with lampTimer := some 0 } : LocalPort).lampTimer.isSome = true := by decide +kernel

theorem witness_SnapshotsHoldAFieldTogether :
    (PortField.viewdata, 0x28, 13) ∈ portMap ∧ 0 < 13 ∧ 12 < 13 ∧ (PortField.status, 0x00, 9) ∈ portMap ∧ 8 < 9
      ∧ (∀ o ∈ [(0x24 : Byte), 0x27, 0x35, 0xFF], o.toNat = 0x27 ∨ o.toNat = 0x24 ∨ 0x35 ≤ o.toNat)
      ∧ (lookup (station .waiting).sv.table 0 = none) := by decide +kernel

theorem witness_SnapshotsHoldAFieldTogether_contents :
    let s := { (withPeers fivePeers (powered (.admitted .steady))) with lpi := { LocalPort.reset with viewSel := 12 } }
    s.bp.pointer ≤ 12 ∧ s.sli.queue.length ≤ 4 ∧ s.bp.timedOut ≤ 12 ∧ ownClaim s ≤ 1023 ∧ s.sv.opened = true ∧ ownCEff s ≤ 4000
      ∧ committedLoad s.sv.table ≤ 32767 ∧ (starting .loading).sv.opened = false ∧ s.fs.vF ≤ 1023 ∧ vMin8 s ≤ 1023
      ∧ s.pp.vBulk ≤ 1023 ∧ s.pp.iLoad ≤ 1023 ∧ s.fs.a.sample ≤ 1023 ∧ s.fs.b.sample ≤ 1023 ∧ s.sc.slot ≠ some 12
      ∧ (lookup s.sv.table 12).map (fun e => decide (e.age ≤ 1000)) = some true ∧ retryLimit s ≤ 3 ∧ s.ae.retryCount ≤ 3
      ∧ State.reset.sc.profile = none := by decide +kernel

end Sys2Proof.Tests
end

/-! The line and the PEER_EXPIRED flag through a view change. The Admission Engine, the teardown, the Retire Coordinator and an
event's end may request notices, close a bid and raise flags of their own; none of them moves the line, its gap or its notice in
flight, and none raises PEER_EXPIRED. -/

namespace Sys2Proof.Machine

/-- What `LineKept` compares: the line without its queue, its periodic timer and the two marks on its notice in flight. -/
def lineFrame (l : LineInterface) : LineInterface :=
  { l with queue := [], periodic := none, inFlight := l.inFlight.map (fun f => { f with voided := false, afterUpgrade := false }) }

/-- PEER_EXPIRED in a word of flags. -/
def peerExpiredIn (w : BitVec 16) : Bool := w.getLsbD (flagBit .peerExpired)

/-- Two lines with one frame are two states related by `LineKept`. -/
theorem lineFrame_eq_iff (s t : State) : lineFrame t.sli = lineFrame s.sli ↔ LineKept s t := by
  rcases s with ⟨_, ⟨⟩⟩
  rcases t with ⟨_, ⟨⟩⟩
  simp only [lineFrame, LineKept, LineInterface.mk.injEq]
  tauto

theorem flagSet_peerExpired (s : State) : flagSet .peerExpired s = peerExpiredIn s.lpi.flags := rfl

@[simp] theorem lineFrame_queue (l : LineInterface) (q : List Queued) : lineFrame { l with queue := q } = lineFrame l := rfl

@[simp] theorem lineFrame_periodic (l : LineInterface) (p : Timer) : lineFrame { l with periodic := p } = lineFrame l := rfl

@[simp] theorem lineFrame_voidBidInFlight (l : LineInterface) : lineFrame (voidBidInFlight l) = lineFrame l := by
  unfold voidBidInFlight
  split
  · next f hf =>
    split
    · simp [lineFrame, hf]
    · rfl
  · rfl

@[simp] theorem peerExpiredIn_or_flagWord (w : BitVec 16) (f : EventFlag) (h : f ≠ .peerExpired) :
    peerExpiredIn (w ||| flagWord f) = peerExpiredIn w := by
  cases f <;> simp_all [peerExpiredIn, flagWord, flagBit]

@[simp] theorem raiseIf_peerExpired (c : Bool) (f : EventFlag) (s : State) (h : f ≠ .peerExpired) :
    peerExpiredIn (raiseIf c f s).lpi.flags = peerExpiredIn s.lpi.flags := by
  unfold raiseIf; split <;> simp [h]

/-! ## Requests and announcements -/

@[simp] theorem requestNotice_line (k : NoticeKind) (s : State) : lineFrame (requestNotice k s).sli = lineFrame s.sli := by
  unfold requestNotice; split <;> simp

@[simp] theorem announceFrom_quiet (before after : State) :
    lineFrame (announceFrom before after).sli = lineFrame after.sli
      ∧ peerExpiredIn (announceFrom before after).lpi.flags = peerExpiredIn after.lpi.flags := by
  rcases announceFrom_cases before after with h | h <;> simp [h]

/-! ## The end of an event -/

@[simp] theorem settlePeriodic_line (before after : State) : lineFrame (settlePeriodic before after).sli = lineFrame after.sli := by
  unfold settlePeriodic; (repeat' split) <;> simp

@[simp] theorem settleCongestion_quiet (s : State) :
    lineFrame (settleCongestion s).sli = lineFrame s.sli
      ∧ peerExpiredIn (settleCongestion s).lpi.flags = peerExpiredIn s.lpi.flags := by
  unfold settleCongestion; (repeat' split) <;> simp

@[simp] theorem settleLamp_flags (before after : State) : (settleLamp before after).lpi.flags = after.lpi.flags := by
  unfold settleLamp; split <;> rfl

theorem settle_quiet (before after : State) :
    lineFrame (settle before after).sli = lineFrame after.sli
      ∧ peerExpiredIn (settle before after).lpi.flags = peerExpiredIn after.lpi.flags := by
  unfold settle; split <;> simp

/-! ## Bids, the discharge and the retry rule -/

@[simp] theorem closeBid_line (s : State) : lineFrame (closeBid s).sli = lineFrame s.sli := by
  unfold closeBid; split <;> simp [dropBid]

@[simp] theorem setReason_peerExpired (r : WaitReason) (s : State) :
    peerExpiredIn (setReason r s).lpi.flags = peerExpiredIn s.lpi.flags := by simp [setReason]

@[simp] theorem enterBidding_line (level : PowerLevel) (resv : Nat) (s : State) :
    lineFrame (enterBidding level resv s).sli = lineFrame s.sli := by simp [enterBidding]

@[simp] theorem evaluateWaiting_quiet (s : State) :
    lineFrame (evaluateWaiting s).sli = lineFrame s.sli
      ∧ peerExpiredIn (evaluateWaiting s).lpi.flags = peerExpiredIn s.lpi.flags := by
  unfold evaluateWaiting; (repeat' split) <;> simp

@[simp] theorem enterWaiting_quiet (s : State) :
    lineFrame (enterWaiting s).sli = lineFrame s.sli
      ∧ peerExpiredIn (enterWaiting s).lpi.flags = peerExpiredIn s.lpi.flags := by simp [enterWaiting]

@[simp] theorem beginDischarging_quiet (exit : DischargeExit) (s : State) :
    lineFrame (beginDischarging exit s).sli = lineFrame s.sli
      ∧ peerExpiredIn (beginDischarging exit s).lpi.flags = peerExpiredIn s.lpi.flags := by simp [beginDischarging]

@[simp] theorem completeDischarge_quiet (s : State) :
    lineFrame (completeDischarge s).sli = lineFrame s.sli
      ∧ peerExpiredIn (completeDischarge s).lpi.flags = peerExpiredIn s.lpi.flags := by
  unfold completeDischarge; (repeat' split) <;> simp

@[simp] theorem enterDischarging_quiet (exit : DischargeExit) (s : State) :
    lineFrame (enterDischarging exit s).sli = lineFrame s.sli
      ∧ peerExpiredIn (enterDischarging exit s).lpi.flags = peerExpiredIn s.lpi.flags := by simp [enterDischarging]

@[simp] theorem retryRule_quiet (c : CountedFault) (s : State) :
    lineFrame (retryRule c s).sli = lineFrame s.sli
      ∧ peerExpiredIn (retryRule c s).lpi.flags = peerExpiredIn s.lpi.flags := by simp [retryRule, beginRetry]

/-! ## The teardown and the substates of RETIRING -/

@[simp] theorem teardownComplete_quiet (s : State) :
    lineFrame (teardownComplete s).sli = lineFrame s.sli
      ∧ peerExpiredIn (teardownComplete s).lpi.flags = peerExpiredIn s.lpi.flags := by
  unfold teardownComplete; (repeat' split) <;> simp

@[simp] theorem undoFrom_quiet (n : Nat) (s : State) :
    lineFrame (undoFrom n s).sli = lineFrame s.sli
      ∧ peerExpiredIn (undoFrom n s).lpi.flags = peerExpiredIn s.lpi.flags := by
  induction n generalizing s with
  | zero => simp [undoFrom]
  | succ n ih =>
    unfold undoFrom
    split
    · exact ih s
    · dsimp only
      split
      · exact ih _
      · exact ⟨rfl, rfl⟩

@[simp] theorem teardownCommand_quiet (s : State) :
    lineFrame (teardownCommand s).sli = lineFrame s.sli
      ∧ peerExpiredIn (teardownCommand s).lpi.flags = peerExpiredIn s.lpi.flags := by
  unfold teardownCommand; split <;> simp

@[simp] theorem enterTeardown_quiet (s : State) :
    lineFrame (enterTeardown s).sli = lineFrame s.sli
      ∧ peerExpiredIn (enterTeardown s).lpi.flags = peerExpiredIn s.lpi.flags := by simp [enterTeardown]

@[simp] theorem enterDraining_quiet (s : State) :
    lineFrame (enterDraining s).sli = lineFrame s.sli
      ∧ peerExpiredIn (enterDraining s).lpi.flags = peerExpiredIn s.lpi.flags := by
  unfold enterDraining; dsimp only; split <;> simp

@[simp] theorem enterHandover_quiet (s : State) :
    lineFrame (enterHandover s).sli = lineFrame s.sli
      ∧ peerExpiredIn (enterHandover s).lpi.flags = peerExpiredIn s.lpi.flags := by
  unfold enterHandover; dsimp only; split <;> simp

@[simp] theorem enterRetiring_quiet (s : State) :
    lineFrame (enterRetiring s).sli = lineFrame s.sli
      ∧ peerExpiredIn (enterRetiring s).lpi.flags = peerExpiredIn s.lpi.flags := by
  unfold enterRetiring; dsimp only; split <;> simp

@[simp] theorem evaluateHandover_quiet (s : State) :
    lineFrame (evaluateHandover s).sli = lineFrame s.sli
      ∧ peerExpiredIn (evaluateHandover s).lpi.flags = peerExpiredIn s.lpi.flags := by
  unfold evaluateHandover; split <;> simp

/-! ## ADMITTED -/

@[simp] theorem completeShed_quiet (s : State) :
    lineFrame (completeShed s).sli = lineFrame s.sli
      ∧ peerExpiredIn (completeShed s).lpi.flags = peerExpiredIn s.lpi.flags := by
  unfold completeShed; dsimp only; split <;> simp

@[simp] theorem enterShedding_quiet (s : State) :
    lineFrame (enterShedding s).sli = lineFrame s.sli
      ∧ peerExpiredIn (enterShedding s).lpi.flags = peerExpiredIn s.lpi.flags := by
  unfold enterShedding; dsimp only; split <;> simp

@[simp] theorem failUpgrade_line (s : State) : lineFrame (failUpgrade s).sli = lineFrame s.sli := by simp [failUpgrade]

@[simp] theorem beginExcursion_quiet (sub : AdmittedSub) (s : State) :
    lineFrame (beginExcursion sub s).sli = lineFrame s.sli
      ∧ peerExpiredIn (beginExcursion sub s).lpi.flags = peerExpiredIn s.lpi.flags := by
  cases sub with
  | steady => unfold beginExcursion; dsimp only; split <;> simp
  | upgradeBid => simp [beginExcursion]
  | shedding => simp [beginExcursion]

@[simp] theorem openUpgrade_line (sub : AdmittedSub) (s : State) : lineFrame (openUpgrade sub s).sli = lineFrame s.sli := by
  unfold openUpgrade; (repeat' split) <;> simp [enterUpgradeBid]

@[simp] theorem evaluateAdmitted_quiet (s : State) :
    lineFrame (evaluateAdmitted s).sli = lineFrame s.sli
      ∧ peerExpiredIn (evaluateAdmitted s).lpi.flags = peerExpiredIn s.lpi.flags := by
  unfold evaluateAdmitted; (repeat' split) <;> simp

/-! ## The view change -/

@[simp] theorem viewEvents_peerExpired (before s : State) :
    peerExpiredIn (viewEvents before s).lpi.flags = peerExpiredIn s.lpi.flags := by simp [viewEvents]

@[simp] theorem viewChanged_quiet (before s : State) :
    lineFrame (viewChanged before s).sli = lineFrame s.sli
      ∧ peerExpiredIn (viewChanged before s).lpi.flags = peerExpiredIn s.lpi.flags := by simp [viewChanged]

end Sys2Proof.Machine

/-! A received LEAVE, the gap after it and the slot's next notice (R8, O30). -/

namespace Sys2Proof.Machine

/-! ## Arrivals -/

/-- The state with the frame on the line at its end, the notice not yet delivered. -/
def afterFrame (s : State) : State := { s with sli := endFrame s.sli }

@[simp] theorem afterFrame_sv (s : State) : (afterFrame s).sv = s.sv := rfl
@[simp] theorem afterFrame_sc (s : State) : (afterFrame s).sc = s.sc := rfl

theorem receiveValid_of_receives (k : NoticeKind) (n : Notice) (s : State) (hr : receives s.sli = true) :
    receiveValid k n s = deliver k n (afterFrame s) := by
  simp [receiveValid, afterFrame, hr, frameEnds_of_receives]

/-- A LEAVE of another slot received at the open view is that slot's removal (R8, R31). -/
theorem receiveValid_leave (n : Notice) (s : State) (ho : s.sv.opened = true) (hs : s.sc.slot ≠ some n.slot)
    (hr : receives s.sli = true) : receiveValid .leave n s = entryLeaves n.slot (afterFrame s) := by
  simp [receiveValid_of_receives, hr, deliver, ho, hs]

/-- Every other kind is an arrival (R5, R6, R7, R31). -/
theorem receiveValid_arrival (k : NoticeKind) (n : Notice) (s : State) (hk : k ≠ .leave) (ho : s.sv.opened = true)
    (hs : s.sc.slot ≠ some n.slot) (hr : receives s.sli = true) :
    receiveValid k n s = entryArrives (entryOf k n) (afterFrame s) := by
  rw [receiveValid_of_receives k n s hr]
  cases k with
  | leave => exact absurd rfl hk
  | standing | bid | yield => simp [deliver, ho, hs]

theorem entryArrives_sv (e : Entry) (s : State) :
    (entryArrives e s).sv = { s.sv with table := insertEntry e s.sv.table } := by
  unfold entryArrives; dsimp only; split <;> simp [withTable]

/-- A STANDING, a BID or a YIELD received at the open view leaves its sender's entry as the frame gives it (R5, R6, R7). -/
theorem arrival_writes_entry (k : NoticeKind) (n : Notice) (s : State) (hk : k ≠ .leave) (ho : s.sv.opened = true)
    (hs : s.sc.slot ≠ some n.slot) (hr : receives s.sli = true) :
    lookup (settle s (receiveValid k n s)).sv.table n.slot = some (entryOf k n) := by
  rw [settle_sv, receiveValid_arrival k n s hk ho hs hr, entryArrives_sv]
  exact lookup_insertEntry_self (entryOf k n) s.sv.table

/-! ## The removal -/

theorem entryLeaves_of_absent (sl : Slot) (s : State) (h : lookup s.sv.table sl = none) : entryLeaves sl s = s := by
  simp [entryLeaves, h]

theorem entryLeaves_opened (sl : Slot) (s : State) : (entryLeaves sl s).sv.opened = s.sv.opened := by
  unfold entryLeaves; split <;> simp

theorem lookup_entryLeaves_self (sl : Slot) (s : State) : lookup (entryLeaves sl s).sv.table sl = none := by
  unfold entryLeaves
  split
  · simpa using lookup_removeEntry_self sl s.sv.table
  · next h => simpa using h

theorem lookup_entryLeaves_ne (sl other : Slot) (s : State) (h : other ≠ sl) :
    lookup (entryLeaves sl s).sv.table other = lookup s.sv.table other := by
  unfold entryLeaves
  split
  · simpa using lookup_removeEntry_ne sl other s.sv.table h
  · rfl

/-- A removal by LEAVE moves nothing of the line and raises no PEER_EXPIRED (R8). -/
theorem entryLeaves_quiet (sl : Slot) (s : State) :
    lineFrame (entryLeaves sl s).sli = lineFrame s.sli
      ∧ peerExpiredIn (entryLeaves sl s).lpi.flags = peerExpiredIn s.lpi.flags := by
  unfold entryLeaves; split <;> simp

/-- An event that ends a frame and does nothing else draws no consequence at its end. -/
theorem settle_afterFrame (s : State) (h : Settled s) : settle s (afterFrame s) = afterFrame s :=
  settle_of_unannounced s (afterFrame s) (standingDue_self s) rfl h.1 h.2 rfl

/-! ## The line after the frame -/

/-- A frame that was received has left the line IDLE in a gap that only begins, with no notice of this station in flight. -/
theorem line_after_received_frame (l l' : LineInterface) (hr : receives l = true) (h : lineFrame l' = lineFrame (endFrame l)) :
    l'.line = .idle ∧ l'.gap = 0 ∧ l'.inFlight = none := by
  have hf : l.inFlight = none := by
    by_contra hsome
    simp [(receives_inFlight l (Option.isSome_iff_ne_none.2 hsome)).1] at hr
  have hline : l'.line = .idle := congrArg LineInterface.line h
  have hgap : l'.gap = 0 := congrArg LineInterface.gap h
  have hflight := congrArg LineInterface.inFlight h
  exact ⟨hline, hgap, by simpa [lineFrame, endFrame, hf] using hflight⟩

theorem execGapComplete_of_idle (s : State) (hi : s.sli.line = .idle) (hg : s.sli.gap = 0) :
    exec .gapComplete s = .next (settle s { s with sli := completedGap s.sli }) := by
  show execGapComplete s = _
  simp [execGapComplete, answer, hi, hg, gapBits]

/-- Once its gap is complete, a line with no notice of this station in flight receives the next frame (R23, R31). -/
theorem receives_of_completedGap (l l' : LineInterface) (hf : l.inFlight = none)
    (h : lineFrame l' = lineFrame (completedGap l)) : receives l' = true := by
  have hline : l'.line = .idle := congrArg LineInterface.line h
  have hgap : l'.gap = gapBits := congrArg LineInterface.gap h
  have hdeaf : l'.deaf = false := congrArg LineInterface.deaf h
  have hflight : l'.inFlight = none := by
    simpa [lineFrame, completedGap, hf] using congrArg LineInterface.inFlight h
  simp [receives, listens, frameStands, hline, hgap, hdeaf, hflight]

/-- After a frame's end, the gap's completion leaves the view as it is and the line ready for the next frame. -/
theorem gapComplete_readies_line (s : State) (hi : s.sli.line = .idle) (hg : s.sli.gap = 0) (hf : s.sli.inFlight = none) :
    ∃ w, exec .gapComplete s = .next w ∧ w.sv = s.sv ∧ w.sc = s.sc ∧ receives w.sli = true :=
  ⟨_, execGapComplete_of_idle s hi hg, settle_sv _ _, settle_sc _ _,
    receives_of_completedGap s.sli _ hf (settle_quiet _ _).1⟩

/-! ## The statement -/

/-- What a received LEAVE of another slot does at the open view, as one state. -/
theorem exec_leaveNotice (n : Notice) (s : State) (ho : s.sv.opened = true) (hs : s.sc.slot ≠ some n.slot)
    (hr : receives s.sli = true) :
    exec (.leaveNotice n) s = .next (settle s (entryLeaves n.slot (afterFrame s))) := by
  show answer s (receiveValid .leave n s) = _
  rw [receiveValid_leave n s ho hs hr, answer]

/-- Settles O30: the removal is `entryLeaves`, which with the event's end keeps the line where the frame's end left it; the gap that
completes there readies the line for the slot's next notice, and that is an arrival at the open view. -/
theorem leaveRemovesTheEntry : Obligations.LeaveRemovesTheEntry := by
  intro n next s ho hs hr hset hslot
  obtain ⟨hline, hflag⟩ := settle_quiet s (entryLeaves n.slot (afterFrame s))
  obtain ⟨hline', hflag'⟩ := entryLeaves_quiet n.slot (afterFrame s)
  obtain ⟨hidle, hgap, hflight⟩ := line_after_received_frame s.sli _ hr (hline.trans hline')
  refine ⟨_, exec_leaveNotice n s ho hs hr, ?removed, ?others, hflag.trans hflag', ?absent, ?nextNotice⟩
  case removed =>
    rw [settle_sv]
    exact lookup_entryLeaves_self _ _
  case others =>
    intro sl hne
    rw [settle_sv, lookup_entryLeaves_ne _ _ _ hne, afterFrame_sv]
  case absent =>
    intro hnone
    rw [entryLeaves_of_absent n.slot (afterFrame s) hnone]
    exact settle_afterFrame s hset
  case nextNotice =>
    obtain ⟨w, hw, hsv, hsc, hrw⟩ := gapComplete_readies_line _ hidle hgap hflight
    have how : w.sv.opened = true := by simpa [hsv, entryLeaves_opened] using ho
    have hsw : w.sc.slot ≠ some next.slot := by simpa [hsc, hslot] using hs
    have harrives : ∀ k, k ≠ .leave →
        lookup (settle w (receiveValid k next w)).sv.table n.slot = some (entryOf k next) := fun k hk =>
      hslot ▸ arrival_writes_entry k next w hk how hsw hrw
    exact ⟨w, hw, ⟨_, rfl, harrives .standing (by decide)⟩, ⟨_, rfl, harrives .bid (by decide)⟩,
      ⟨_, rfl, harrives .yield (by decide)⟩⟩

end Sys2Proof.Machine

/-! A feed's target state by its sample, and the state it takes at a sample event (R44, R45, O34). -/

namespace Sys2Proof.Machine

/-! ## The rows of R44 -/

section
variable {v : Nat}

theorem feedTarget_of_le_199 (st : FeedState) (hi : v ≤ 199) : feedTarget st v = .absent :=
  if_pos (by omega)

theorem feedTarget_of_200_to_359 (st : FeedState) (lo : 200 ≤ v) (hi : v ≤ 359) : feedTarget st v = .low := by
  rw [feedTarget.eq_def, if_neg (by omega), if_pos (by omega)]

/-- The lower hysteresis band: a feed that was below GOOD stays below it, one that was not stays or becomes GOOD. -/
theorem feedTarget_of_360_to_379 (st : FeedState) (lo : 360 ≤ v) (hi : v ≤ 379) :
    feedTarget st v = if st = .absent ∨ st = .low then .low else .good := by
  rw [feedTarget.eq_def, if_neg (by omega), if_neg (by omega), if_pos (by omega)]
  cases st <;> rfl

theorem feedTarget_of_380_to_730 (st : FeedState) (lo : 380 ≤ v) (hi : v ≤ 730) : feedTarget st v = .good := by
  rw [feedTarget.eq_def, if_neg (by omega), if_neg (by omega), if_neg (by omega), if_pos hi]

/-- The upper hysteresis band: only a feed already HIGH stays HIGH. -/
theorem feedTarget_of_731_to_750 (st : FeedState) (lo : 731 ≤ v) (hi : v ≤ 750) :
    feedTarget st v = if st = .high then .high else .good := by
  rw [feedTarget.eq_def, if_neg (by omega), if_neg (by omega), if_neg (by omega), if_neg (by omega), if_pos hi]
  cases st <;> rfl

theorem feedTarget_of_751_le (st : FeedState) (lo : 751 ≤ v) : feedTarget st v = .high := by
  rw [feedTarget.eq_def, if_neg (by omega), if_neg (by omega), if_neg (by omega), if_neg (by omega), if_neg (by omega)]

end

/-! ## The state after a sample event -/

/-- A feed takes the target at the fourth consecutive sample with it, and else keeps its state (R45). -/
theorem sampledFeed_state (f : Feed) (v : Nat) :
    (sampledFeed f v).state =
      if f.pending = some (feedTarget f.state (reading v)) ∧ 3 ≤ f.count then feedTarget f.state (reading v) else f.state := by
  unfold sampledFeed
  dsimp only
  generalize feedTarget f.state (reading v) = target
  by_cases hkeeps : target = f.state
  · simp [hkeeps]
  · by_cases hpending : f.pending = some target
    · by_cases hcount : 3 ≤ f.count <;> simp [hkeeps, hpending, hcount]
    · simp [hkeeps, hpending]

theorem sampledFeed_state_or (f : Feed) (v : Nat) :
    (sampledFeed f v).state = f.state ∨ (sampledFeed f v).state = feedTarget f.state (reading v) := by
  rw [sampledFeed_state]
  exact (ite_eq_or_eq _ _ _).symm

/-! ## The statement -/

/-- Settles O34: the state after a sample is the old one or the target formed from it, and each row of R44 is a lemma above. -/
theorem feedTargets : Obligations.FeedTargets := fun st v f =>
  ⟨sampledFeed_state_or f v, feedTarget_of_le_199 st, feedTarget_of_200_to_359 st, feedTarget_of_360_to_379 st,
    feedTarget_of_380_to_730 st, feedTarget_of_731_to_750 st, fun lo _ => feedTarget_of_751_le st lo⟩

end Sys2Proof.Machine

/-! What an event keeps: the transmit queue's law, the start's, the retry count's, the bid's, the held outputs' and the attempt's law, carried
together through every operation that events share. -/

namespace Sys2Proof.Machine

/-! ## The line's part of the queue's law -/

/-- The kinds of the queued notices, the head first. -/
def queuedKinds (l : LineInterface) : List NoticeKind := l.queue.map (·.kind)

/-- Kind and return mark of the notice in flight: what the queue's law reads of it. -/
def flightMarks (l : LineInterface) : Option (NoticeKind × Bool) := l.inFlight.map (fun f => (f.kind, f.dropped))

/-- The queue's law as far as it speaks of the line alone (R34, R36). -/
def LineLaw (l : LineInterface) : Prop :=
  (queuedKinds l).Nodup ∧ (.leave ∈ queuedKinds l → (queuedKinds l).length = 1)
    ∧ (flightMarks l = some (.leave, false) → queuedKinds l = [])

/-- The queue's law as far as it speaks of the notices of a silent station (R39). -/
def SilentLaw (s : State) : Prop :=
  silent s = true →
    (∀ k ∈ queuedKinds s.sli, k = .leave) ∧ (∀ m, flightMarks s.sli = some m → m.1 = .leave ∨ m.2 = true)

theorem isQueued_iff (k : NoticeKind) (q : List Queued) : isQueued k q = true ↔ k ∈ q.map (·.kind) := by
  simp only [isQueued, List.any_eq_true, List.mem_map, decide_eq_true_eq]

theorem kindsDistinct_iff (q : List Queued) : kindsDistinct q = true ↔ (q.map (·.kind)).Nodup := by
  induction q with
  | nil => simp [kindsDistinct]
  | cons x xs ih => rw [kindsDistinct, Bool.and_eq_true, ih, List.map_cons, List.nodup_cons, ← isQueued_iff, Bool.not_eq_true',
      Bool.not_eq_true]

theorem flightMarks_eq_some (l : LineInterface) (m : NoticeKind × Bool) :
    flightMarks l = some m ↔ ∃ f, l.inFlight = some f ∧ f.kind = m.1 ∧ f.dropped = m.2 := by
  obtain ⟨k, d⟩ := m
  simp [flightMarks]

theorem queueOk_iff (s : State) :
    QueueOk s ↔ StartOk s ∧ LineLaw s.sli ∧ SilentLaw s ∧ (silent s = true → s.sli.periodic = none) := by
  unfold QueueOk LineLaw SilentLaw
  simp only [flightMarks_eq_some, kindsDistinct_iff, isQueued_iff, queuedKinds, List.length_map, List.map_eq_nil_iff, List.mem_map,
    forall_exists_index, and_imp, forall_apply_eq_imp_iff₂]
  constructor
  · rintro ⟨hstart, hdistinct, halone, hflight, hqueue, hreturn, hperiodic⟩
    exact ⟨hstart, ⟨hdistinct, halone, fun f hf hk hd => hflight f hf hk hd⟩,
      fun hs => ⟨hqueue hs, fun m f hf hk hd => hk ▸ hd ▸ hreturn hs f hf⟩, hperiodic⟩
  · rintro ⟨hstart, ⟨hdistinct, halone, hflight⟩, hsilent, hperiodic⟩
    exact ⟨hstart, hdistinct, halone, fun f hf hk hd => hflight f hf hk hd, fun hs => (hsilent hs).1,
      fun hs f hf => (hsilent hs).2 (f.kind, f.dropped) f hf rfl rfl, hperiodic⟩

/-- What the requests of an event do to the line: they keep its law, ask nothing in a silent state, and leave the notice in flight its kind
and its return. -/
structure Asks (s t : State) : Prop where
  law : LineLaw s.sli → LineLaw t.sli
  flight : flightMarks t.sli = flightMarks s.sli
  quiet : silent t = true → queuedKinds t.sli = queuedKinds s.sli

theorem Asks.of_same {s t : State} (hq : queuedKinds t.sli = queuedKinds s.sli) (hf : flightMarks t.sli = flightMarks s.sli) : Asks s t :=
  ⟨fun h => by unfold LineLaw at *; rwa [hq, hf], hf, fun _ => hq⟩

theorem Asks.of_sli {s t : State} (h : t.sli = s.sli) : Asks s t := .of_same (by rw [h]) (by rw [h])

theorem Asks.trans {s t u : State} (hst : Asks s t) (htu : Asks t u) (h : silent u = true → silent t = true) : Asks s u :=
  ⟨fun hl => htu.law (hst.law hl), htu.flight.trans hst.flight, fun hu => (htu.quiet hu).trans (hst.quiet (h hu))⟩

/-- What is asked depends on the line it starts from alone. -/
theorem Asks.from_sli {s b t : State} (h : Asks b t) (hs : b.sli = s.sli) : Asks s t := ⟨hs ▸ h.law, hs ▸ h.flight, hs ▸ h.quiet⟩

theorem leaveUnderway_iff (l : LineInterface) :
    leaveUnderway l = true ↔ .leave ∈ queuedKinds l ∨ ∃ d, flightMarks l = some (.leave, d) := by
  unfold leaveUnderway flightMarks queuedKinds
  rw [Bool.or_eq_true, isQueued_iff]
  cases l.inFlight with
  | none => simp
  | some f => simp

theorem map_kind_joinTail (k : NoticeKind) (q : List Queued) :
    (joinTail k q).map (·.kind) = if k ∈ q.map (·.kind) then q.map (·.kind) else q.map (·.kind) ++ [k] := by
  unfold joinTail
  by_cases h : isQueued k q = true
  · rw [if_pos h, if_pos ((isQueued_iff k q).1 h)]
  · rw [if_neg h, if_neg (mt (isQueued_iff k q).2 h), List.map_append, List.map_singleton]

theorem map_kind_dequeue (k : NoticeKind) (q : List Queued) : (dequeue k q).map (·.kind) = (q.map (·.kind)).filter (fun x => decide (x ≠ k)) := by
  rw [dequeue, List.filter_map]
  rfl

theorem nodup_joinTail (k : NoticeKind) (q : List Queued) (h : (q.map (·.kind)).Nodup) : ((joinTail k q).map (·.kind)).Nodup := by
  rw [map_kind_joinTail]
  split
  · exact h
  · next hk => exact List.Nodup.append h (List.nodup_singleton k) (by simpa using hk)

theorem nodup_queueAfter (k : NoticeKind) (q : List Queued) (h : (q.map (·.kind)).Nodup) : ((queueAfter k q).map (·.kind)).Nodup := by
  unfold queueAfter
  split
  · split
    · rw [map_kind_dequeue]; exact h.filter _
    · exact nodup_joinTail _ q h
  · exact nodup_joinTail _ q h

theorem leave_notMem_queueAfter (k : NoticeKind) (q : List Queued) (hk : k ≠ .leave) (h : .leave ∉ q.map (·.kind)) :
    .leave ∉ (queueAfter k q).map (·.kind) := by
  have hjoin : ∀ j, j ≠ .leave → .leave ∉ (joinTail j q).map (·.kind) := by
    intro j hj
    rw [map_kind_joinTail]
    split
    · exact h
    · simpa [Ne.symm hj] using h
  unfold queueAfter
  split
  · split
    · rw [map_kind_dequeue]; exact fun hm => h (List.mem_of_mem_filter hm)
    · exact hjoin _ (by decide)
  · exact hjoin _ hk

@[simp] theorem silent_requestNotice (k : NoticeKind) (s : State) : silent (requestNotice k s) = silent s := by simp [silent]

theorem requestNotice_asks (k : NoticeKind) (s : State) (hk : k ≠ .leave) : Asks s (requestNotice k s) := by
  by_cases hd : silent s = true ∨ leaveUnderway s.sli = true
  · rw [requestNotice_discarded k s hd]; exact .of_sli rfl
  · simp only [not_or, Bool.not_eq_true] at hd
    rw [requestNotice_taken k s hd]
    have hleave := mt (leaveUnderway_iff s.sli).2 (by simp [hd.2])
    simp only [not_or, not_exists] at hleave
    refine ⟨fun hl => ⟨nodup_queueAfter k _ hl.1, fun h => ?_, fun h => absurd h (hleave.2 false)⟩, rfl, ?_⟩
    · exact absurd h (leave_notMem_queueAfter k s.sli.queue hk hleave.1)
    · intro hs
      rw [← requestNotice_taken k s hd, silent_requestNotice] at hs
      simp [hd.1] at hs

@[simp] theorem silent_dropBid (s : State) : silent (dropBid s) = silent s := rfl

theorem flightMarks_voidBidInFlight (l : LineInterface) : flightMarks (voidBidInFlight l) = flightMarks l := by
  unfold voidBidInFlight
  split
  · next f hf => split <;> simp [flightMarks, hf]
  · rfl

theorem voidBidInFlight_queue (l : LineInterface) : (voidBidInFlight l).queue = l.queue := by
  unfold voidBidInFlight; (repeat' split) <;> rfl

theorem dropBid_asks (s : State) : Asks s (dropBid s) :=
  .of_same (by show List.map _ (voidBidInFlight s.sli).queue = _; rw [voidBidInFlight_queue]; rfl) (flightMarks_voidBidInFlight _)

theorem closeBid_asks (s : State) : Asks s (closeBid s) := by
  unfold closeBid
  split
  · exact (dropBid_asks s).trans (requestNotice_asks .yield _ (by decide)) (by simp)
  · exact .of_sli rfl

/-- A closed bid leaves the rest of the own record alone. -/
theorem closeBid_ae (s : State) :
    (closeBid s).ae = if s.ae.bid.isSome then { s.ae with bid := none, window := none } else s.ae := by
  unfold closeBid; split <;> simp [dropBid]

@[simp] theorem silent_closeBid (s : State) : silent (closeBid s) = silent s := by
  unfold closeBid; split <;> simp

theorem announceFrom_asks (before after : State) : Asks after (announceFrom before after) := by
  rcases announceFrom_cases before after with h | h
  · rw [h]; exact .of_sli rfl
  · rw [h]
    exact (Asks.of_sli (s := after) (t := raise .phase after) rfl).trans (requestNotice_asks .standing (raise .phase after) (by decide)) (by simp)

/-! ## The laws of the own record -/

/-- The retry count's law, less the start's (R94). -/
def RetryLaw (s : State) : Prop := (s.sc.start ≠ .done → s.ae.retryCount = 0) ∧ s.ae.retryCount ≤ retryLimit s

/-- The open bid's law, less the start's (R75). -/
def BidLaw (ae : OwnRecord) : Prop := ae.bid.isSome = bids ae.engine ∧ (ae.window.isSome = true → ae.bid.isSome = true)

/-- In a state that holds no bid none is open, and no window runs. -/
theorem BidLaw.none {ae : OwnRecord} (h : BidLaw ae) (hb : bids ae.engine = false) : ae.bid = none ∧ ae.window = none := by
  obtain ⟨hbid, hwindow⟩ := h
  rw [hb] at hbid
  rw [hbid] at hwindow
  cases hw : ae.window <;> simp_all

/-- The attempt's law, less the start's and the held outputs' (R87, R98, R123). -/
def AttemptLaw (ae : OwnRecord) (prog : ProgramState) : Prop :=
  (ae.source ≠ .none → holdsRetire ae = true)
    ∧ (prog = .forward → ae.engine = .bringup ∧ ae.bringupFault = false)
    ∧ (ae.bringupFault = true → ae.engine = .bringup)
    ∧ (ae.engine = .none → prog = .off)

/-- Once both gates are off, the program is over with the timed-out step `x`, and every held output is deasserted (R112, R124). -/
def EndsWith (x : Nat) (s : State) : Prop :=
  s.bp.timedOut = x ∧ (gateOn s = false → s.bp = { BringUp.reset with timedOut := x } ∧ s.held = HeldOutputs.deasserted)

/-- The laws that an operation carries from the state it finds to the state it leaves. -/
structure KeepsLaws (s t : State) : Prop where
  start : StartOk s → StartOk t
  retry : StartOk s → RetryLaw s → RetryLaw t
  bid : StartOk s → BidLaw s.ae → BidLaw t.ae
  held : HeldOk s → HeldOk t
  attempt : StartOk s → HeldOk s → AttemptLaw s.ae s.bp.prog → AttemptLaw t.ae t.bp.prog
  queue : StartOk s → LineLaw s.sli → SilentLaw s → LineLaw t.sli ∧ SilentLaw t

/-- An operation that keeps every law and starts no program: an opening in it ends the program (R124). -/
structure Keeps (s t : State) : Prop extends KeepsLaws s t where
  ends : HeldOk s → ∀ x, EndsWith x s → EndsWith x t

theorem KeepsLaws.trans {s t u : State} (h : KeepsLaws s t) (k : KeepsLaws t u) : KeepsLaws s u :=
  ⟨fun hs => k.start (h.start hs), fun hs hr => k.retry (h.start hs) (h.retry hs hr),
    fun hs hb => k.bid (h.start hs) (h.bid hs hb), fun hh => k.held (h.held hh),
    fun hs hh ha => k.attempt (h.start hs) (h.held hh) (h.attempt hs hh ha),
    fun hs hl hq => k.queue (h.start hs) (h.queue hs hl hq).1 (h.queue hs hl hq).2⟩

theorem Keeps.trans {s t u : State} (h : Keeps s t) (k : Keeps t u) : Keeps s u :=
  ⟨h.toKeepsLaws.trans k.toKeepsLaws, fun hh x he => k.ends (h.held hh) x (h.ends hh x he)⟩

theorem Keeps.refl (s : State) : Keeps s s := ⟨⟨id, fun _ => id, fun _ => id, id, fun _ _ => id, fun _ hl hq => ⟨hl, hq⟩⟩, fun _ _ => id⟩

/-! ## The four laws' shapes -/

theorem attemptOk_iff (s : State) : AttemptOk s ↔ StartOk s ∧ HeldOk s ∧ AttemptLaw s.ae s.bp.prog := Iff.rfl

/-- A station with a blade to hold has its main switch closed. -/
theorem HeldOk.closed_of_holdsBlade {s : State} (h : HeldOk s) (hb : holdsBlade s.ae.engine = true) : s.pp.path = .closed := by
  by_contra hc
  simp [(h.1 hc).2.2.2] at hb

theorem HeldOk.closed_of_prog {s : State} (h : HeldOk s) (hp : s.bp.prog ≠ .off) : s.pp.path = .closed := by
  by_contra hc
  exact hp (h.1 hc).2.1

theorem silent_eq_true_iff (s : State) :
    silent s = true ↔ s.sc.start ≠ .done ∨ s.ae.engine = .stopped ∧ silentCause s.ae.cause = true := by
  unfold silent
  split
  · next h => simp [h]
  · next h => simp only [true_iff]; exact .inl h

/-- A state whose engine holds a state of its own is past the start. -/
theorem StartOk.done {s : State} (h : StartOk s) (he : s.ae.engine ≠ .none) : s.sc.start = .done := by
  by_contra hd
  exact he (h.1 hd)

/-- A record's cause is no silent one that the station has not had in STOPPED (R97). -/
def CauseKept (s t : State) : Prop :=
  silentCause t.ae.cause = false ∨ t.ae.cause = s.ae.cause ∧ (t.ae.engine = s.ae.engine ∨ s.ae.engine ≠ .stopped)

/-- What a change of the own record, made in one event with requests for notices, must say for the start's and the queue's law to hold
after it: the engine moves where it has a state of its own or the start is over, and no silent cause arises. -/
structure Moves (s t : State) : Prop where
  start : t.sc.start = s.sc.start
  profile : t.sc.profile = s.sc.profile
  asks : Asks s t
  alive : s.ae.engine ≠ .none ∨ s.sc.start = .done ∨ t.ae.engine = .none
  cause : CauseKept s t

theorem Moves.startOk {s t : State} (h : Moves s t) (hs : StartOk s) : StartOk t := by
  refine ⟨fun hd => ?_, fun hc => ?_⟩
  · rw [h.start] at hd
    rcases h.alive with he | hdone | hn
    · exact absurd (hs.1 hd) he
    · exact absurd hdone hd
    · exact hn
  · rcases h.cause with hn | ⟨hsame, hstays | hleaves⟩
    · simp [hn] at hc
    · exact hstays ▸ hs.2 (hsame ▸ hc)
    · exact absurd (hs.2 (hsame ▸ hc)) hleaves

theorem Moves.silent {s t : State} (h : Moves s t) (hs : StartOk s) (ht : silent t = true) : silent s = true := by
  rw [silent_eq_true_iff] at *
  rw [h.start] at ht
  rcases ht with hd | ⟨he, hc⟩
  · exact .inl hd
  · rcases h.cause with hn | ⟨hsame, -⟩
    · simp [hn] at hc
    · exact .inr ⟨hs.2 (hsame ▸ hc), hsame ▸ hc⟩

theorem Moves.queue {s t : State} (h : Moves s t) (hs : StartOk s) (hl : LineLaw s.sli) (hq : SilentLaw s) :
    LineLaw t.sli ∧ SilentLaw t := by
  refine ⟨h.asks.law hl, fun ht => ?_⟩
  have hsil := h.silent hs ht
  rw [h.asks.quiet ht, h.asks.flight]
  exact hq hsil

theorem Moves.retryLimit {s t : State} (h : Moves s t) : retryLimit t = retryLimit s := by
  unfold Machine.retryLimit; rw [h.profile]

/-- The retry count of a move: kept, or within the limit with the start over. -/
theorem Moves.retryLaw {s t : State} (h : Moves s t) (hs : StartOk s)
    (hc : t.ae.retryCount = s.ae.retryCount
      ∨ (s.ae.engine ≠ .none ∨ s.sc.start = .done) ∧ (s.ae.retryCount ≤ Machine.retryLimit s → t.ae.retryCount ≤ Machine.retryLimit s))
    (hr : RetryLaw s) : RetryLaw t := by
  unfold RetryLaw
  rw [h.retryLimit, h.start]
  rcases hc with hsame | ⟨hlive, hle⟩
  · rwa [hsame]
  · have hdone : s.sc.start = .done := hlive.elim hs.done id
    exact ⟨fun hd => absurd hdone hd, hle hr.2⟩

/-! ## Openings -/

/-- An opening with the record that its neighbour leaves: the held outputs' law holds once the engine holds no blade (R112). -/
theorem heldOk_of_opening {s t : State} (target : PathState) (htarget : target = .opened ∨ target = .tripped)
    (hpp : t.pp = (openGates target s).pp) (hheld : t.held = (openGates target s).held) (hbp : t.bp = (openGates target s).bp)
    (hpf : t.ae.profFullPending = (openGates target s).ae.profFullPending) (hblade : holdsBlade t.ae.engine = false)
    (h : HeldOk s) : HeldOk t := by
  have hoff := gateOn_openGates target s htarget
  have hgate : gateOn t = false := by rw [← hoff]; unfold gateOn; rw [hpp]
  by_cases hg : gateOn s = true
  · rw [openGates_of_gateOn target s hg] at hheld hbp hpf
    refine ⟨fun _ => ⟨hheld, by rw [hbp]; rfl, ?_, hblade⟩, fun hon => by simp [hgate] at hon⟩
    rw [hpf]
    simp only [openedRecord]
    split <;> rfl
  · rw [openGates_of_gateOff target s (by simpa using hg)] at hpp hheld hbp hpf
    refine ⟨fun hc => ?_, fun hon => by simp [hgate] at hon⟩
    rw [hpp] at hc
    obtain ⟨hd, hp, hf, -⟩ := h.1 hc
    exact ⟨hheld.trans hd, by rw [hbp, hp], hpf.trans hf, hblade⟩

theorem endsWith_of_opening {s t : State} (target : PathState) (hpp : t.pp = (openGates target s).pp)
    (hheld : t.held = (openGates target s).held) (hbp : t.bp = (openGates target s).bp) (x : Nat) (h : EndsWith x s) : EndsWith x t := by
  by_cases hg : gateOn s = true
  · rw [openGates_of_gateOn target s hg] at hheld hbp
    refine ⟨by rw [hbp]; exact h.1, fun _ => ⟨?_, hheld⟩⟩
    rw [hbp, ← h.1]
    rfl
  · rw [openGates_of_gateOff target s (by simpa using hg)] at hpp hheld hbp
    exact ⟨by rw [hbp, h.1], fun hoff => by rw [hheld, hbp]; exact h.2 (by unfold gateOn at *; rwa [← hpp])⟩

theorem openGates_prog (target : PathState) (s : State) :
    (openGates target s).bp.prog = .off ∨ (openGates target s).bp.prog = s.bp.prog := by
  unfold openGates; split
  · exact .inl rfl
  · exact .inr rfl

/-- No program runs once an opening is over. -/
theorem HeldOk.openGates_prog {s : State} (h : HeldOk s) (target : PathState) : (openGates target s).bp.prog = .off := by
  unfold openGates; split
  · rfl
  · next hg =>
    by_contra hp
    exact hg (by simp [gateOn, h.closed_of_prog hp])

/-! ## Builders -/

/-- A move of the own record that leaves the blade's power and payload as it stands. -/
theorem Keeps.of_record {s t : State} (hm : Moves s t) (hpp : t.pp.path = s.pp.path ∧ t.pp.discharged = s.pp.discharged)
    (hheld : t.held = s.held) (hbp : t.bp = s.bp)
    (hretry : t.ae.retryCount = s.ae.retryCount
      ∨ (s.ae.engine ≠ .none ∨ s.sc.start = .done) ∧ (s.ae.retryCount ≤ retryLimit s → t.ae.retryCount ≤ retryLimit s))
    (hbid : BidLaw s.ae → BidLaw t.ae)
    (hpf : t.ae.profFullPending = true → s.ae.profFullPending = true ∨ holdsBlade s.ae.engine = true)
    (hblade : holdsBlade t.ae.engine = true → holdsBlade s.ae.engine = true)
    (hattempt : HeldOk s → AttemptLaw s.ae s.bp.prog → AttemptLaw t.ae s.bp.prog) : Keeps s t := by
  have hgate : gateOn t = gateOn s := by unfold gateOn; rw [hpp.1]
  refine ⟨⟨hm.startOk, fun hs => hm.retryLaw hs hretry, fun _ => hbid, fun h => ⟨fun hc => ?_, fun hg => ?_⟩,
    fun _ hh ha => hbp ▸ hattempt hh ha, hm.queue⟩, fun _ x he => ⟨by rw [hbp, he.1], fun hoff => ?_⟩⟩
  · rw [hpp.1] at hc
    obtain ⟨hd, hp, hf, hb⟩ := h.1 hc
    refine ⟨hheld.trans hd, by rw [hbp, hp], ?_, ?_⟩
    · by_contra hpend
      rcases hpf (by simpa using hpend) with h1 | h1
      · simp [hf] at h1
      · simp [hb] at h1
    · by_contra hholds
      have := hblade (by simpa using hholds)
      simp [hb] at this
  · rw [hpp.2]; exact h.2 (hgate ▸ hg)
  · rw [hbp, hheld]; exact he.2 (hgate ▸ hoff)

/-- A move of the own record, with an opening of the path, to a state that holds no blade. -/
theorem Keeps.of_opening {s t : State} (target : PathState) (htarget : target = .opened ∨ target = .tripped) (hm : Moves s t)
    (hpp : t.pp = (openGates target s).pp) (hheld : t.held = (openGates target s).held) (hbp : t.bp = (openGates target s).bp)
    (hpf : t.ae.profFullPending = (openGates target s).ae.profFullPending) (hblade : HeldOk s → holdsBlade t.ae.engine = false)
    (hretry : t.ae.retryCount = s.ae.retryCount
      ∨ (s.ae.engine ≠ .none ∨ s.sc.start = .done) ∧ (s.ae.retryCount ≤ retryLimit s → t.ae.retryCount ≤ retryLimit s))
    (hbid : BidLaw s.ae → BidLaw t.ae)
    (hattempt : HeldOk s → AttemptLaw s.ae s.bp.prog → AttemptLaw t.ae .off) : Keeps s t :=
  ⟨⟨hm.startOk, fun hs => hm.retryLaw hs hretry, fun _ => hbid, fun h => heldOk_of_opening target htarget hpp hheld hbp hpf (hblade h) h,
    fun _ hh ha => by rw [hbp, hh.openGates_prog]; exact hattempt hh ha, hm.queue⟩,
    fun _ x he => endsWith_of_opening target hpp hheld hbp x he⟩

/-- With the main switch closed a gate is on, and the discharged condition does not hold. -/
theorem HeldOk.discharged_of_closed {s : State} (h : HeldOk s) (hc : s.pp.path = .closed) : s.pp.discharged = false :=
  h.2 (by simp [gateOn, hc])

/-- A move that may drive the held outputs and the program, where the main switch is closed after it. -/
theorem KeepsLaws.of_closed {s t : State} (hm : Moves s t) (hclosed : HeldOk s → t.pp.path = .closed ∧ t.pp.discharged = false)
    (hretry : t.ae.retryCount = s.ae.retryCount
      ∨ (s.ae.engine ≠ .none ∨ s.sc.start = .done) ∧ (s.ae.retryCount ≤ retryLimit s → t.ae.retryCount ≤ retryLimit s))
    (hbid : BidLaw s.ae → BidLaw t.ae)
    (hattempt : HeldOk s → AttemptLaw s.ae s.bp.prog → AttemptLaw t.ae t.bp.prog) : KeepsLaws s t :=
  ⟨hm.startOk, fun hs => hm.retryLaw hs hretry, fun _ => hbid,
    fun h => ⟨fun hc => absurd (hclosed h).1 hc, fun _ => (hclosed h).2⟩, fun _ => hattempt, hm.queue⟩

/-- A move that may drive the held outputs and the program, where the held outputs' law says that the main switch is closed. -/
theorem Keeps.of_closed {s t : State} (hm : Moves s t) (hclosed : HeldOk s → s.pp.path = .closed)
    (hpp : t.pp = s.pp) (htimed : t.bp.timedOut = s.bp.timedOut)
    (hretry : t.ae.retryCount = s.ae.retryCount
      ∨ (s.ae.engine ≠ .none ∨ s.sc.start = .done) ∧ (s.ae.retryCount ≤ retryLimit s → t.ae.retryCount ≤ retryLimit s))
    (hbid : BidLaw s.ae → BidLaw t.ae)
    (hattempt : HeldOk s → AttemptLaw s.ae s.bp.prog → AttemptLaw t.ae t.bp.prog) : Keeps s t :=
  ⟨.of_closed hm (fun h => hpp ▸ ⟨hclosed h, h.discharged_of_closed (hclosed h)⟩) hretry hbid hattempt, fun h x he =>
    ⟨htimed.trans he.1, fun hoff => absurd hoff (by simp [gateOn, hpp, hclosed h])⟩⟩

/-- What the laws read of a state. -/
structure LawView where
  start : StartState
  profile : Option ProfileData
  queue : List NoticeKind
  flight : Option (NoticeKind × Bool)
  path : PathState
  discharged : Bool
  held : HeldOutputs
  bp : BringUp
  engine : Engine
  cause : FaultCause
  retryCount : Nat
  bid : Bool
  window : Bool
  profFullPending : Bool
  source : RetireSource
  exit : DischargeExit
  bringupFault : Bool

def lawView (s : State) : LawView :=
  { start := s.sc.start, profile := s.sc.profile, queue := queuedKinds s.sli, flight := flightMarks s.sli,
    path := s.pp.path, discharged := s.pp.discharged, held := s.held, bp := s.bp, engine := s.ae.engine, cause := s.ae.cause,
    retryCount := s.ae.retryCount, bid := s.ae.bid.isSome, window := s.ae.window.isSome, profFullPending := s.ae.profFullPending,
    source := s.ae.source, exit := s.ae.exit, bringupFault := s.ae.bringupFault }

/-- A request for a notice changes the line alone, and what no law reads may change freely. -/
theorem Keeps.of_asks {s t : State} (h : Asks s t)
    (hview : { lawView t with queue := queuedKinds s.sli } = lawView s) : Keeps s t := by
  simp only [lawView, LawView.mk.injEq] at hview
  obtain ⟨hstart, hprofile, -, hflight, hpath, hdischarged, hheld, hbp, hengine, hcause, hretry, hbid, hwindow, hpf,
    hsource, hexit, hfault⟩ := hview
  refine .of_record ⟨hstart, hprofile, h, ?_, .inr ⟨hcause, .inl hengine⟩⟩ ⟨hpath, hdischarged⟩ hheld hbp
    (.inl hretry) ?_ (by rw [hpf]; exact .inl) (by rw [hengine]; exact id) ?_
  · rw [hengine]; by_cases h : s.ae.engine = .none
    · exact .inr (.inr h)
    · exact .inl h
  · unfold BidLaw; rw [hbid, hwindow, hengine]; exact id
  · unfold AttemptLaw holdsRetire; rw [hsource, hengine, hexit, hfault]; exact fun _ => id

theorem Keeps.of_unread {s t : State} (h : lawView t = lawView s) : Keeps s t := by
  have hqueue : queuedKinds t.sli = queuedKinds s.sli := congrArg LawView.queue h
  have hflight : flightMarks t.sli = flightMarks s.sli := congrArg LawView.flight h
  exact .of_asks (.of_same hqueue hflight) (by rw [← hqueue]; exact h)

/-- A change of the Power Path alone, short of one that opens it. -/
theorem Keeps.of_path {s t : State} (ht : t = { s with pp := t.pp }) (hopen : t.pp.path ≠ .closed → s.pp.path ≠ .closed)
    (hgate : HeldOk s → gateOn t = true → t.pp.discharged = false) (hends : gateOn t = false → gateOn s = false) : Keeps s t := by
  rw [ht]
  refine ⟨⟨id, fun _ => id, fun _ => id, fun h => ⟨fun hc => h.1 (hopen hc), fun hg => hgate h (by rw [ht]; exact hg)⟩, fun _ _ => id,
    fun _ hl hq => ⟨hl, hq⟩⟩, fun _ x he => ⟨he.1, fun hg => he.2 (hends (by rw [ht]; exact hg))⟩⟩

/-- A change of the line alone that keeps the queue's law. -/
theorem Keeps.of_line {s t : State} (ht : lawView { t with sli := s.sli } = lawView s)
    (hq : StartOk s → LineLaw s.sli → SilentLaw s → LineLaw t.sli ∧ SilentLaw t) : Keeps s t := by
  have hk : Keeps s { t with sli := s.sli } := .of_unread ht
  exact ⟨⟨hk.start, hk.retry, hk.bid, hk.held, hk.attempt, hq⟩, hk.ends⟩

/-- A change of the start state before the start is over: the laws of the own record speak of none of it. -/
theorem Keeps.of_starting {s t : State} (hs : s.sc.start ≠ .done)
    (h : { lawView t with start := s.sc.start, profile := s.sc.profile } = lawView s) : Keeps s t := by
  have hk : Keeps s { t with sc := { t.sc with start := s.sc.start, profile := s.sc.profile } } := .of_unread h
  refine ⟨⟨fun h => ⟨fun _ => (hk.start h).1 hs, (hk.start h).2⟩, fun h hr => ?_, hk.bid, hk.held, hk.attempt, fun h hl hq => ?_⟩, hk.ends⟩
  · have h0 := (hk.retry h hr).1 hs
    exact ⟨fun _ => h0, by rw [show t.ae.retryCount = 0 from h0]; exact Nat.zero_le _⟩
  · obtain ⟨hl', hq'⟩ := hk.queue h hl hq
    exact ⟨hl', fun _ => hq' ((silent_eq_true_iff _).2 (.inl hs))⟩

end Sys2Proof.Machine

/-! Each shared operation keeps the laws (chapter 05): waiting, bids, the discharge, the retry rule and the openings. -/

namespace Sys2Proof.Machine

/-! ## Flags and requests -/

theorem raise_keeps (f : EventFlag) (s : State) : Keeps s (raise f s) := .of_unread rfl

theorem raiseIf_keeps (c : Bool) (f : EventFlag) (s : State) : Keeps s (raiseIf c f s) := by
  cases c
  · exact .refl s
  · exact raise_keeps f s

theorem requestNotice_keeps (k : NoticeKind) (s : State) (hk : k ≠ .leave) : Keeps s (requestNotice k s) :=
  .of_asks (requestNotice_asks k s hk) (by unfold requestNotice; split <;> rfl)

theorem announceFrom_keeps (before after : State) : Keeps after (announceFrom before after) := by
  rcases announceFrom_cases before after with h | h
  · rw [h]; exact .refl after
  · rw [h]; exact (raise_keeps .phase after).trans (requestNotice_keeps .standing _ (by decide))

theorem setReason_keeps (r : WaitReason) (s : State) : Keeps s (setReason r s) :=
  (Keeps.of_unread (s := s) (t := { s with ae := { s.ae with reason := r } }) rfl).trans (raiseIf_keeps _ _ _)

/-! ## Waiting and bids -/

theorem enterBidding_keeps (level : PowerLevel) (resv : Nat) (s : State) (h : s.ae.engine = .waiting) :
    Keeps s (enterBidding level resv s) := by
  refine Keeps.trans ?_ (requestNotice_keeps .bid _ (by decide))
  refine .of_record ⟨rfl, rfl, .of_sli rfl, .inl (by simp [h]), .inr ⟨rfl, .inr (by simp [h])⟩⟩ ⟨rfl, rfl⟩ rfl rfl (.inl rfl) ?_ .inl ?_ ?_
  · simp [BidLaw, bids]
  · simp [holdsBlade]
  · intro _ ha
    simpa [AttemptLaw, holdsRetire, h] using ha

theorem evaluateWaiting_keeps (s : State) : Keeps s (evaluateWaiting s) := by
  unfold evaluateWaiting
  split
  · next h =>
    split
    · split
      · exact enterBidding_keeps _ _ s h
      · exact setReason_keeps _ s
    · exact .refl s
  · exact .refl s

/-- The own record on entry into WAITING (R77). -/
def waitingRecord (ae : OwnRecord) : OwnRecord := { ae with engine := .waiting, reason := .none, exit := .none, reservation := none }

theorem enterWaiting_eq (s : State) :
    enterWaiting s = evaluateWaiting (announceFrom s { s with ae := waitingRecord s.ae }) := rfl

theorem enterWaiting_keeps {s b : State} (h : Keeps s { b with ae := waitingRecord b.ae }) : Keeps s (enterWaiting b) :=
  (h.trans (announceFrom_keeps _ _)).trans (evaluateWaiting_keeps _)

theorem enterWaiting_of_engine_keeps (s : State)
    (h : s.ae.engine = .backoff ∨ s.ae.engine = .cooldown ∨ s.ae.engine = .discharging ∧ s.ae.exit = .waiting) :
    Keeps s (enterWaiting s) := by
  refine enterWaiting_keeps (.of_record ⟨rfl, rfl, .of_sli rfl, .inl ?_, .inr ⟨rfl, .inr ?_⟩⟩ ⟨rfl, rfl⟩ rfl rfl (.inl rfl) ?_ .inl ?_ ?_)
  · rcases h with h | h | ⟨h, -⟩ <;> simp [h]
  · rcases h with h | h | ⟨h, -⟩ <;> simp [h]
  · rcases h with h | h | ⟨h, -⟩ <;> simp [BidLaw, bids, h, waitingRecord]
  · simp [holdsBlade, waitingRecord]
  · rcases h with h | h | ⟨h, hx⟩ <;> intro _ ha <;> simpa [AttemptLaw, holdsRetire, *, waitingRecord] using ha

theorem closeBid_bid_window (s : State) (h : BidLaw s.ae) : (closeBid s).ae.bid = none ∧ (closeBid s).ae.window = none := by
  obtain ⟨-, hw⟩ := h
  rw [closeBid_ae]
  split
  · exact ⟨rfl, rfl⟩
  · next hb =>
    refine ⟨by simpa using hb, ?_⟩
    by_contra hn
    exact hb (hw (by cases hx : s.ae.window <;> simp_all))

theorem closeBid_engine (s : State) : (closeBid s).ae.engine = s.ae.engine := by rw [closeBid_ae]; split <;> rfl
theorem closeBid_cause (s : State) : (closeBid s).ae.cause = s.ae.cause := by rw [closeBid_ae]; split <;> rfl
theorem closeBid_retryCount (s : State) : (closeBid s).ae.retryCount = s.ae.retryCount := by rw [closeBid_ae]; split <;> rfl
theorem closeBid_source (s : State) : (closeBid s).ae.source = s.ae.source := by rw [closeBid_ae]; split <;> rfl
theorem closeBid_bringupFault (s : State) : (closeBid s).ae.bringupFault = s.ae.bringupFault := by rw [closeBid_ae]; split <;> rfl
theorem closeBid_profFullPending (s : State) : (closeBid s).ae.profFullPending = s.ae.profFullPending := by
  rw [closeBid_ae]; split <;> rfl

/-- A closed bid's station backs off (R84, R85). -/
theorem enterBackoff_closeBid_keeps (s : State) (h : s.ae.engine = .bidding) : Keeps s (enterBackoff (closeBid s)) := by
  refine Keeps.trans ?_ (announceFrom_keeps _ _)
  refine .of_record ⟨by simp, by simp, ⟨(closeBid_asks s).law, (closeBid_asks s).flight, ?_⟩, .inl (by simp [h]),
    .inr ⟨closeBid_cause s, .inr (by simp [h])⟩⟩ (by simp) (by simp) (by simp) (.inl (closeBid_retryCount s)) ?_ ?_ ?_ ?_
  · intro hs
    refine (closeBid_asks s).quiet ?_
    simp only [silent_eq_true_iff, closeBid_sc] at *
    exact .inl (by simpa using hs)
  · intro hb
    simp [BidLaw, bids, closeBid_bid_window s hb]
  · exact fun hp => .inl (closeBid_profFullPending s ▸ hp)
  · simp [holdsBlade]
  · intro _ ha
    simpa [AttemptLaw, holdsRetire, h, closeBid_source, closeBid_bringupFault] using ha

/-- A feed fault in BIDDING returns the station to WAITING (R99). -/
theorem enterWaiting_closeBid_keeps {s b : State} (hb : b.ae.engine = .bidding)
    (hk : Keeps s b) : Keeps s (enterWaiting (closeBid b)) := by
  refine hk.trans (enterWaiting_keeps ?_)
  refine .of_record ⟨by simp, by simp, ⟨(closeBid_asks b).law, (closeBid_asks b).flight, ?_⟩, .inl (by simp [hb]),
    .inr ⟨closeBid_cause b, .inr (by simp [hb])⟩⟩ (by simp) (by simp) (by simp) (.inl (closeBid_retryCount b)) ?_ ?_ ?_ ?_
  · intro hs
    refine (closeBid_asks b).quiet ?_
    simp only [silent_eq_true_iff, closeBid_sc] at *
    exact .inl (by simpa [waitingRecord] using hs)
  · intro hb
    simp [BidLaw, bids, closeBid_bid_window b hb, waitingRecord]
  · exact fun hp => .inl (closeBid_profFullPending b ▸ hp)
  · simp [holdsBlade, waitingRecord]
  · intro _ ha
    simpa [AttemptLaw, holdsRetire, hb, closeBid_source, closeBid_bringupFault, waitingRecord] using ha

/-! ## DISCHARGING -/

/-- The own record on entry into DISCHARGING (R95, R152). -/
def discharged (exit : DischargeExit) (s : State) : OwnRecord := latchReturn (dischargingRecord exit s.ae) s.rc.latchOpen

theorem dischargingRecord_closeBid (exit : DischargeExit) (s : State) :
    dischargingRecord exit (closeBid s).ae = dischargingRecord exit s.ae := by rw [closeBid_ae]; split <;> rfl

theorem beginDischarging_eq (exit : DischargeExit) (s : State) :
    beginDischarging exit s = announceFrom (closeBid s) { closeBid s with ae := discharged exit s } := by
  simp only [beginDischarging, discharged, dischargingRecord_closeBid, closeBid_rc]

@[simp] theorem beginDischarging_ae (exit : DischargeExit) (s : State) : (beginDischarging exit s).ae = discharged exit s := by
  rw [beginDischarging_eq]; simp

@[simp] theorem discharged_engine (exit : DischargeExit) (s : State) : (discharged exit s).engine = .discharging := by
  unfold discharged latchReturn; split <;> rfl

@[simp] theorem discharged_bid (exit : DischargeExit) (s : State) : (discharged exit s).bid = none := by
  unfold discharged latchReturn; split <;> rfl

@[simp] theorem discharged_window (exit : DischargeExit) (s : State) : (discharged exit s).window = none := by
  unfold discharged latchReturn; split <;> rfl

@[simp] theorem discharged_retryCount (exit : DischargeExit) (s : State) : (discharged exit s).retryCount = s.ae.retryCount := by
  unfold discharged latchReturn; split <;> rfl

@[simp] theorem discharged_profFullPending (exit : DischargeExit) (s : State) :
    (discharged exit s).profFullPending = s.ae.profFullPending := by
  unfold discharged latchReturn; split <;> rfl

theorem discharged_cause (exit : DischargeExit) (s : State) :
    (discharged exit s).cause = s.ae.cause ∨ (discharged exit s).cause = .none := by
  unfold discharged latchReturn
  split
  · exact .inr rfl
  · exact .inl rfl

/-- The attempt's law after an entry into DISCHARGING with the program over, where a recorded retire discharges to RELEASED (R98). -/
theorem attemptLaw_discharged {exit : DischargeExit} {s : State} {prog : ProgramState} (hp : prog ≠ .forward)
    (hs : s.ae.source ≠ .none → exit = .released) : AttemptLaw (discharged exit s) prog := by
  unfold discharged latchReturn
  split
  · simp [AttemptLaw, dischargingRecord, hp]
  · exact ⟨fun h => by simp [holdsRetire, dischargingRecord, hs h], fun h => absurd h hp, by simp [dischargingRecord], by simp [dischargingRecord]⟩

/-- The state `b` from which `s` enters DISCHARGING: the laws' part of it that does not speak of the blade. -/
structure Discharges (s b : State) (exit : DischargeExit) : Prop where
  start : b.sc.start = s.sc.start
  profile : b.sc.profile = s.sc.profile
  asks : Asks s b
  alive : s.ae.engine ≠ .none ∨ s.sc.start = .done
  cause : silentCause b.ae.cause = false ∨ b.ae.cause = s.ae.cause ∧ s.ae.engine ≠ .stopped
  retry : s.ae.retryCount ≤ retryLimit s → b.ae.retryCount ≤ retryLimit s
  source : AttemptLaw s.ae s.bp.prog → b.ae.source ≠ .none → exit = .released

theorem Discharges.moves {s b : State} {exit : DischargeExit} (h : Discharges s b exit) :
    Moves s { closeBid b with ae := discharged exit b } := by
  refine ⟨by simp [h.start], by simp [h.profile], ?_, h.alive.imp_right .inl, ?_⟩
  · have hb := closeBid_asks b
    refine h.asks.trans (u := { closeBid b with ae := discharged exit b })
      ⟨hb.law, hb.flight, fun hs => hb.quiet ?_⟩ ?_ <;>
    · intros
      simp_all [silent_eq_true_iff]
  · rcases discharged_cause exit b with hc | hc
    · rcases h.cause with hn | ⟨hsame, hne⟩
      · exact .inl (by simpa [hc] using hn)
      · exact .inr ⟨hc.trans hsame, .inr hne⟩
    · exact .inl (by simp [hc, silentCause])

/-- DISCHARGING entered with the power path as it stands, from a state that runs no program forward. -/
theorem beginDischarging_keeps {s b : State} {exit : DischargeExit} (h : Discharges s b exit)
    (hblade : b.pp.path = s.pp.path ∧ b.pp.discharged = s.pp.discharged ∧ b.held = s.held ∧ b.bp = s.bp
      ∧ b.ae.profFullPending = s.ae.profFullPending) (hne : s.ae.engine ≠ .bringup) :
    Keeps s (beginDischarging exit b) := by
  obtain ⟨hpath, hdis, hheld, hbp, hpf⟩ := hblade
  rw [beginDischarging_eq]
  refine Keeps.trans ?_ (announceFrom_keeps _ _)
  refine .of_record h.moves (by simp [hpath, hdis]) (by simp [hheld]) (by simp [hbp]) (.inr ⟨h.alive, by simpa using h.retry⟩) ?_ ?_ ?_ ?_
  · simp [BidLaw, bids]
  · simpa [hpf] using .inl
  · simp [holdsBlade]
  · exact fun _ ha => attemptLaw_discharged (fun hp => hne (ha.2.1 hp).1) (h.source ha)

/-- DISCHARGING entered with the opening of the power path. -/
theorem beginDischarging_opening_keeps {s b : State} {exit : DischargeExit} (target : PathState)
    (ht : target = .opened ∨ target = .tripped) (h : Discharges s b exit)
    (hblade : b.pp = (openGates target s).pp ∧ b.held = (openGates target s).held ∧ b.bp = (openGates target s).bp
      ∧ b.ae.profFullPending = (openGates target s).ae.profFullPending) : Keeps s (beginDischarging exit b) := by
  obtain ⟨hpp, hheld, hbp, hpf⟩ := hblade
  rw [beginDischarging_eq]
  refine Keeps.trans ?_ (announceFrom_keeps _ _)
  refine .of_opening target ht h.moves (by simp [hpp]) (by simp [hheld]) (by simp [hbp]) (by simp [hpf]) (fun _ => by simp [holdsBlade])
    (.inr ⟨h.alive, by simpa using h.retry⟩) ?_ ?_
  · simp [BidLaw, bids]
  · exact fun _ ha => attemptLaw_discharged (by decide) (h.source ha)

theorem completeDischarge_keeps (s : State) : Keeps s (completeDischarge s) := by
  unfold completeDischarge
  split
  · next h =>
    split
    · exact .refl s
    · next hx => exact enterWaiting_of_engine_keeps s (.inr (.inr ⟨h.1, hx⟩))
    all_goals
      next hx =>
      refine Keeps.trans ?_ (announceFrom_keeps _ _)
      refine .of_record ⟨rfl, rfl, .of_sli rfl, .inl (by simp [h.1]), .inr ⟨rfl, .inr (by simp [h.1])⟩⟩ ⟨rfl, rfl⟩ rfl rfl (.inl rfl) ?_ .inl ?_ ?_
      · simp [BidLaw, bids, h.1]
      · simp [holdsBlade]
      · intro _ ha
        simpa [AttemptLaw, holdsRetire, h.1, hx] using ha
  · exact .refl s

theorem enterDischarging_keeps {s b : State} {exit : DischargeExit} (h : Keeps s (beginDischarging exit b)) :
    Keeps s (enterDischarging exit b) := h.trans (completeDischarge_keeps _)

/-! ## The retry rule -/

theorem retryRecord_fields (limit : Nat) (c : CountedFault) (ae : OwnRecord) :
    (retryRecord limit c ae).source = ae.source ∧ (retryRecord limit c ae).profFullPending = ae.profFullPending
      ∧ silentCause (retryRecord limit c ae).cause = false := by
  unfold retryRecord
  split
  · cases c <;> simp [silentCause, causeOf]
  · simp [silentCause]

/-- The retry rule enters DISCHARGING, a recorded retire to RELEASED (R94). -/
theorem Discharges.retry_rule {s b : State} (c : CountedFault) (hsc : b.sc = s.sc) (hsli : b.sli = s.sli)
    (halive : s.ae.engine ≠ .none ∨ s.sc.start = .done) (hretry : b.ae.retryCount = s.ae.retryCount) :
    Discharges s (raise .fault { b with ae := retryRecord (retryLimit b) c b.ae }) (retryExit (retryLimit b) b.ae) := by
  obtain ⟨hsource, -, hcause⟩ := retryRecord_fields (retryLimit b) c b.ae
  have hlimit : retryLimit b = retryLimit s := by unfold retryLimit; rw [hsc]
  refine ⟨by simp [hsc], by simp [hsc], .of_sli hsli, halive, .inl hcause, fun hle => ?_, fun _ hs => ?_⟩
  · rw [← hlimit] at hle ⊢
    exact retryRecord_count_le _ c _ (hretry ▸ hle)
  · have hs' : b.ae.source ≠ .none := hsource ▸ hs
    simp [retryExit, hs']

theorem beginRetry_keeps {s b : State} (c : CountedFault) (hsc : b.sc = s.sc) (hsli : b.sli = s.sli)
    (halive : s.ae.engine ≠ .none ∨ s.sc.start = .done) (hretry : b.ae.retryCount = s.ae.retryCount)
    (hblade : b.pp.path = s.pp.path ∧ b.pp.discharged = s.pp.discharged ∧ b.held = s.held ∧ b.bp = s.bp
      ∧ b.ae.profFullPending = s.ae.profFullPending) (hne : s.ae.engine ≠ .bringup) : Keeps s (beginRetry c b) := by
  obtain ⟨-, hpf, -⟩ := retryRecord_fields (retryLimit b) c b.ae
  exact beginDischarging_keeps (.retry_rule c hsc hsli halive hretry) (by simpa [hpf] using hblade) hne

theorem retryRule_opening_keeps (s : State) (c : CountedFault) (target : PathState) (ht : target = .opened ∨ target = .tripped)
    (he : s.ae.engine ≠ .none) : Keeps s (retryRule c (openGates target s)) := by
  obtain ⟨-, hpf, -⟩ := retryRecord_fields (retryLimit (openGates target s)) c (openGates target s).ae
  refine Keeps.trans ?_ (completeDischarge_keeps _)
  refine beginDischarging_opening_keeps target ht (.retry_rule c (by simp) (by simp) (.inl he) ?_) ⟨rfl, rfl, rfl, hpf⟩
  unfold openGates openedRecord
  (repeat' split) <;> rfl

/-! ## Openings -/

theorem openGates_ae (target : PathState) (s : State) :
    (openGates target s).ae = if gateOn s then openedRecord s.ae else s.ae := by unfold openGates; split <;> rfl

theorem openedRecord_fields (ae : OwnRecord) :
    (openedRecord ae).engine = ae.engine ∧ (openedRecord ae).cause = ae.cause ∧ (openedRecord ae).retryCount = ae.retryCount
      ∧ (openedRecord ae).bid = ae.bid ∧ (openedRecord ae).window = ae.window ∧ (openedRecord ae).source = ae.source
      ∧ (openedRecord ae).exit = ae.exit ∧ (openedRecord ae).bringupFault = ae.bringupFault := by
  unfold openedRecord; split <;> simp

section
variable (target : PathState) (s : State)

@[simp] theorem openGates_engine : (openGates target s).ae.engine = s.ae.engine := by
  rw [openGates_ae]; split <;> simp [openedRecord_fields]
@[simp] theorem openGates_cause : (openGates target s).ae.cause = s.ae.cause := by
  rw [openGates_ae]; split <;> simp [openedRecord_fields]
@[simp] theorem openGates_retryCount : (openGates target s).ae.retryCount = s.ae.retryCount := by
  rw [openGates_ae]; split <;> simp [openedRecord_fields]
@[simp] theorem openGates_bid : (openGates target s).ae.bid = s.ae.bid := by
  rw [openGates_ae]; split <;> simp [openedRecord_fields]
@[simp] theorem openGates_window : (openGates target s).ae.window = s.ae.window := by
  rw [openGates_ae]; split <;> simp [openedRecord_fields]
@[simp] theorem openGates_source : (openGates target s).ae.source = s.ae.source := by
  rw [openGates_ae]; split <;> simp [openedRecord_fields]
@[simp] theorem openGates_exit : (openGates target s).ae.exit = s.ae.exit := by
  rw [openGates_ae]; split <;> simp [openedRecord_fields]
@[simp] theorem openGates_bringupFault : (openGates target s).ae.bringupFault = s.ae.bringupFault := by
  rw [openGates_ae]; split <;> simp [openedRecord_fields]

end

/-- An opening with no blade held by the engine. -/
theorem openGates_keeps (target : PathState) (s : State) (ht : target = .opened ∨ target = .tripped)
    (hblade : HeldOk s → holdsBlade s.ae.engine = false) : Keeps s (openGates target s) := by
  refine .of_opening target ht ⟨by simp, by simp, .of_sli (by simp), ?_, .inr ⟨by simp, .inl (by simp)⟩⟩ rfl rfl rfl rfl (fun h => by simpa using hblade h)
    (.inl (by simp)) (by simp [BidLaw]) ?_
  · by_cases h : s.ae.engine = .none <;> simp [h]
  · intro _ ha
    obtain ⟨hsource, -, hfault, -⟩ := ha
    refine ⟨?_, by simp, by simpa using hfault, by simp⟩
    simpa [holdsRetire] using hsource

theorem failAttempt_keeps (c : CountedFault) (s : State) (hb : HeldOk s → holdsBlade s.ae.engine = false) : Keeps s (failAttempt c s) := by
  unfold failAttempt
  dsimp only
  split
  · next he => exact retryRule_opening_keeps s c .opened (.inl rfl) (by simpa using fun h => by simp [h] at he)
  · exact openGates_keeps .opened s (.inl rfl) hb

end Sys2Proof.Machine

/-! The teardown, RETIRING, ADMITTED and the forward run keep the laws (chapters 05, 07, 08). -/

namespace Sys2Proof.Machine

/-! ## The teardown -/

/-- A change that leaves the own record alone moves nothing. -/
theorem Moves.of_ae {s t : State} (hsc : t.sc = s.sc) (hsli : t.sli = s.sli) (hae : t.ae = s.ae) : Moves s t := by
  refine ⟨by rw [hsc], by rw [hsc], .of_sli hsli, ?_, .inr ⟨by rw [hae], .inl (by rw [hae])⟩⟩
  rw [hae]
  by_cases h : s.ae.engine = .none
  · exact .inr (.inr h)
  · exact .inl h

/-- A running program's own changes: its pointer, timers and latches, at one and the same own record. -/
theorem Keeps.of_program {s t : State} (hsc : t.sc = s.sc) (hsli : t.sli = s.sli) (hae : t.ae = s.ae) (hpp : t.pp = s.pp)
    (htimed : t.bp.timedOut = s.bp.timedOut) (hprog : s.bp.prog ≠ .off)
    (hkept : t.bp.prog = s.bp.prog ∨ t.bp.prog = .teardown) : Keeps s t := by
  refine .of_closed (.of_ae hsc hsli hae) (fun h => h.closed_of_prog hprog) hpp htimed (.inl (by rw [hae])) (by rw [hae]; exact id) ?_
  intro _ ha
  rw [hae]
  rcases hkept with h | h
  · rwa [h]
  · exact ⟨ha.1, by simp [h], ha.2.2.1, fun hn => absurd (ha.2.2.2 hn) hprog⟩

theorem enterDischarging_released_opening_keeps (s : State) (hb : holdsBlade s.ae.engine = true) :
    Keeps s (enterDischarging .released (openGates .opened s)) := by
  have hne : s.ae.engine ≠ .none ∧ s.ae.engine ≠ .stopped := by constructor <;> (intro h; simp [h, holdsBlade] at hb)
  exact enterDischarging_keeps (beginDischarging_opening_keeps .opened (.inl rfl)
    ⟨by simp, by simp, .of_sli (by simp), .inl hne.1, .inr ⟨by simp, hne.2⟩, by simp, fun _ _ => rfl⟩ ⟨rfl, rfl, rfl, rfl⟩)

theorem teardownComplete_keeps (s : State) : Keeps s (teardownComplete s) := by
  unfold teardownComplete
  dsimp only
  split
  · split
    · next hb =>
      split
      · exact retryRule_opening_keeps s _ .opened (.inl rfl) (by intro h; simp [h, holdsBlade] at hb)
      · exact enterDischarging_released_opening_keeps s hb
    · next hb => exact openGates_keeps .opened s (.inl rfl) (fun _ => by simpa using hb)
  · exact .refl s

theorem undoFrom_keeps (n : Nat) (s : State) (h : s.bp.prog = .teardown) : Keeps s (undoFrom n s) := by
  induction n generalizing s with
  | zero => exact teardownComplete_keeps s
  | succ n ih =>
    unfold undoFrom
    split
    · exact ih s h
    · next r _ =>
      have hstep : Keeps s { s with held := driveDown r.action s.held, bp := undoing (n + 1) r.teardown s.bp } :=
        .of_program rfl rfl rfl rfl rfl (by simp [h]) (.inr rfl)
      dsimp only
      split
      · exact hstep.trans (ih _ rfl)
      · exact hstep

/-! ## RETIRING -/

/-- The state `b` from which `s`, holding its blade, enters a substate of RETIRING: a retire source may have been recorded, a bid closed. -/
structure Retires (s b : State) : Prop where
  start : b.sc.start = s.sc.start
  profile : b.sc.profile = s.sc.profile
  asks : Asks s b
  pp : b.pp = s.pp
  bp : b.bp = s.bp
  blade : holdsBlade s.ae.engine = true
  cause : b.ae.cause = s.ae.cause
  retry : b.ae.retryCount = s.ae.retryCount
  bid : BidLaw s.ae → b.ae.bid = none ∧ b.ae.window = none
  fault : AttemptLaw s.ae s.bp.prog → b.ae.bringupFault = false

/-- In RETIRING a station may go on to any substate. -/
theorem Retires.refl (s : State) (h : ∃ sub, s.ae.engine = .retiring sub) : Retires s s := by
  obtain ⟨sub, h⟩ := h
  refine ⟨rfl, rfl, .of_sli rfl, rfl, rfl, by simp [h, holdsBlade], rfl, rfl, ?_, ?_⟩
  · exact fun hb => hb.none (by simp [bids, h])
  · simp [AttemptLaw, h]

/-- Entry into a substate of RETIRING: the record, the held outputs and the program after it. -/
theorem Keeps.of_retires {s b t : State} (h : Retires s b) (hsc : t.sc = b.sc) (hasks : Asks b t) (hpp : t.pp = b.pp)
    (htimed : t.bp.timedOut = b.bp.timedOut) (he : ∃ sub, t.ae.engine = .retiring sub) (hcause : t.ae.cause = b.ae.cause)
    (hretry : t.ae.retryCount = b.ae.retryCount) (hbid : t.ae.bid = b.ae.bid) (hwindow : t.ae.window = b.ae.window)
    (hfault : t.ae.bringupFault = b.ae.bringupFault) (hprog : AttemptLaw s.ae s.bp.prog → t.bp.prog ≠ .forward) : Keeps s t := by
  obtain ⟨sub, he⟩ := he
  have hne : s.ae.engine ≠ .none ∧ s.ae.engine ≠ .stopped := by constructor <;> (intro hs; simpa [hs, holdsBlade] using h.blade)
  refine .of_closed ⟨by rw [hsc, h.start], by rw [hsc, h.profile], h.asks.trans hasks ?_, .inl hne.1,
    .inr ⟨hcause.trans h.cause, .inr hne.2⟩⟩ (fun hh => hh.closed_of_holdsBlade h.blade) (hpp.trans h.pp) (htimed.trans (by rw [h.bp]))
    (.inl (hretry.trans h.retry)) ?_ ?_
  · simp only [silent_eq_true_iff, hsc, he, reduceCtorEq, false_and, or_false]
    exact .inl
  · intro hl
    simp [BidLaw, bids, he, hbid, hwindow, h.bid hl]
  · intro _ ha
    exact ⟨fun _ => by simp [holdsRetire, he], fun hf => absurd hf (hprog ha), by simp [hfault, h.fault ha], by simp [he]⟩

/-- The station on entry into TEARDOWN, before the program is commanded to tear down (R149). -/
def enteringTeardown (b : State) : State :=
  announceFrom b
    { b with ae := { b.ae with engine := .retiring .teardown, profFullPending := false }, held := { b.held with takeover := false },
             rc := { b.rc with handover := none, quiesce := none, mateGone := false } }

theorem enterTeardown_eq (b : State) : enterTeardown b = teardownCommand (enteringTeardown b) := rfl

@[simp] theorem enteringTeardown_bp (b : State) : (enteringTeardown b).bp = b.bp := by simp [enteringTeardown]

theorem enteringTeardown_keeps {s b : State} (h : Retires s b) (bp : BringUp) (htimed : bp.timedOut = b.bp.timedOut)
    (hprog : AttemptLaw s.ae s.bp.prog → bp.prog ≠ .forward) : Keeps s { enteringTeardown b with bp := bp } := by
  refine .of_retires h (by simp [enteringTeardown]) ?_ (by simp [enteringTeardown]) htimed ⟨_, by simp [enteringTeardown]; rfl⟩
    (by simp [enteringTeardown]) (by simp [enteringTeardown]) (by simp [enteringTeardown]) (by simp [enteringTeardown])
    (by simp [enteringTeardown]) hprog
  have ha : Asks b (enteringTeardown b) := (announceFrom_asks b _).from_sli rfl
  exact ⟨ha.law, ha.flight, ha.quiet⟩

theorem enterTeardown_keeps {s b : State} (h : Retires s b) : Keeps s (enterTeardown b) := by
  have hsame : { enteringTeardown b with bp := b.bp } = enteringTeardown b := by rw [← enteringTeardown_bp]
  rw [enterTeardown_eq]
  unfold teardownCommand
  rw [enteringTeardown_bp]
  split
  · next hp => exact (hsame ▸ enteringTeardown_keeps h b.bp rfl (by simp [hp])).trans (teardownComplete_keeps _)
  · exact (enteringTeardown_keeps h (undoing b.bp.pointer 0 b.bp) rfl (fun _ => by simp [undoing])).trans (undoFrom_keeps _ _ rfl)
  · exact (enteringTeardown_keeps h (undoing b.bp.pointer 0 b.bp) rfl (fun _ => by simp [undoing])).trans (undoFrom_keeps _ _ rfl)
  · next hp => exact hsame ▸ enteringTeardown_keeps h b.bp rfl (by simp [hp])

theorem enterDraining_keeps {s b : State} (h : Retires s b) (hprog : AttemptLaw s.ae s.bp.prog → s.bp.prog ≠ .forward) :
    Keeps s (enterDraining b) := by
  have hentered := Keeps.of_retires (t := { b with
      ae := { b.ae with engine := .retiring .draining }, held := { b.held with drain := true },
      rc := { b.rc with handover := none, handoverReq := false, quiesce := some (quiesceMs b) } })
    h rfl (.of_sli rfl) rfl rfl ⟨_, rfl⟩ rfl rfl rfl rfl rfl (h.bp ▸ hprog)
  unfold enterDraining
  dsimp only
  split
  · exact hentered.trans (enterTeardown_keeps (.refl _ ⟨_, rfl⟩))
  · exact hentered

/-- With RETIRING entered no program runs forward. -/
theorem AttemptLaw.not_forward {ae : OwnRecord} {prog : ProgramState} (h : AttemptLaw ae prog) (he : ae.engine ≠ .bringup) :
    prog ≠ .forward := fun hp => he (h.2.1 hp).1

theorem enterDraining_self_keeps (s : State) (h : ∃ sub, s.ae.engine = .retiring sub) : Keeps s (enterDraining s) :=
  enterDraining_keeps (.refl s h) fun ha => ha.not_forward (by obtain ⟨sub, h⟩ := h; simp [h])

theorem enterHandover_self_keeps (s : State) (h : ∃ sub, s.ae.engine = .retiring sub) : Keeps s (enterHandover s) := by
  have hentered := Keeps.of_retires (t := { s with
      ae := { s.ae with engine := .retiring .handover }, rc := { s.rc with handoverReq := true, handover := some (handoverMs s) } })
    (.refl s h) rfl (.of_sli rfl) rfl rfl ⟨_, rfl⟩ rfl rfl rfl rfl rfl
    (fun ha => ha.not_forward (by obtain ⟨sub, h⟩ := h; simp [h]))
  unfold enterHandover
  dsimp only
  split
  · exact hentered.trans (enterDraining_self_keeps _ ⟨_, rfl⟩)
  · exact hentered

theorem enterRetiring_keeps {s b : State} (h : Retires s b) (hne : s.ae.engine ≠ .bringup) : Keeps s (enterRetiring b) := by
  have hentered : Keeps s (announceFrom b { b with ae := { b.ae with engine := .retiring .draining, excursion := false, retryHold := none,
                                                                     shedWait := none } }) :=
    .of_retires h (by simp) ((announceFrom_asks b _).from_sli rfl) (by simp) (by simp) ⟨_, by simp; rfl⟩ (by simp) (by simp) (by simp) (by simp) (by simp)
      (fun ha => by simpa [h.bp] using ha.not_forward hne)
  unfold enterRetiring
  dsimp only
  split
  · exact hentered.trans (enterHandover_self_keeps _ ⟨_, by simp; rfl⟩)
  · exact hentered.trans (enterDraining_self_keeps _ ⟨_, by simp; rfl⟩)

theorem evaluateHandover_keeps (s : State) : Keeps s (evaluateHandover s) := by
  unfold evaluateHandover
  split
  · next h => exact enterDraining_self_keeps s (h.1.elim (fun h => ⟨_, h⟩) (fun h => ⟨_, h⟩))
  · exact .refl s

theorem forceRetire_keeps (s : State) : Keeps s (forceRetire s) := by
  unfold forceRetire
  split
  · next h => exact enterDraining_self_keeps s (h.elim (fun h => ⟨_, h⟩) (fun h => ⟨_, h⟩))
  · exact .refl s

/-- A change of the held outputs and of the Retire Coordinator alone, with the main switch closed. -/
theorem Keeps.of_held {s t : State} (ht : t = { s with held := t.held, rc := t.rc }) (hclosed : HeldOk s → s.pp.path = .closed) :
    Keeps s t := by
  rw [ht]
  exact .of_closed (.of_ae rfl rfl rfl) hclosed rfl rfl (.inl rfl) id fun _ => id

theorem HeldOk.closed_of_takeover {s : State} (h : HeldOk s) (ht : s.held.takeover = true) : s.pp.path = .closed := by
  by_contra hc
  simp [(h.1 hc).1, HeldOutputs.deasserted] at ht

theorem maintainTakeover_keeps (before s : State) : Keeps s (maintainTakeover before s) := by
  unfold maintainTakeover
  dsimp only
  split
  · next ht =>
    have hclosed : HeldOk s → s.pp.path = .closed := fun h => h.closed_of_takeover ht
    split
    · split <;> exact .of_held rfl hclosed
    · exact .of_held rfl hclosed
  · exact .refl s

theorem takeoverWanted_admitted {s : State} (h : takeoverWanted s = true) : ∃ sub, s.ae.engine = .admitted sub := by
  unfold takeoverWanted at h
  split at h
  · next sub _ he _ => exact ⟨sub, he⟩
  · simp at h

theorem evaluateTakeover_keeps (s : State) : Keeps s (evaluateTakeover s) := by
  unfold evaluateTakeover
  split
  · next h =>
    obtain ⟨sub, he⟩ := takeoverWanted_admitted h.1
    exact .of_held rfl fun hh => hh.closed_of_holdsBlade (by simp [he, holdsBlade])
  · exact .refl s

/-! ## ADMITTED -/

theorem completeShed_keeps (s : State) (h : s.ae.engine = .admitted .shedding) : Keeps s (completeShed s) := by
  unfold completeShed
  dsimp only
  split
  · refine enterRetiring_keeps ⟨by simp, by simp, .of_sli (by simp), by simp, by simp, by simp [h, holdsBlade], by simp, by simp, ?_, ?_⟩
      (by simp [h])
    · exact fun hb => by simpa using hb.none (by simp [bids, h])
    · simp [AttemptLaw, h]
  · next hs =>
    refine .of_record ⟨by simp, by simp, .of_sli (by simp), .inl (by simp [h]), .inr ⟨by simp, .inr (by simp [h])⟩⟩ (by simp) (by simp)
      (by simp) (.inl (by simp)) ?_ ?_ ?_ ?_
    · simp [BidLaw, bids, h]
    · simpa using .inl
    · simp [h, holdsBlade]
    · intro _ ha
      simp only [raiseIf_ae, raise_ae, ne_eq, not_not] at hs
      simpa [AttemptLaw, holdsRetire, h, hs] using ha.2

theorem enterShedding_keeps {s b : State} (h : s.ae.engine = .admitted .steady) (hb : b = { s with ae := { s.ae with excursion := true } }) :
    Keeps s (enterShedding b) := by
  subst hb
  unfold enterShedding
  dsimp only
  have hentered : Keeps s { s with
      ae := { s.ae with engine := .admitted .shedding, profFullPending := false, shedWait := some shedWaitMs, excursion := true },
      held := { s.held with profFull := false } } := by
    refine .of_closed ⟨rfl, rfl, .of_sli rfl, .inl (by simp [h]), .inr ⟨rfl, .inr (by simp [h])⟩⟩
      (fun hh => hh.closed_of_holdsBlade (by simp [h, holdsBlade])) rfl rfl (.inl rfl) ?_ ?_
    · simp [BidLaw, bids, h]
    · intro _ ha
      simpa [AttemptLaw, holdsRetire, h] using ha.2
  split
  · exact hentered
  · exact hentered.trans (completeShed_keeps _ rfl)

theorem failUpgrade_keeps (s : State) (h : s.ae.engine = .admitted .upgradeBid) : Keeps s (failUpgrade s) := by
  have ha := closeBid_asks s
  refine .of_record ⟨by simp [failUpgrade], by simp [failUpgrade], ⟨ha.law, ha.flight, fun hs => ha.quiet ?_⟩,
    .inl (by simp [h]), .inr ⟨closeBid_cause s, .inr (by simp [h])⟩⟩ (by simp) (by simp) (by simp) (.inl (closeBid_retryCount s)) ?_ ?_ ?_ ?_
  · rw [silent_eq_true_iff] at *
    exact .inl (by simpa [failUpgrade] using hs)
  · intro hb
    simp [BidLaw, bids, failUpgrade, closeBid_bid_window s hb]
  · exact fun hp => .inl (closeBid_profFullPending s ▸ hp)
  · simp [h, holdsBlade]
  · intro _ hl
    simpa [AttemptLaw, holdsRetire, h, failUpgrade, closeBid_source, closeBid_bringupFault] using hl

theorem enterUpgradeBid_keeps (p : ProfileData) (vC : Nat) (s : State) (h : s.ae.engine = .admitted .steady) :
    Keeps s (enterUpgradeBid p vC s) := by
  refine Keeps.trans ?_ (requestNotice_keeps .bid _ (by decide))
  refine .of_record ⟨rfl, rfl, .of_sli rfl, .inl (by simp [h]), .inr ⟨rfl, .inr (by simp [h])⟩⟩ ⟨rfl, rfl⟩ rfl rfl (.inl rfl) ?_ .inl ?_ ?_
  · simp [BidLaw, bids]
  · simp [h, holdsBlade]
  · intro _ ha
    simpa [AttemptLaw, holdsRetire, h] using ha

theorem beginExcursion_keeps (sub : AdmittedSub) (s : State) (h : s.ae.engine = .admitted sub) : Keeps s (beginExcursion sub s) := by
  have hmark : Keeps s { s with ae := { s.ae with excursion := true } } := .of_unread rfl
  unfold beginExcursion
  cases sub with
  | steady =>
    dsimp only
    split
    · exact enterShedding_keeps h rfl
    · exact hmark.trans (raise_keeps _ _)
  | upgradeBid => exact (hmark.trans (failUpgrade_keeps _ h)).trans (raise_keeps _ _)
  | shedding => exact hmark

theorem openUpgrade_keeps (sub : AdmittedSub) (s : State) (h : s.ae.engine = .admitted sub) : Keeps s (openUpgrade sub s) := by
  unfold openUpgrade
  split
  · split
    · next hc => exact enterUpgradeBid_keeps _ _ s (hc.1 ▸ h)
    · exact .refl s
  · exact .refl s

theorem evaluateAdmitted_keeps (s : State) : Keeps s (evaluateAdmitted s) := by
  unfold evaluateAdmitted
  split
  · next sub h =>
    split
    · split
      · exact .refl s
      · exact beginExcursion_keeps sub s h
    · have hover : Keeps s { s with ae := { s.ae with excursion := false } } := .of_unread rfl
      exact hover.trans (openUpgrade_keeps sub _ h)
  · exact .refl s

theorem evaluations_admitted_keeps (s : State) : Keeps s (evaluateTakeover (evaluateAdmitted s)) :=
  (evaluateAdmitted_keeps s).trans (evaluateTakeover_keeps _)

theorem enterAdmitted_keeps {s b : State} (h : Keeps s { b with ae := { b.ae with engine := .admitted .steady } }) :
    Keeps s (enterAdmitted b) := (h.trans (announceFrom_keeps _ _)).trans (evaluations_admitted_keeps _)

/-! ## Retire requests and cancels -/

theorem honourCancel_keeps (s : State) : Keeps s (honourCancel s) := by
  unfold honourCancel
  split
  · next sub h =>
    refine .of_record ⟨rfl, rfl, .of_sli rfl, .inl (by simp [h]), .inr ⟨rfl, .inl rfl⟩⟩ ⟨rfl, rfl⟩ rfl rfl (.inl rfl) id .inl id ?_
    intro _ ha
    exact ⟨by simp, ha.2⟩
  · next sub h =>
    refine enterAdmitted_keeps (.of_closed ⟨rfl, rfl, .of_sli rfl, .inl (by simp [h]), .inr ⟨rfl, .inr (by simp [h])⟩⟩
      (fun hh => hh.closed_of_holdsBlade (by simp [h, holdsBlade])) rfl rfl (.inl rfl) ?_ ?_)
    · simp [BidLaw, bids, h]
    · intro _ ha
      simpa [AttemptLaw, h] using ha.2
  · exact .refl s

/-- A retire of a state that runs no blade discharges to RELEASED (R98). -/
theorem retire_discharging_keeps (source : RetireSource) (s : State) (he : s.ae.engine ≠ .none) (hb : s.ae.engine ≠ .bringup)
    (hsilent : silentCause s.ae.cause = false ∨ s.ae.engine ≠ .stopped) :
    Keeps s (enterDischarging .released { s with ae := { s.ae with source := source } }) :=
  enterDischarging_keeps (beginDischarging_keeps
    ⟨rfl, rfl, .of_sli rfl, .inl he, hsilent.imp id (fun h => ⟨rfl, h⟩), id, fun _ _ => rfl⟩ ⟨rfl, rfl, rfl, rfl, rfl⟩ hb)

theorem openGates_of_ae (target : PathState) (s : State) (ae : OwnRecord) :
    (openGates target { s with ae := ae }).pp = (openGates target s).pp ∧ (openGates target { s with ae := ae }).held = (openGates target s).held
      ∧ (openGates target { s with ae := ae }).bp = (openGates target s).bp := by
  unfold openGates
  have hg : gateOn { s with ae := ae } = gateOn s := rfl
  rw [hg]
  split <;> exact ⟨rfl, rfl, rfl⟩

/-- A retire held or recorded in a state that holds one (R98). -/
theorem retire_recorded_keeps (source : RetireSource) (s : State) (he : s.ae.engine ≠ .none)
    (h : holdsRetire { s.ae with source := source } = true) : Keeps s { s with ae := { s.ae with source := source } } := by
  refine .of_record ⟨rfl, rfl, .of_sli rfl, .inl he, .inr ⟨rfl, .inl rfl⟩⟩ ⟨rfl, rfl⟩ rfl rfl (.inl rfl) id .inl id ?_
  intro _ ha
  exact ⟨fun _ => h, ha.2⟩

theorem respondRetire_keeps (source : RetireSource) (s b : State) (hb : b = { s with ae := { s.ae with source := source } })
    (hacc : retireAccepted s = true) : Keeps s (respondRetire b) := by
  have heng : b.ae.engine = s.ae.engine := by rw [hb]
  unfold respondRetire
  cases h : s.ae.engine with
  | none => simp [retireAccepted, h] at hacc
  | waiting | bidding | backoff | cooldown =>
    simp only [heng, h]
    exact hb ▸ retire_discharging_keeps source s (by simp [h]) (by simp [h]) (.inr (by simp [h]))
  | powering =>
    simp only [heng, h]
    subst hb
    have hopened := openGates_of_ae .opened s { s.ae with source := source }
    refine enterDischarging_keeps (beginDischarging_opening_keeps .opened (.inl rfl)
      ⟨by simp, by simp, .of_sli (by simp), .inl (by simp [h]), .inr ⟨by simp, by simp [h]⟩, by simp, fun _ _ => rfl⟩
      ⟨hopened.1, hopened.2.1, hopened.2.2, ?_⟩)
    unfold openGates openedRecord
    have hg : gateOn { s with ae := { s.ae with source := source } } = gateOn s := rfl
    rw [hg]
    split <;> simp [h]
  | bringup =>
    simp only [heng, h]
    subst hb
    split
    · next hf => exact retire_recorded_keeps source s (by simp [h]) (by simpa [holdsRetire, h] using hf)
    · next hf =>
      exact enterTeardown_keeps ⟨rfl, rfl, .of_sli rfl, rfl, rfl, by simp [h, holdsBlade], rfl, rfl, fun hb => hb.none (by simp [bids, h]),
        fun _ => by simpa using hf⟩
  | admitted sub =>
    cases sub with
    | steady =>
      simp only [heng, h]
      subst hb
      exact enterRetiring_keeps ⟨rfl, rfl, .of_sli rfl, rfl, rfl, by simp [h, holdsBlade], rfl, rfl, fun hb => hb.none (by simp [bids, h]),
        by simp [AttemptLaw, h]⟩ (by simp [h])
    | upgradeBid =>
      simp only [heng, h]
      have ha := closeBid_asks b
      refine enterRetiring_keeps ⟨by simp [hb], by simp [hb], ha.from_sli (by rw [hb]), by simp [hb], by simp [hb], by simp [h, holdsBlade],
        ?_, ?_, ?_, ?_⟩ (by simp [h])
      · rw [closeBid_cause, hb]
      · rw [closeBid_retryCount, hb]
      · exact fun hl => closeBid_bid_window b (by rw [hb]; exact hl)
      · rw [closeBid_bringupFault, hb]; simp [AttemptLaw, h]
    | shedding =>
      simp only [heng, h]
      exact hb ▸ retire_recorded_keeps source s (by simp [h]) (by simp [holdsRetire, h])
  | retiring sub | released =>
    simp only [heng, h]
    exact hb ▸ retire_recorded_keeps source s (by simp [h]) (by simp [holdsRetire, h])
  | discharging =>
    simp only [heng, h]
    subst hb
    show Keeps s { s with ae := { s.ae with engine := .discharging, source := source, exit := .released } }
    refine .of_record ⟨rfl, rfl, .of_sli rfl, .inl (by simp [h]), .inr ⟨rfl, .inl (by simp [h])⟩⟩ ⟨rfl, rfl⟩ rfl rfl (.inl rfl)
      (fun hl => ⟨by simpa [bids, h] using hl.1, hl.2⟩) .inl (by simp [holdsBlade]) ?_
    intro _ ha
    exact ⟨fun _ => by simp [holdsRetire], by simpa [h] using ha.2⟩
  | stopped =>
    have hc : silentCause s.ae.cause = false := by simpa [retireAccepted, h] using And.right <| Bool.and_eq_true_iff.1 hacc
    have hcb : silentCause b.ae.cause = false := by rw [hb]; exact hc
    simp only [heng, h, hcb]
    exact hb ▸ retire_discharging_keeps source s (by simp [h]) (by simp [h]) (.inl hc)

theorem requestRetire_keeps (source : RetireSource) (s : State) : Keeps s (requestRetire source s) := by
  unfold requestRetire
  split
  · next h => exact respondRetire_keeps source s _ rfl h
  · exact .refl s

/-! ## The forward run -/

theorem testCondition_prog (r : StepRecord) (s : State) : (testCondition r s).1.bp.prog = s.bp.prog := by
  unfold testCondition; dsimp only; split <;> rfl

theorem performStep_prog (n : Nat) (r : StepRecord) (s : State) : (performStep n r s).1.bp.prog = s.bp.prog := testCondition_prog r _

theorem beginStep_prog (n : Nat) (r : StepRecord) (s : State) : (beginStep n r s).1.bp.prog = s.bp.prog := by
  unfold beginStep
  dsimp only
  (repeat' split) <;> first | rfl | exact performStep_prog _ _ _

theorem testCondition_timedOut (r : StepRecord) (s : State) : (testCondition r s).1.bp.timedOut = s.bp.timedOut := by
  unfold testCondition; dsimp only; split <;> rfl

theorem performStep_timedOut (n : Nat) (r : StepRecord) (s : State) : (performStep n r s).1.bp.timedOut = s.bp.timedOut :=
  testCondition_timedOut r _

theorem beginStep_timedOut (n : Nat) (r : StepRecord) (s : State) : (beginStep n r s).1.bp.timedOut = s.bp.timedOut := by
  unfold beginStep
  dsimp only
  (repeat' split) <;> first | rfl | exact performStep_timedOut _ _ _

theorem testCondition_keeps (r : StepRecord) (s : State) (h : s.bp.prog = .forward) : Keeps s (testCondition r s).1 :=
  .of_program (by simp) (by simp) (by simp) (by simp) (testCondition_timedOut r s) (by simp [h]) (.inl (testCondition_prog r s))

theorem performStep_keeps (n : Nat) (r : StepRecord) (s : State) (h : s.bp.prog = .forward) : Keeps s (performStep n r s).1 :=
  .of_program (by simp) (by simp) (by simp) (by simp) (performStep_timedOut n r s) (by simp [h]) (.inl (performStep_prog n r s))

theorem beginStep_keeps (n : Nat) (r : StepRecord) (s : State) (h : s.bp.prog = .forward) : Keeps s (beginStep n r s).1 :=
  .of_program (by simp) (by simp) (by simp) (by simp) (beginStep_timedOut n r s) (by simp [h]) (.inl (beginStep_prog n r s))

theorem completeRun_keeps (s : State) (h : s.bp.prog = .forward) : Keeps s (completeRun s) := by
  unfold completeRun
  dsimp only
  split
  · next he =>
    refine enterAdmitted_keeps (.of_closed ⟨rfl, rfl, .of_sli rfl, .inl (by simp [he]), .inr ⟨rfl, .inr (by simp [he])⟩⟩
      (fun hh => hh.closed_of_prog (by simp [h])) rfl rfl (.inl rfl) ?_ ?_)
    · simp [BidLaw, bids, he]
    · intro _ ha
      have hf := (ha.2.1 h).2
      have hsource : s.ae.source = .none := by simpa [holdsRetire, he, hf] using ha.1
      simp [AttemptLaw, hf, hsource]
  · next he =>
    refine .of_closed (.of_ae rfl rfl rfl) (fun hh => hh.closed_of_prog (by simp [h])) rfl rfl (.inl rfl) id ?_
    intro _ ha
    exact absurd (ha.2.1 h).1 he

theorem runSteps_keeps (rs : List StepRecord) (n : Nat) (s : State) (h : s.bp.prog = .forward) : Keeps s (runSteps rs n s) := by
  induction rs generalizing n s with
  | nil => exact completeRun_keeps s h
  | cons r rest ih =>
    unfold runSteps
    dsimp only
    have hstep := beginStep_keeps n r s h
    split
    · exact hstep.trans (ih _ _ ((beginStep_prog n r s).trans h))
    · exact hstep

theorem afterStep_keeps {s : State} (x : State × Bool) (hk : Keeps s x.1) (h : x.1.bp.prog = .forward) : Keeps s (afterStep x) := by
  unfold afterStep
  split
  · exact hk.trans (runSteps_keeps _ _ _ h)
  · exact hk

theorem takeEdge_keeps (s : State) : Keeps s (takeEdge s) := by
  unfold takeEdge
  split
  · next h _ =>
    split
    · exact afterStep_keeps _ (performStep_keeps _ _ s h) ((performStep_prog _ _ s).trans h)
    · exact .refl s
  · next h _ => exact .of_program rfl rfl rfl rfl rfl (by simp [h]) (.inl rfl)
  · next h _ => exact .of_program rfl rfl rfl rfl rfl (by simp [h]) (.inl rfl)
  · exact .refl s

/-- The own record on entry into BRINGUP (R86, R87). -/
def bringupRecord (ae : OwnRecord) : OwnRecord :=
  { ae with engine := .bringup, reservation := none, iSet := none, deadline := none, bringupFault := false }

/-- The station on entry into BRINGUP, before the program is commanded to run (R86, R87). -/
def enteringBringup (b : State) : State := announceFrom b { b with ae := bringupRecord b.ae }

theorem enterBringup_eq (b : State) : enterBringup b = runNormal (enteringBringup b) := rfl

/-- Entry into BRINGUP as the main switch closes in POWERING (R86, R87). -/
theorem enteringBringup_keeps {s b t : State} (he : s.ae.engine = .powering) (hpath : s.pp.path = .closing) (hsc : b.sc = s.sc)
    (hsli : b.sli = s.sli) (hae : b.ae = s.ae) (hclosed : b.pp.path = .closed) (hdis : b.pp.discharged = s.pp.discharged)
    (ht : t = { enteringBringup b with held := t.held, bp := t.bp })
    (hprog : s.bp.prog = .off → t.bp.prog = .off ∨ t.bp.prog = .forward) : KeepsLaws s t := by
  have hasks : Asks s (enteringBringup b) := (announceFrom_asks b _).from_sli hsli
  have haet : t.ae = bringupRecord s.ae := by rw [ht, ← hae]; simp [enteringBringup]
  have hsct : t.sc = s.sc := by rw [ht, ← hsc]; simp [enteringBringup]
  have hppt : t.pp = b.pp := by rw [ht]; simp [enteringBringup]
  have hasks' : Asks s t := by rw [ht]; exact ⟨hasks.law, hasks.flight, hasks.quiet⟩
  refine .of_closed ⟨by rw [hsct], by rw [hsct], hasks', .inl (by simp [he]), .inr ⟨by rw [haet]; rfl, .inr (by simp [he])⟩⟩
    (fun hh => ⟨hppt ▸ hclosed, ?_⟩) (.inl (by rw [haet]; rfl)) ?_ ?_
  · rw [hppt, hdis]
    exact hh.2 (by simp [gateOn, hpath])
  · rw [haet]
    exact fun hb => ⟨by simpa [bids, he, bringupRecord] using hb.1, hb.2⟩
  · intro hh hl
    have hoff := (hh.1 (by simp [hpath])).2.1
    have hsource : s.ae.source = .none := by simpa [holdsRetire, he] using hl.1
    rw [haet]
    rcases hprog hoff with hp | hp <;> simp [AttemptLaw, bringupRecord, hsource, hp]

theorem enterBringup_keeps {s b : State} (he : s.ae.engine = .powering) (hpath : s.pp.path = .closing) (hsc : b.sc = s.sc)
    (hsli : b.sli = s.sli) (hae : b.ae = s.ae) (hbp : b.bp = s.bp) (hclosed : b.pp.path = .closed)
    (hdis : b.pp.discharged = s.pp.discharged) : KeepsLaws s (enterBringup b) := by
  rw [enterBringup_eq]
  unfold runNormal
  split
  · exact (enteringBringup_keeps he hpath hsc hsli hae hclosed hdis rfl (fun _ => .inr rfl)).trans (runSteps_keeps _ _ _ rfl).toKeepsLaws
  · refine enteringBringup_keeps he hpath hsc hsli hae hclosed hdis rfl (fun hp => .inl ?_)
    simpa [enteringBringup, hbp] using hp

end Sys2Proof.Machine

/-! The power path's samples and faults, the feeds, the bids' resolutions and the line's events keep the laws (chapters 02, 03, 05, 06). -/

namespace Sys2Proof.Machine

/-! ## Feed faults and trips -/

theorem takeFeedFault_opening_keeps (cause : FaultCause) (exit : DischargeExit) (s : State) (hc : silentCause cause = false)
    (he : s.ae.engine ≠ .none) (hs : AttemptLaw s.ae s.bp.prog → s.ae.source ≠ .none → exit = .released) :
    Keeps s (takeFeedFault cause exit (openGates .opened s)) :=
  enterDischarging_keeps (beginDischarging_opening_keeps .opened (.inl rfl)
    ⟨by simp, by simp, .of_sli (by simp), .inl he, .inl hc, by simp, fun ha h => hs ha (by simpa using h)⟩ ⟨rfl, rfl, rfl, rfl⟩)

/-- A state that holds no retire has no source recorded. -/
theorem AttemptLaw.source_none {ae : OwnRecord} {prog : ProgramState} (h : AttemptLaw ae prog) (hr : holdsRetire ae = false) :
    ae.source = .none := by
  by_contra hs
  simp [h.1 hs] at hr

theorem feedFault_keeps (cause : FaultCause) (s : State) (hc : silentCause cause = false) : Keeps s (feedFault cause s) := by
  have hopen (hb : holdsBlade s.ae.engine = false) : Keeps s (openGates .opened s) := openGates_keeps .opened s (.inl rfl) (fun _ => hb)
  have hfault (exit : DischargeExit) (he : s.ae.engine ≠ .none)
      (hs : AttemptLaw s.ae s.bp.prog → s.ae.source ≠ .none → exit = .released) :=
    takeFeedFault_opening_keeps cause exit s hc he hs
  unfold feedFault answerFeedFault
  rw [openGates_engine, openGates_bringupFault, openGates_source]
  cases he : s.ae.engine with
  | none => exact (hopen (by simp [he, holdsBlade])).trans (raiseIf_keeps _ _ _)
  | bidding => exact enterWaiting_closeBid_keeps (by simp [he]) (hopen (by simp [he, holdsBlade]))
  | powering => exact hfault _ (by simp [he]) (fun ha h => absurd (ha.source_none (by simp [holdsRetire, he])) h)
  | bringup =>
    dsimp only
    split
    · exact retryRule_opening_keeps s _ .opened (.inl rfl) (by simp [he])
    · next hf => exact hfault _ (by simp [he]) (fun ha h => absurd (ha.source_none (by simpa [holdsRetire, he] using hf)) h)
  | admitted sub =>
    cases sub with
    | shedding => exact hfault _ (by simp [he]) (fun _ h => by simp [h])
    | steady | upgradeBid => exact hfault _ (by simp [he]) (fun ha h => absurd (ha.source_none (by simp [holdsRetire, he])) h)
  | retiring sub => exact hfault _ (by simp [he]) (fun _ _ => rfl)
  | waiting | backoff | discharging | cooldown | released | stopped => exact hopen (by simp [he, holdsBlade])

theorem trip_keeps (s : State) : Keeps s (trip s) := by
  unfold trip
  dsimp only
  rw [openGates_engine]
  split
  · next he => exact (openGates_keeps .tripped s (.inr rfl) (fun _ => by simp [he, holdsBlade])).trans (.of_unread rfl)
  · next he => exact retryRule_opening_keeps s _ .tripped (.inr rfl) he

/-! ## Path samples -/

theorem overclaimSample_keeps (s : State) : Keeps s (overclaimSample s) := by
  unfold overclaimSample
  (repeat' split) <;> exact .of_unread rfl

theorem closedSample_keeps (s : State) : Keeps s (closedSample s) := by
  unfold closedSample
  split
  · exact trip_keeps s
  · exact Keeps.trans (t := { s with pp := { s.pp with slowCount := slowCountAfter s.pp } }) (.of_unread rfl) (overclaimSample_keeps _)

theorem prechargeSample_keeps (s : State) (h : s.pp.path = .precharge) : Keeps s (prechargeSample s) := by
  have hadvance : Keeps s { s with pp := prechargeAdvance s.fs.vF s.pp } := .of_unread rfl
  unfold prechargeSample
  dsimp only
  split
  · refine hadvance.trans (.of_path rfl ?_ ?_ ?_)
    · simp [prechargeAdvance, h]
    · exact fun hh _ => hh.2 (by simp [gateOn, prechargeAdvance, h])
    · simp [gateOn]
  · split
    · exact hadvance.trans (failAttempt_keeps _ _ (fun hh => (hh.1 (by simp [prechargeAdvance, h])).2.2.2))
    · exact hadvance

theorem updateDischarged_keeps (s : State) : Keeps s (updateDischarged s) := by
  unfold updateDischarged
  split
  · exact .of_path rfl id (fun _ _ => rfl) id
  · next hg =>
    split
    · split
      · exact .refl s
      · refine Keeps.trans (.of_path rfl (fun _ hc => hg (by simp [gateOn, hc])) ?_ (fun _ => by simpa using hg)) (completeDischarge_keeps _)
        simp [gateOn]
    · exact .of_path rfl id (fun _ _ => rfl) id

theorem pathSampleEvent_keeps (vBulk iLoad : Nat) (s : State) : Keeps s (pathSampleEvent vBulk iLoad s) := by
  have hread : Keeps s { s with pp := { s.pp with vBulk := reading vBulk, iLoad := reading iLoad } } := .of_unread rfl
  unfold pathSampleEvent
  refine Keeps.trans ?_ (updateDischarged_keeps _)
  dsimp only
  split
  · exact hread
  · next h => exact hread.trans (prechargeSample_keeps _ h)
  · exact hread
  · exact hread.trans (closedSample_keeps _)
  · exact hread

/-! ## Feed samples -/

theorem takeFeedChange_keeps (s : State) : Keeps s (takeFeedChange s) := by
  unfold takeFeedChange
  split
  · next p _ _ _ =>
    dsimp only
    refine Keeps.trans ?_ (evaluateWaiting_keeps _)
    split
    · exact .refl s
    · refine Keeps.trans (t := { s with ae := { s.ae with
        vC := some (claimVoltage p (vMin8 s)), reservation := reservationAt p (claimVoltage p (vMin8 s)) s.ae } }) (.of_unread rfl) ?_
      exact evaluateAdmitted_keeps _
  · exact .refl s

theorem feedSampleEvent_keeps (a b : Nat) (s : State) : Keeps s (feedSampleEvent a b s) := by
  have hsampled : Keeps s { s with fs := sampledFeeds s.fs a b } := .of_unread rfl
  have hflag := hsampled.trans (raiseIf_keeps (feedEventDue s.fs (sampledFeeds s.fs a b)) .feed _)
  unfold feedSampleEvent
  dsimp only
  split
  · refine Keeps.trans ?_ (takeFeedChange_keeps _)
    split
    · exact hflag.trans (feedFault_keeps _ _ rfl)
    · exact hflag
  · split
    · exact hflag.trans (feedFault_keeps _ _ rfl)
    · exact hflag

/-! ## The bids' resolutions -/

theorem commandPrecharge_keeps (iSet deadline : Nat) (s : State) : Keeps s (commandPrecharge iSet deadline s) := by
  unfold commandPrecharge
  split
  · next h => exact .of_path rfl (by simp [h]) (fun _ _ => rfl) (by simp [gateOn])
  · exact .refl s

theorem winBid_keeps (p : ProfileData) (level : PowerLevel) (iSet resv : Nat) (s : State) (h : s.ae.engine = .bidding) :
    Keeps s (winBid p level iSet resv s) := by
  refine Keeps.trans ?_ (commandPrecharge_keeps _ _ _)
  refine Keeps.trans ?_ (announceFrom_keeps _ _)
  refine .of_record ⟨rfl, rfl, .of_sli rfl, .inl (by simp [h]), .inr ⟨rfl, .inr (by simp [h])⟩⟩ ⟨rfl, rfl⟩ rfl rfl (.inl rfl) ?_ .inl ?_ ?_
  · simp [BidLaw, bids, poweringRecord]
  · simp [holdsBlade, poweringRecord]
  · exact fun _ ha => by simpa [AttemptLaw, holdsRetire, h, poweringRecord] using ha

theorem resolveBid_keeps (s : State) (h : s.ae.engine = .bidding) : Keeps s (resolveBid s) := by
  unfold resolveBid
  split
  · split
    · exact winBid_keeps _ _ _ _ s h
    · exact enterBackoff_closeBid_keeps s h
  · exact .refl s

theorem flightMarks_beganBeforeUpgrade (l : LineInterface) : flightMarks (beganBeforeUpgrade l) = flightMarks l := by
  cases h : l.inFlight <;> simp [flightMarks, beganBeforeUpgrade, h]

theorem upgraded_keeps (s : State) (h : s.ae.engine = .admitted .upgradeBid) : Keeps s (upgraded s) := by
  refine .of_record ⟨rfl, rfl, .of_same rfl (flightMarks_beganBeforeUpgrade _), .inl (by simp [h]), .inr ⟨rfl, .inr (by simp [h])⟩⟩
    ⟨rfl, rfl⟩ rfl rfl (.inl rfl) ?_ (fun _ => .inr (by simp [h, holdsBlade])) ?_ ?_
  · simp [BidLaw, bids, upgraded]
  · simp [holdsBlade, h]
  · exact fun _ ha => by simpa [AttemptLaw, holdsRetire, h, upgraded] using ha

theorem resolveUpgrade_keeps (s : State) (h : s.ae.engine = .admitted .upgradeBid) : Keeps s (resolveUpgrade s) := by
  unfold resolveUpgrade
  split
  · split
    · exact (upgraded_keeps s h).trans (evaluateAdmitted_keeps _)
    · exact failUpgrade_keeps s h
  · exact .refl s

/-! ## The line -/

theorem takeLineChange_keeps (worse : Bool) (s : State) : Keeps s (takeLineChange worse s) := by
  unfold takeLineChange
  split
  · exact evaluateWaiting_keeps s
  · next h =>
    split
    · exact enterBackoff_closeBid_keeps s h
    · exact .refl s
  · next h =>
    split
    · exact failUpgrade_keeps s h
    · exact .refl s
  · exact .refl s

theorem noticeSent_keeps (f : InFlight) (s : State) : Keeps s (noticeSent f s) := by
  unfold noticeSent
  split
  · split
    · next h =>
      have hbids : bids s.ae.engine = true := by rcases h.2.1 with h | h <;> simp [h, bids]
      refine .of_record ⟨rfl, rfl, .of_sli rfl, .inl ?_, .inr ⟨rfl, .inl rfl⟩⟩ ⟨rfl, rfl⟩ rfl rfl (.inl rfl) ?_ .inl id (fun _ => id)
      · intro hn; simp [hn, bids] at hbids
      · exact fun hb => ⟨hb.1, fun _ => hb.1.trans hbids⟩
    · exact .refl s
  · split
    · next h =>
      refine Keeps.trans ?_ (raise_keeps _ _)
      refine .of_closed ⟨rfl, rfl, .of_sli rfl, ?_, .inr ⟨rfl, .inl rfl⟩⟩ ?_ rfl rfl (.inl rfl) id (fun _ => id)
      · by_cases he : s.ae.engine = .none
        · exact .inr (.inr he)
        · exact .inl he
      · intro hh
        by_contra hc
        simp [(hh.1 hc).2.2.1] at h
    · exact .refl s
  · exact .refl s
  · exact .of_unread rfl

/-- A notice in flight that ends unsent returns to the queue, or not, within the queue's law (R35, R36). -/
theorem returnNotice_law (f : InFlight) (l : LineInterface) (hf : l.inFlight = some f) (h : LineLaw l) :
    LineLaw (returnNotice f l) := by
  obtain ⟨hnodup, halone, hflight⟩ := h
  have hmarks : flightMarks l = some (f.kind, f.dropped) := by simp [flightMarks, hf]
  have hnone : flightMarks (returnNotice f l) ≠ some (.leave, false) := nofun
  unfold LineLaw
  rw [show queuedKinds (returnNotice f l) = (queueAfterReturn f l.queue).map (·.kind) from rfl]
  unfold queueAfterReturn
  split
  · exact ⟨hnodup, halone, fun h => absurd h hnone⟩
  · next hd =>
    simp only [Bool.or_eq_true, isQueued_iff, not_or, Bool.not_eq_true] at hd
    obtain ⟨hdrop, hleave⟩ := hd
    split
    · rw [map_kind_dequeue]
      exact ⟨hnodup.filter _, fun h => absurd (List.mem_of_mem_filter h) hleave, fun h => absurd h hnone⟩
    · rw [List.map_cons, map_kind_dequeue]
      refine ⟨List.nodup_cons.2 ⟨by simp, hnodup.filter _⟩, fun h => ?_, fun h => absurd h hnone⟩
      have hkind : f.kind = .leave := by
        rcases List.mem_cons.1 h with h | h
        · exact h.symm
        · exact absurd (List.mem_of_mem_filter h) hleave
      have hempty : queuedKinds l = [] := hflight (by rw [hmarks, hkind, hdrop])
      simp [show l.queue.map (·.kind) = [] from hempty]

theorem mem_queueAfterReturn {f : InFlight} {q : List Queued} {k : NoticeKind} (h : k ∈ (queueAfterReturn f q).map (·.kind)) :
    k ∈ q.map (·.kind) ∨ k = f.kind ∧ f.dropped = false := by
  unfold queueAfterReturn at h
  split at h
  · exact .inl h
  · next hd =>
    split at h
    · rw [map_kind_dequeue] at h; exact .inl (List.mem_of_mem_filter h)
    · rw [List.map_cons, map_kind_dequeue] at h
      rcases List.mem_cons.1 h with h | h
      · exact .inr ⟨h, by simp_all⟩
      · exact .inl (List.mem_of_mem_filter h)

theorem silent_of_lawView {s t : State} (h : lawView { t with sli := s.sli } = lawView s) : silent t = silent s := by
  unfold silent
  rw [show t.sc.start = s.sc.start from congrArg LawView.start h, show t.ae.engine = s.ae.engine from congrArg LawView.engine h,
    show t.ae.cause = s.ae.cause from congrArg LawView.cause h]

/-- A returned notice, with any change of the line's own counts, keeps the laws. -/
theorem returnNotice_keeps (f : InFlight) (s t : State) (hf : s.sli.inFlight = some f) (ht : lawView { t with sli := s.sli } = lawView s)
    (hq : t.sli.queue = queueAfterReturn f s.sli.queue) (hn : t.sli.inFlight = none) : Keeps s t := by
  have hkinds : queuedKinds t.sli = queuedKinds (returnNotice f s.sli) := by simp [queuedKinds, hq, returnNotice]
  have hmarks : flightMarks t.sli = flightMarks (returnNotice f s.sli) := by simp [flightMarks, hn, returnNotice]
  refine .of_line ht (fun _ hl hs => ⟨?_, fun hsil => ⟨fun k hk => ?_, by simp [flightMarks, hn]⟩⟩)
  · unfold LineLaw
    rw [hkinds, hmarks]
    exact returnNotice_law f s.sli hf hl
  · have hview := silent_of_lawView ht
    obtain ⟨hqueued, hflight⟩ := hs (hview ▸ hsil)
    rw [hkinds] at hk
    rcases mem_queueAfterReturn hk with h | ⟨h, hd⟩
    · exact hqueued k h
    · rcases hflight (f.kind, f.dropped) (by simp [flightMarks, hf]) with hk | hk
      · exact h.trans hk
      · simp [hd] at hk

/-- The head notice begins its transmission (R26). -/
theorem beginTransmission_keeps (h : Queued) (rest : List Queued) (s t : State) (hq : s.sli.queue = h :: rest)
    (ht : lawView { t with sli := s.sli } = lawView s) (hrest : t.sli.queue = rest)
    (hn : flightMarks t.sli = some (h.kind, false)) : Keeps s t := by
  have hkinds : queuedKinds s.sli = h.kind :: queuedKinds t.sli := by simp [queuedKinds, hq, hrest]
  have hview := silent_of_lawView ht
  refine .of_line ht (fun _ hl hs => ?_)
  unfold LineLaw at *
  unfold SilentLaw at *
  rw [hkinds] at hl hs
  rw [hn, hview]
  obtain ⟨hnodup, halone, -⟩ := hl
  have hempty : .leave ∈ h.kind :: queuedKinds t.sli → queuedKinds t.sli = [] := fun hm => by simpa using halone hm
  refine ⟨⟨(List.nodup_cons.1 hnodup).2, fun hm => ?_, fun hk => hempty (by simp_all)⟩, fun hsil => ⟨fun k hk => ?_, fun m hm => ?_⟩⟩
  · simp [hempty (List.mem_cons_of_mem _ hm)] at hm
  · exact (hs hsil).1 k (List.mem_cons_of_mem _ hk)
  · obtain rfl : (h.kind, false) = m := by simpa using hm
    exact .inl ((hs hsil).1 h.kind List.mem_cons_self)

end Sys2Proof.Machine

/-! Slot clashes, the view's arrivals, the retire commands, Start Control and the resets keep the laws (chapters 01, 02, 08, 09). -/

namespace Sys2Proof.Machine

/-! ## Slot clashes -/

theorem LineLaw.of_empty {l : LineInterface} (h : queuedKinds l = []) : LineLaw l := by simp [LineLaw, h]

theorem flightMarks_purgeQueue (l : LineInterface) : flightMarks (purgeQueue l) = (flightMarks l).map (fun m => (m.1, true)) := by
  simp [flightMarks, purgeQueue, dropInFlight, Option.map_map, Function.comp_def]

/-- What purges the queue leaves nothing to return (R37, R39). -/
theorem SilentLaw.of_purged {s : State} {l : LineInterface} (hq : queuedKinds s.sli = []) (hf : flightMarks s.sli = flightMarks (purgeQueue l)) :
    SilentLaw s := by
  refine fun _ => ⟨by simp [hq], fun m hm => .inr ?_⟩
  rw [hf, flightMarks_purgeQueue] at hm
  obtain ⟨m', -, rfl⟩ := Option.map_eq_some_iff.1 hm
  rfl

/-- The stop with SLOT_CLASH: a silent state, its queue purged (R30). -/
theorem stopSlotClash_keeps (s : State) : Keeps s (stopSlotClash s) := by
  have hqueue : queuedKinds (stopSlotClash s).sli = [] := rfl
  refine ⟨⟨fun _ => ⟨nofun, fun _ => rfl⟩, fun _ hr => ⟨nofun, ?_⟩, fun _ _ => ⟨rfl, nofun⟩,
    heldOk_of_opening .opened (.inl rfl) rfl rfl rfl rfl rfl, fun _ hh _ => ?_, fun _ _ _ => ⟨.of_empty hqueue, .of_purged hqueue rfl⟩⟩,
    fun _ x he => endsWith_of_opening .opened rfl rfl rfl x he⟩
  · have hcount : (stopSlotClash s).ae.retryCount = s.ae.retryCount := openGates_retryCount .opened s
    have hprofile : (stopSlotClash s).sc.profile = s.sc.profile := by simp [stopSlotClash]
    rw [hcount]
    unfold retryLimit
    rw [hprofile]
    exact hr.2
  · have hoff : (stopSlotClash s).bp.prog = .off := hh.openGates_prog .opened
    exact ⟨fun h => absurd rfl h, by simp [hoff], nofun, nofun⟩

theorem slotClash_keeps (s : State) : Keeps s (slotClash s) := by
  have hline : Keeps s (raise .line { s with sli := { s.sli with clashCount := 0 } }) := .of_unread rfl
  unfold slotClash
  dsimp only
  split
  · exact hline.trans (stopSlotClash_keeps _)
  · exact hline

/-! ## Arrivals at the view -/

theorem viewChanged_keeps (before s : State) : Keeps s (viewChanged before s) := by
  have hevents : Keeps s (viewEvents before s) := (raiseIf_keeps _ _ _).trans (raiseIf_keeps _ _ _)
  exact ((((hevents.trans (evaluateWaiting_keeps _)).trans (evaluateAdmitted_keeps _)).trans (maintainTakeover_keeps _ _)).trans
    (evaluateTakeover_keeps _)).trans (evaluateHandover_keeps _)

theorem withTable_keeps (t : List Entry) (s : State) : Keeps s (withTable t s) := .of_unread rfl

theorem entryArrives_keeps (e : Entry) (s : State) : Keeps s (entryArrives e s) := by
  unfold entryArrives
  dsimp only
  split
  · exact withTable_keeps _ s
  · exact (withTable_keeps _ s).trans (viewChanged_keeps _ _)

theorem entryLeaves_keeps (sl : Slot) (s : State) : Keeps s (entryLeaves sl s) := by
  unfold entryLeaves
  split
  · exact (withTable_keeps _ s).trans (viewChanged_keeps _ _)
  · exact .refl s

theorem deliver_keeps (k : NoticeKind) (n : Notice) (s : State) : Keeps s (deliver k n s) := by
  unfold deliver
  split
  · split
    · exact slotClash_keeps s
    · split
      · exact entryLeaves_keeps _ s
      · exact entryArrives_keeps _ s
  · exact .refl s

/-- The end of a frame leaves the queue and the notice in flight alone (R23). -/
theorem frameEnds_keeps (s : State) : Keeps s { s with sli := frameEnds s.sli } := by
  refine .of_unread ?_
  simp only [frameEnds]
  split <;> rfl

theorem receiveValid_keeps (k : NoticeKind) (n : Notice) (s : State) : Keeps s (receiveValid k n s) := by
  unfold receiveValid
  dsimp only
  split
  · exact (frameEnds_keeps s).trans (deliver_keeps _ _ _)
  · exact frameEnds_keeps s

theorem receiveBits_keeps (bits : BitVec 64) (endRecessive : Bool) (s : State) : Keeps s (receiveBits bits endRecessive s) := by
  have herror (u : State) : Keeps u { u with sli := countError u.sli } := .of_unread rfl
  unfold receiveBits
  dsimp only
  split
  · split
    · split
      · exact (frameEnds_keeps s).trans (deliver_keeps _ _ _)
      · exact (frameEnds_keeps s).trans (herror _)
    · exact (frameEnds_keeps s).trans (herror _)
  · exact frameEnds_keeps s

/-! ## Closings, and the commands CLEAR_FAULT and FORCE_OFF -/

theorem takeClosing_keeps (s : State) : Keeps s (takeClosing s) := by
  unfold takeClosing
  split
  · exact honourCancel_keeps s
  · split
    · next h =>
      refine .of_record ⟨rfl, rfl, .of_sli rfl, .inl (by simp [h.1]), .inl rfl⟩ ⟨rfl, rfl⟩ rfl rfl (.inl rfl) id .inl id ?_
      exact fun _ ha => ⟨fun hs => absurd rfl hs, ha.2⟩
    · split
      · next h =>
        refine enterWaiting_keeps (.of_record ⟨rfl, rfl, .of_sli rfl, .inl (by simp [h]), ?_⟩ ⟨rfl, rfl⟩ rfl rfl (.inl rfl) ?_ .inl ?_ ?_)
        · show silentCause (if silentCause s.ae.cause = true then s.ae.cause else .none) = false
            ∨ (if silentCause s.ae.cause = true then s.ae.cause else .none) = s.ae.cause ∧ _
          split
          · exact .inr ⟨rfl, .inr (by simp [h])⟩
          · exact .inl rfl
        · simp [BidLaw, bids, h, waitingRecord]
        · simp [holdsBlade, waitingRecord]
        · intro _ ha
          simpa [AttemptLaw, h, waitingRecord] using ha.2
      · exact .refl s

theorem clearAccepted_engine {s : State} (h : clearAccepted s = true) : s.ae.engine = .stopped := by simp_all [clearAccepted]

theorem clearFault_keeps (before s : State) (h : s.ae.engine = .stopped) : Keeps s (clearFault before s) := by
  have hrecord (ae : OwnRecord) (hae : ae.engine = .waiting ∨ ae.engine = .discharging)
      (hcause : ae.cause = .none) (hcount : ae.retryCount = 0) (hbid : BidLaw s.ae → ae.bid = none ∧ ae.window = none)
      (hpf : ae.profFullPending = s.ae.profFullPending) (hsource : ae.source = s.ae.source)
      (hfault : ae.bringupFault = true → s.ae.bringupFault = true) : Keeps s { s with ae := ae } := by
    refine .of_record ⟨rfl, rfl, .of_sli rfl, .inl (by simp [h]), .inl (by simp [hcause, silentCause])⟩ ⟨rfl, rfl⟩ rfl rfl
      (.inr ⟨.inl (by simp [h]), fun _ => by simp [hcount]⟩) (fun hb => ?_) (by rw [show _ = _ from hpf]; exact .inl) ?_ ?_
    · rcases hae with he | he <;> simp [BidLaw, bids, he, hbid hb]
    · rcases hae with he | he <;> simp [holdsBlade, he]
    · intro _ ha
      have hnone : s.ae.source = .none := ha.source_none (by simp [holdsRetire, h])
      have hclear : ae.bringupFault = false := by
        by_contra hb
        simpa [h] using ha.2.2.1 (hfault (by simpa using hb))
      exact ⟨fun hs => absurd (hsource.trans hnone) hs, fun hp => by simpa [h] using (ha.2.1 hp).1, by simp [hclear],
        fun hn => by rcases hae with he | he <;> simp [he] at hn⟩
  unfold clearFault
  split
  · refine Keeps.trans ?_ (completeDischarge_keeps _)
    refine Keeps.trans ?_ (announceFrom_keeps _ _)
    exact hrecord _ (.inr rfl) rfl rfl (fun _ => ⟨rfl, rfl⟩) rfl rfl (by simp [dischargingRecord])
  · refine Keeps.trans ?_ (evaluateWaiting_keeps _)
    refine Keeps.trans ?_ (announceFrom_keeps _ _)
    exact hrecord _ (.inl rfl) rfl rfl (fun hb => hb.none (by simp [h, bids])) rfl rfl id

theorem forceOffStarting_keeps (s : State) (h : s.ae.engine = .none) : Keeps s (forceOffStarting s) := by
  have hopen : Keeps s (raise .fault (openGates .opened s)) :=
    (openGates_keeps .opened s (.inl rfl) (fun _ => by simp [h, holdsBlade])).trans (raise_keeps _ _)
  exact hopen.trans (.of_unread rfl)

theorem forceOffRunning_keeps (s : State) (h : s.ae.engine ≠ .none) : Keeps s (forceOffRunning s) := by
  have hasks : Asks s (closeBid (openGates .opened s)) := (closeBid_asks _).from_sli (by simp)
  refine enterDischarging_keeps (beginDischarging_opening_keeps .opened (.inl rfl)
    ⟨by simp, by simp, ⟨hasks.law, hasks.flight, fun hs => ?_⟩, .inl h, .inl rfl, fun hle => ?_, fun _ hs => absurd rfl hs⟩
    ⟨by simp, by simp, by simp, ?_⟩)
  · refine hasks.quiet ?_
    simp only [silent_eq_true_iff] at *
    rcases hs with hs | ⟨-, hs⟩
    · exact .inl (by simpa using hs)
    · simp [silentCause] at hs
  · simpa [closeBid_retryCount] using hle
  · simp [closeBid_profFullPending]

/-! ## Loading -/

theorem stopLoading_keeps (cause : FaultCause) (s : State) (h : s.sc.start ≠ .done) : Keeps s (stopLoading cause s) := by
  refine Keeps.trans (t := { stopLoading cause s with pp := (openGates .opened s).pp }) ?_ (.of_unread rfl)
  refine ⟨⟨fun _ => ⟨nofun, fun _ => rfl⟩, fun _ hr => ⟨nofun, ?_⟩, fun hs hb => ?_,
    heldOk_of_opening .opened (.inl rfl) rfl rfl rfl rfl rfl, fun hs hh ha => ?_, fun _ hl hq => ?_⟩,
    fun _ x he => endsWith_of_opening .opened rfl rfl rfl x he⟩
  · have hcount : (stopLoading cause s).ae.retryCount = s.ae.retryCount := openGates_retryCount .opened s
    exact (hcount.trans (hr.1 h)).le.trans (Nat.zero_le _)
  · have hnone := hb.none (by simp [hs.1 h, bids])
    exact ⟨by simp [stopLoading, bids, hnone], by simp [stopLoading, hnone]⟩
  · have hoff : (stopLoading cause s).bp.prog = .off := hh.openGates_prog .opened
    have hsource : s.ae.source = .none := ha.source_none (by simp [holdsRetire, hs.1 h])
    have hfault : s.ae.bringupFault = false := by
      by_contra hb
      simpa [hs.1 h] using ha.2.2.1 (by simpa using hb)
    exact ⟨by simp [stopLoading, hsource], by simp [hoff], by simp [stopLoading, hfault], nofun⟩
  · have hsli : (stopLoading cause s).sli = s.sli := openGates_sli .opened s
    have hsilent := hq ((silent_eq_true_iff _).2 (.inl h))
    exact ⟨hsli ▸ hl, fun _ => hsli ▸ hsilent⟩

theorem stopProfileBad_keeps (sub : LoadSubcause) (s : State) (h : s.sc.start ≠ .done) : Keeps s (stopProfileBad sub s) :=
  Keeps.trans (t := { s with sc := { s.sc with attempts := 3, loadSub := sub } }) (.of_unread rfl) (stopLoading_keeps _ _ h)

theorem beginAttempt_keeps (low : Bool) (s : State) (h : s.sc.start ≠ .done) : Keeps s (beginAttempt low s) := by
  unfold beginAttempt
  split
  · exact stopProfileBad_keeps _ s h
  · exact .of_unread rfl

theorem failLoad_keeps (sub : LoadSubcause) (low : Bool) (s : State) (h : s.sc.start ≠ .done) : Keeps s (failLoad sub low s) := by
  unfold failLoad
  split
  · exact stopProfileBad_keeps _ s h
  · exact Keeps.trans (t := { s with sc := { s.sc with loadSub := sub } }) (.of_unread rfl) (beginAttempt_keeps _ _ h)

theorem enterLoading_keeps (st : Straps) (s : State) (h : s.sc.start ≠ .done) : Keeps s (enterLoading st s) := by
  have hloading : Keeps s { s with sc := { s.sc with start := .loading, slot := none, profile := none, attempts := 0, settle := none,
                                                     attempt := none, relearn := none } } := .of_starting h rfl
  unfold enterLoading
  dsimp only
  split
  · refine hloading.trans (Keeps.trans ?_ (beginAttempt_keeps _ _ nofun))
    exact .of_unread rfl
  · exact hloading.trans (stopLoading_keeps _ _ nofun)

theorem completeLoading_keeps (p : ProfileData) (clamped : Bool) (s : State) (h : s.sc.start ≠ .done) :
    Keeps s (completeLoading p clamped s) := by
  unfold completeLoading
  refine Keeps.trans ?_ (raiseIf_keeps _ _ _)
  exact .of_starting h rfl

end Sys2Proof.Machine

/-! The end of RELEARN, the losses of seating and the resets keep the laws (chapter 09). -/

namespace Sys2Proof.Machine

/-! ## The end of RELEARN -/

/-- The station at the relearn timer's expiry, CARRYING copied and the start over (R76, R167). -/
def relearned (s : State) : State :=
  { s with sc := { s.sc with start := .done, relearn := none }, ae := { s.ae with carrying := s.inp.carryingLevel } }

theorem relearned_keeps (s : State) (h : s.sc.start ≠ .done) : Keeps s (relearned s) := .of_starting h rfl

/-- Held outputs lowered: what stands deasserted stays so. -/
theorem Keeps.of_lowered {s t : State} (ht : t = { s with held := t.held })
    (hheld : s.held = HeldOutputs.deasserted → t.held = HeldOutputs.deasserted) : Keeps s t := by
  rw [ht]
  refine ⟨⟨id, fun _ => id, fun _ => id, fun h => ⟨fun hc => ?_, h.2⟩, fun _ _ => id, fun _ hl hq => ⟨hl, hq⟩⟩, fun _ x he => ⟨he.1, fun hg => ?_⟩⟩
  · obtain ⟨hd, hrest⟩ := h.1 hc
    exact ⟨hheld hd, hrest⟩
  · obtain ⟨hbp, hd⟩ := he.2 hg
    exact ⟨hbp, hheld hd⟩

theorem firstLatchRule_keeps (s : State) : Keeps s (firstLatchRule s) := by
  unfold firstLatchRule
  split
  · exact requestRetire_keeps .latch s
  · exact .of_lowered rfl (fun h => by rw [h]; rfl)

theorem takeStandingTrip_keeps (s : State) (hd : s.sc.start = .done) (he : s.ae.engine = .none) : Keeps s (takeStandingTrip s) :=
  beginRetry_keeps .trip rfl rfl (.inr hd) rfl ⟨rfl, rfl, rfl, rfl, rfl⟩ (by simp [he])

/-- An entry into DISCHARGING records no source. -/
theorem discharged_source (exit : DischargeExit) (s : State) :
    (discharged exit s).source = s.ae.source ∨ (discharged exit s).source = .none := by
  unfold discharged latchReturn
  split
  · exact .inr rfl
  · exact .inl rfl

theorem takeStandingTrip_source (s : State) : (takeStandingTrip s).ae.source = s.ae.source ∨ (takeStandingTrip s).ae.source = .none := by
  unfold takeStandingTrip beginRetry
  rw [beginDischarging_ae]
  refine (discharged_source _ _).imp_left (fun h => h.trans ?_)
  simp [retryRecord_fields]

theorem takeForcedOff_keeps (s : State) (hd : s.sc.start = .done) (he : s.ae.engine = .none) : Keeps s (takeForcedOff s) := by
  unfold takeForcedOff
  dsimp only
  rw [if_neg (by simp [he])]
  refine beginDischarging_keeps ⟨rfl, rfl, .of_sli rfl, .inr hd, .inl rfl, id, fun ha h => ?_⟩ ⟨rfl, rfl, rfl, rfl, rfl⟩ (by simp [he])
  exact absurd (ha.source_none (by simp [holdsRetire, he])) h

/-- A forced-off mark beside a standing trip turns the trip's exit into STOPPED (R167, R170). -/
theorem takeForcedOff_trip_keeps (s : State) (hd : s.sc.start = .done) (he : s.ae.engine = .none) :
    Keeps s (takeForcedOff (takeStandingTrip s)) := by
  have htrip := takeStandingTrip_keeps s hd he
  have heng : (takeStandingTrip s).ae.engine = .discharging := by simp [takeStandingTrip, beginRetry]
  have hforced : Keeps (takeStandingTrip s)
      { takeStandingTrip s with
        sc := { (takeStandingTrip s).sc with forcedOff := false }
        ae := { (takeStandingTrip s).ae with cause := .forcedOff, subcause := none } } :=
    .of_record ⟨rfl, rfl, .of_sli rfl, .inl (by simp [heng]), .inl rfl⟩ ⟨rfl, rfl⟩ rfl rfl (.inl rfl) id .inl id (fun _ => id)
  have hk := htrip.trans hforced
  unfold takeForcedOff
  dsimp only
  rw [if_pos heng]
  refine ⟨⟨hk.start, hk.retry, hk.bid, hk.held, fun hs hh ha => ?_, hk.queue⟩, hk.ends⟩
  have ha' := hk.attempt hs hh ha
  have hnone : (takeStandingTrip s).ae.source = .none := by
    rcases takeStandingTrip_source s with h | h
    · exact h.trans (ha.source_none (by simp [holdsRetire, he]))
    · exact h
  exact ⟨fun h => absurd hnone h, ha'.2⟩

/-- The reconcile's entry into a state that holds the blade, the main switch closed (R167). -/
theorem reconciled_keeps (s t : State) (hd : s.sc.start = .done) (he : s.ae.engine = .none) (hc : s.pp.path = .closed) (engine : Engine)
    (hengine : bids engine = false ∧ engine ≠ .none) (ht : t = { s with ae := { s.ae with engine := engine }, bp := t.bp })
    (htimed : t.bp.timedOut = s.bp.timedOut) (hprog : s.bp.prog = .off → t.bp.prog = .forward → engine = .bringup) : Keeps s t := by
  have hae : t.ae = { s.ae with engine := engine } := by rw [ht]
  refine .of_closed ⟨by rw [ht], by rw [ht], .of_sli (by rw [ht]), .inr (.inl hd), .inr ⟨by rw [ht], .inr (by simp [he])⟩⟩ (fun _ => hc)
    (by rw [ht]) htimed (.inl (by rw [hae])) ?_ ?_
  · intro hb
    have hnone := hb.none (by simp [he, bids])
    simp [BidLaw, hae, hengine.1, hnone]
  · intro _ ha
    have hsource : s.ae.source = .none := ha.source_none (by simp [holdsRetire, he])
    have hfault : s.ae.bringupFault = false := by
      by_contra hb
      simpa [he] using ha.2.2.1 (by simpa using hb)
    rw [hae]
    exact ⟨fun h => absurd hsource h, fun hf => ⟨hprog (ha.2.2.2 he) hf, hfault⟩, by simp [hfault], fun h => absurd h hengine.2⟩

theorem reconcile_keeps (s : State) (hd : s.sc.start = .done) (he : s.ae.engine = .none) : Keeps s (reconcile s) := by
  unfold reconcile
  split
  · next hm =>
    have hc : s.pp.path = .closed := by simpa [mainClosed] using hm
    split
    · refine enterAdmitted_keeps (reconciled_keeps s _ hd he hc (.admitted .steady) ⟨rfl, nofun⟩ ?_ ?_ ?_)
      · unfold commandUp; split <;> rfl
      · unfold commandUp; split <;> rfl
      · intro hoff
        simp [commandUp, hoff]
    · unfold runReconcile
      split
      · refine Keeps.trans ?_ (runSteps_keeps _ _ _ rfl)
        refine (reconciled_keeps s { s with ae := { s.ae with engine := .bringup }, bp := startedProgram true s.bp } hd he hc .bringup
          ⟨rfl, nofun⟩ rfl rfl (fun _ _ => rfl)).trans ?_
        have hasks := announceFrom_asks s { s with ae := { s.ae with engine := .bringup } }
        exact .of_asks ⟨hasks.law, hasks.flight, hasks.quiet⟩ (by simpa [lawView, startedProgram] using hasks.flight)
      · refine Keeps.trans ?_ (announceFrom_keeps _ _)
        exact reconciled_keeps s _ hd he hc .bringup ⟨rfl, by decide⟩ rfl rfl (fun _ _ => rfl)
  · refine enterWaiting_keeps (.of_record ⟨rfl, rfl, .of_sli rfl, .inr (.inl hd), .inr ⟨rfl, .inr (by simp [he])⟩⟩ ⟨rfl, rfl⟩ rfl rfl
      (.inl rfl) ?_ .inl ?_ ?_)
    · exact fun hb => by simpa [BidLaw, bids, he, waitingRecord] using hb
    · simp [holdsBlade, waitingRecord]
    · intro _ ha
      have hsource := ha.source_none (by simp [holdsRetire, he])
      have hoff := ha.2.2.2 he
      simpa [AttemptLaw, holdsRetire, he, waitingRecord, hsource, hoff] using ha.2.2.1

theorem firstState_keeps (s : State) (hd : s.sc.start = .done) (he : s.ae.engine = .none) : Keeps s (firstState s) := by
  unfold firstState
  dsimp only
  split
  · split
    · exact takeForcedOff_trip_keeps s hd he
    · exact takeForcedOff_keeps s hd he
  · split
    · exact takeStandingTrip_keeps s hd he
    · exact reconcile_keeps s hd he

theorem finishRelearn_keeps (s : State) (hs : s.sc.start ≠ .done) (he : s.ae.engine = .none) : Keeps s (finishRelearn s) :=
  (((relearned_keeps s hs).trans (firstState_keeps (relearned s) rfl he)).trans (firstLatchRule_keeps _)).trans (completeDischarge_keeps _)

/-! The held outputs' law alone holds at the end of RELEARN whatever the engine. -/

theorem HeldOk.of_closed {s : State} (hc : s.pp.path = .closed) (hd : s.pp.discharged = false) : HeldOk s :=
  ⟨fun h => absurd hc h, fun _ => hd⟩

/-- A state that holds no blade, with the blade's power and payload as they stood. -/
theorem HeldOk.of_kept {s t : State} (h : HeldOk s) (hpp : t.pp.path = s.pp.path ∧ t.pp.discharged = s.pp.discharged)
    (hheld : t.held = s.held) (hbp : t.bp = s.bp) (hpf : t.ae.profFullPending = s.ae.profFullPending)
    (hb : holdsBlade t.ae.engine = false) : HeldOk t := by
  refine ⟨fun hc => ?_, fun hg => ?_⟩
  · obtain ⟨hd, hp, hf, -⟩ := h.1 (hpp.1 ▸ hc)
    exact ⟨hheld.trans hd, by rw [hbp, hp], hpf.trans hf, hb⟩
  · exact hpp.2.trans (h.2 (by rw [← hg]; unfold gateOn; rw [hpp.1]))

theorem heldOk_takeStandingTrip {s : State} (h : HeldOk s) : HeldOk (takeStandingTrip s) := by
  unfold takeStandingTrip beginRetry
  refine h.of_kept (by simp) (by simp) (by simp) ?_ (by simp [holdsBlade])
  simp [retryRecord_fields]

theorem heldOk_takeForcedOff {s : State} (h : HeldOk s) : HeldOk (takeForcedOff s) := by
  unfold takeForcedOff
  dsimp only
  split
  · exact h
  · exact h.of_kept (by simp) (by simp) (by simp) (by simp) (by simp [holdsBlade])

theorem heldOk_reconcile {s : State} (h : HeldOk s) : HeldOk (reconcile s) := by
  unfold reconcile
  split
  · next hm =>
    have hc : s.pp.path = .closed := by simpa [mainClosed] using hm
    have hd := h.discharged_of_closed hc
    split
    · exact (evaluations_admitted_keeps _).held (.of_closed (by simp [hc]) (by simp [hd]))
    · unfold runReconcile
      split
      · exact (runSteps_keeps _ _ _ rfl).held (.of_closed (by simp [hc]) (by simp [hd]))
      · exact .of_closed (by simp [hc]) (by simp [hd])
  · exact (evaluateWaiting_keeps _).held ((announceFrom_keeps _ _).held (h.of_kept ⟨rfl, rfl⟩ rfl rfl rfl rfl))

theorem heldOk_finishRelearn {s : State} (h : HeldOk s) : HeldOk (finishRelearn s) := by
  have hs : HeldOk (relearned s) := h
  refine (completeDischarge_keeps _).held ((firstLatchRule_keeps _).held ?_)
  unfold firstState
  dsimp only
  split
  · split
    · exact heldOk_takeForcedOff (heldOk_takeStandingTrip hs)
    · exact heldOk_takeForcedOff hs
  · split
    · exact heldOk_takeStandingTrip hs
    · exact heldOk_reconcile hs

/-! ## Seating and the resets -/

/-- A state of the resets: the laws hold of it whatever was before, but for the held outputs'. -/
theorem KeepsLaws.of_reset {s t : State} (he : t.ae.engine = .none) (hcause : t.ae.cause = .none)
    (hcount : t.ae.retryCount = 0) (hbid : t.ae.bid = none ∧ t.ae.window = none) (hsource : t.ae.source = .none)
    (hfault : t.ae.bringupFault = false) (hprog : t.bp.prog = .off) (hheld : HeldOk s → HeldOk t)
    (hqueue : LineLaw t.sli ∧ SilentLaw t) : KeepsLaws s t :=
  ⟨fun _ => ⟨fun _ => he, by simp [hcause, silentCause]⟩, fun _ _ => ⟨fun _ => hcount, by simp [hcount]⟩,
    fun _ _ => by simp [BidLaw, hbid, he, bids], hheld, fun _ _ _ => by simp [AttemptLaw, hsource, hprog, hfault], fun _ _ _ => hqueue⟩

theorem HeldOk.of_cleared {s : State} (hgate : gateOn s = false) (hheld : s.held = HeldOutputs.deasserted) (hprog : s.bp.prog = .off)
    (hpf : s.ae.profFullPending = false) (hb : holdsBlade s.ae.engine = false) : HeldOk s :=
  ⟨fun _ => ⟨hheld, hprog, hpf, hb⟩, fun hg => by simp [hgate] at hg⟩

theorem gateOn_unseat (s : State) : gateOn (unseat s) = false := gateOn_openGates .opened s (.inl rfl)

theorem unseat_keepsLaws (s : State) : KeepsLaws s (unseat s) := by
  refine .of_reset rfl rfl rfl ⟨rfl, rfl⟩ rfl rfl rfl (fun _ => .of_cleared (gateOn_unseat s) rfl rfl rfl rfl) ?_
  have hflight : flightMarks (unseat s).sli = flightMarks (purgeQueue (openGates .opened s).sli) := by
    simp only [unseat, leaveRequested]; split <;> rfl
  have hkinds : queuedKinds (unseat s).sli = [] ∨ queuedKinds (unseat s).sli = [.leave] := by
    simp only [unseat, leaveRequested]
    split
    · exact .inr rfl
    · exact .inl rfl
  refine ⟨?_, fun _ => ⟨?_, fun m hm => .inr ?_⟩⟩
  · have hdropped : flightMarks (unseat s).sli ≠ some (.leave, false) := by
      rw [hflight, flightMarks_purgeQueue]
      intro h
      obtain ⟨m, -, hm⟩ := Option.map_eq_some_iff.1 h
      simp at hm
    rcases hkinds with h | h
    · exact .of_empty h
    · exact ⟨by simp [h], by simp [h], fun hf => absurd hf hdropped⟩
  · rcases hkinds with h | h <;> simp [h]
  · rw [hflight, flightMarks_purgeQueue] at hm
    obtain ⟨m', -, rfl⟩ := Option.map_eq_some_iff.1 hm
    rfl

theorem powerOn_keepsLaws (seated : Bool) (sense : ResetSense) (a : Answers) (s : State) : KeepsLaws s (powerOn seated sense a s) := by
  exact .of_reset rfl rfl rfl ⟨rfl, rfl⟩ rfl rfl rfl (fun _ => .of_cleared rfl rfl rfl rfl rfl) ⟨.of_empty rfl, fun _ => ⟨nofun, nofun⟩⟩

theorem restartedPath_closed_iff (x : ResetSense) (pp : PowerPath) : (restartedPath x pp).path = .closed ↔ pp.path = .closed := by
  unfold restartedPath
  cases h : pp.path <;> simp [PowerPath.reset]
  split <;> simp

theorem gateOn_resetLogic (x : ResetSense) (code : Byte) (r : CmdResult) (s : State) (h : s.pp.path ≠ .closed) :
    gateOn (resetLogic x code r s) = false := by
  unfold gateOn resetLogic restartedPath
  cases hp : s.pp.path <;> simp_all [PowerPath.reset]
  split <;> simp

theorem resetLogic_keepsLaws (x : ResetSense) (code : Byte) (r : CmdResult) (s : State) : KeepsLaws s (resetLogic x code r s) := by
  have hae : (resetLogic x code r s).ae = restartedRecord s := rfl
  refine .of_reset ?_ ?_ ?_ ?_ ?_ ?_ rfl (fun hh => ?_) ⟨.of_empty rfl, fun _ => ⟨nofun, nofun⟩⟩
  case refine_7 =>
    by_cases hc : s.pp.path = .closed
    · refine .of_closed ((restartedPath_closed_iff x s.pp).2 hc) ?_
      simp [resetLogic, restartedPath, hc]
    · refine .of_cleared (gateOn_resetLogic x code r s hc) (hh.1 hc).1 rfl ?_ ?_ <;>
      · rw [hae]
        simp [restartedRecord, mainClosed, hc, OwnRecord.reset, holdsBlade]
  all_goals
    rw [hae]
    unfold restartedRecord
    split <;> simp [OwnRecord.reset]

theorem restart_keepsLaws (x : ResetSense) (g : Straps) (code : Byte) (r : CmdResult) (s : State) : KeepsLaws s (restart x g code r s) := by
  have hreset := resetLogic_keepsLaws x code r s
  unfold restart
  dsimp only
  have hfeeds : KeepsLaws s (if overvoltage (resetLogic x code r s).fs then feedFault .feedOv (resetLogic x code r s) else resetLogic x code r s) := by
    split
    · exact hreset.trans (feedFault_keeps _ _ rfl).toKeepsLaws
    · exact hreset
  split
  · refine hfeeds.trans (enterLoading_keeps g _ ?_).toKeepsLaws
    split
    · simp [resetLogic, StartControl.reset]
    · simp [resetLogic, StartControl.reset]
  · exact hfeeds

theorem seatedAgain_keeps (s : State) (h : s.sc.start ≠ .done) (sc : StartControl) :
    Keeps s { s with sc := sc, sli := seatedAgainLine s.sli } := by
  have hsc : Keeps s { s with sc := sc } := .of_starting h rfl
  refine hsc.trans (.of_line rfl (fun _ _ _ => ⟨.of_empty rfl, ?_⟩))
  exact SilentLaw.of_purged (l := s.sli) rfl rfl

theorem returnToUnseated_keeps (s : State) (h : s.sc.start ≠ .done) : Keeps s (returnToUnseated s) := .of_starting h rfl

end Sys2Proof.Machine

/-! Every command and every step keeps the laws. -/

namespace Sys2Proof.Machine

/-! ## Settling -/

theorem settle_keeps (before after : State) : Keeps after (settle before after) := by
  have hstanding : Keeps after (if standingDue before after then requestNotice .standing after else after) := by
    split
    · exact requestNotice_keeps _ _ (by decide)
    · exact .refl _
  have hperiodic (u : State) : Keeps u (settlePeriodic before u) := by
    unfold settlePeriodic
    (repeat' split) <;> exact .of_unread rfl
  have hcongestion (u : State) : Keeps u (settleCongestion u) := by
    unfold settleCongestion
    split
    · next h rest hq =>
      split
      · refine .of_unread ?_
        simp [lawView, queuedKinds, hq, flightMarks]
      · exact .refl u
    · exact .refl u
  have hlamp (u : State) : Keeps u (settleLamp before u) := by
    unfold settleLamp
    split
    · exact .refl u
    · exact .of_unread rfl
  exact ((hstanding.trans (hperiodic _)).trans (hcongestion _)).trans (hlamp _)

/-- After a settled event no periodic timer runs in a silent state (R40). -/
theorem settle_periodic (before after : State) (h : silent (settle before after) = true) : (settle before after).sli.periodic = none := by
  have hsilent (u : State) : silent (settleLamp before (settleCongestion u)) = silent u := by simp [silent]
  have hperiodic (u : State) : (settleLamp before (settleCongestion u)).sli.periodic = u.sli.periodic := by
    have hlamp (u : State) : (settleLamp before u).sli = u.sli := by simp
    rw [hlamp]
    unfold settleCongestion
    (repeat' split) <;> rfl
  unfold settle at *
  dsimp only at *
  rw [hsilent] at h
  rw [hperiodic]
  generalize hu : (if standingDue before after then requestNotice .standing after else after) = u at *
  have hu' : silent u = true := by simpa [silent] using h
  simp [settlePeriodic, hu']

theorem answer_keeps {s u t : State} (h : answer s u = .next t) (hk : Keeps s u) : Keeps s t := by
  obtain rfl : settle s u = t := by simpa [answer] using h
  exact hk.trans (settle_keeps s u)

theorem answer_keepsLaws {s u t : State} (h : answer s u = .next t) (hk : KeepsLaws s u) : KeepsLaws s t := by
  obtain rfl : settle s u = t := by simpa [answer] using h
  exact hk.trans (settle_keeps s u).toKeepsLaws

theorem next_keeps {s u t : State} (h : (.next u : Host.Outcome State Fault Refusal) = .next t) (hk : Keeps s u) : Keeps s t := by
  obtain rfl : u = t := by simpa using h
  exact hk

theorem Keeps.ite {s u v : State} {c : Prop} [Decidable c] (h : c → Keeps s u) (h' : ¬ c → Keeps s v) : Keeps s (if c then u else v) := by
  split
  · exact h ‹_›
  · exact h' ‹_›

theorem writeByte_keeps (b : PortByte) (o : Byte) (effect : State → State) (s : State) (h : Keeps s (effect s)) :
    Keeps s (writeByte b o effect s) := .ite (fun _ => h) (fun _ => .refl s)

/-! ## The commands -/

/-- The commands with a rule of their own below: the resets and the losses of seating, which the laws hold after outright, the main switch's
closing, which may start a program, and the bring-up timeout, which records the step. -/
def special : Instr → Bool
  | .powerOnReset _ _ _ => true
  | .restartNFall _ _ => true
  | .restart _ _ => true
  | .lossOfSeating => true
  | .closingExpiry => true
  | .bringupTimeout => true
  | _ => false

theorem transmissionBegin_keeps {s t : State} (h : execTransmissionBegin s = .next t) : Keeps s t := by
  refine answer_keeps h ?_
  split
  · next q rest hq =>
    split
    · split
      · exact beginTransmission_keeps q rest s _ hq rfl rfl rfl
      · exact .refl s
    · exact .refl s
  · exact .refl s

theorem lostArbitration_keeps {s t : State} (h : execLostArbitration s = .next t) : Keeps s t := by
  refine answer_keeps h ?_
  split
  · next f hf => exact returnNotice_keeps f s _ hf rfl rfl rfl
  · exact .refl s

theorem clash_keeps {s t : State} (h : execClash s = .next t) : Keeps s t := by
  refine answer_keeps h ?_
  split
  · next f hf =>
    dsimp only
    split
    · refine Keeps.trans ?_ (slotClash_keeps _)
      exact returnNotice_keeps f s _ hf rfl rfl rfl
    · exact returnNotice_keeps f s _ hf rfl rfl rfl
  · exact .refl s

theorem loopback_keeps {b : Bool} {s t : State} (h : execLoopback b s = .next t) : Keeps s t := by
  refine answer_keeps h ?_
  split
  · next f hf =>
    split
    · refine Keeps.trans ?_ (noticeSent_keeps f _)
      refine .of_line rfl (fun _ hl hs => ⟨⟨hl.1, hl.2.1, nofun⟩, fun hsil => ⟨(hs hsil).1, nofun⟩⟩)
    · exact returnNotice_keeps f s _ hf rfl rfl rfl
  · exact .refl s

theorem attemptRuns_start {s : State} (h : attemptRuns s = true) : s.sc.start ≠ .done := by
  simp only [attemptRuns, Bool.and_eq_true, decide_eq_true_eq] at h
  simp [h.1]

theorem commandTaken_keeps (code : Byte) (r : CmdResult) (s : State) : Keeps s (commandTaken code r s) := .of_unread rfl

/-! The bodies of the commands that first change what no law reads. -/

theorem disturbed_keeps (s : State) :
    Keeps s (if s.sli.line = .idle ∧ s.sli.gap < gapBits then
      { s with sli := { (if s.sli.gapSeen then countError s.sli else s.sli) with gap := 0 } } else s) := by
  split
  · refine .of_unread ?_
    simp only [lawView, LawView.mk.injEq, and_self]
    split <;> simp [queuedKinds, flightMarks, countError]
  · exact .refl s

theorem stuck_keeps (s : State) :
    Keeps s (takeLineChange true (raise .line { s with sli := { s.sli with line := .stuck, deaf := false, clashCount := 0 } })) := by
  refine Keeps.trans ?_ (takeLineChange_keeps _ _)
  exact .of_unread rfl

theorem freed_keeps (s : State) : Keeps s (takeLineChange false (raise .line { s with sli := completedGap s.sli })) := by
  refine Keeps.trans ?_ (takeLineChange_keeps _ _)
  exact .of_unread rfl

theorem qualityEnd_keeps (s : State) {now : Bool} :
    Keeps s (if now = s.sli.impaired then { s with sli := { s.sli with errors := 0, quality := some qualityMs, impaired := now } }
      else takeLineChange now (raise .line { s with sli := { s.sli with errors := 0, quality := some qualityMs, impaired := now } })) := by
  refine .ite (fun _ => .of_unread rfl) (fun _ => Keeps.trans ?_ (takeLineChange_keeps _ _))
  exact .of_unread rfl

theorem periodic_keeps (s : State) : Keeps s (requestNotice .standing { s with sli := { s.sli with periodic := some periodicMs } }) := by
  refine Keeps.trans ?_ (requestNotice_keeps _ _ (by decide))
  exact .of_unread rfl

theorem rideThrough_keeps (s : State) :
    Keeps s (takeFeedChange (feedFault .feedUv (raise .feed { s with fs := { s.fs with ride := none, uv := true } }))) := by
  refine Keeps.trans ?_ ((feedFault_keeps .feedUv _ rfl).trans (takeFeedChange_keeps _))
  exact .of_unread rfl

theorem backoffEnds_keeps (s : State) (h : s.ae.engine = .backoff) : Keeps s (enterWaiting { s with ae := { s.ae with backoff := none } }) := by
  refine Keeps.trans ?_ (enterWaiting_of_engine_keeps _ (.inl h))
  exact .of_unread rfl

theorem cooldownEnds_keeps (s : State) (h : s.ae.engine = .cooldown) : Keeps s (enterWaiting { s with ae := { s.ae with cooldown := none } }) := by
  refine Keeps.trans ?_ (enterWaiting_of_engine_keeps _ (.inr (.inl h)))
  exact .of_unread rfl

theorem profAck_keeps (level : Bool) (s : State) {c : Prop} [Decidable c] (hc : c → s.ae.engine = .admitted .shedding) :
    Keeps s (if c then completeShed { s with inp := { s.inp with profAck := level } } else { s with inp := { s.inp with profAck := level } }) := by
  refine .ite (fun h => Keeps.trans ?_ (completeShed_keeps _ (hc h))) (fun _ => .of_unread rfl)
  exact .of_unread rfl

theorem dischargeSlow_keeps (s : State) {c : Bool} {pp : PowerPath} (hpp : pp.path = s.pp.path ∧ pp.discharged = s.pp.discharged) :
    Keeps s (raiseIf c .dischargeSlow { s with pp := pp }) := by
  refine Keeps.trans (.of_unread ?_) (raiseIf_keeps _ _ _)
  simp [lawView, hpp]

theorem stepEdge_keeps (rising : Bool) (s : State) :
    Keeps s (if rising then takeEdge { s with inp := { s.inp with stepLevel := rising, stepSettled := true } }
      else { s with inp := { s.inp with stepLevel := rising, stepSettled := true } }) := by
  refine .ite (fun _ => Keeps.trans ?_ (takeEdge_keeps _)) (fun _ => .of_unread rfl)
  exact .of_unread rfl

theorem conditionInputs_keeps (railPg : BitVec 4) (payReady : Bool) (s : State) :
    Keeps s (if s.bp.prog = .forward ∧ s.bp.sub = .condition then
      match currentStep { s with inp := { s.inp with railPg := railPg, payReady := payReady } } with
      | some r => afterStep (testCondition r { s with inp := { s.inp with railPg := railPg, payReady := payReady } })
      | none => { s with inp := { s.inp with railPg := railPg, payReady := payReady } }
      else { s with inp := { s.inp with railPg := railPg, payReady := payReady } }) := by
  have hinputs : Keeps s { s with inp := { s.inp with railPg := railPg, payReady := payReady } } := .of_unread rfl
  refine .ite (fun h => ?_) (fun _ => hinputs)
  split
  · exact hinputs.trans (afterStep_keeps _ (testCondition_keeps _ _ h.1) ((testCondition_prog _ _).trans h.1))
  · exact hinputs

theorem dwellEnds_keeps (s : State) (h : s.bp.prog = .forward) : Keeps s (afterStep ({ s with bp := { s.bp with dwell := none } }, true)) :=
  afterStep_keeps _ (.of_program rfl rfl rfl rfl rfl (by simp [h]) (.inl rfl)) h

theorem teardownDwellEnds_keeps (s : State) (h : s.bp.prog = .teardown) :
    Keeps s (undoFrom (s.bp.pointer - 1) { s with bp := { s.bp with teardown := none } }) := by
  refine Keeps.trans ?_ (undoFrom_keeps _ _ h)
  exact .of_program rfl rfl rfl rfl rfl (by simp [h]) (.inl rfl)

theorem latchOpening_keeps (s : State) :
    Keeps s (requestRetire .latch { s with rc := { s.rc with latchOpen := true, latchSettled := true, force := some forceMs } }) := by
  refine Keeps.trans ?_ (requestRetire_keeps _ _)
  exact .of_unread rfl

theorem latchClosing_keeps (s : State) :
    Keeps s (takeClosing { s with rc := { s.rc with latchOpen := false, latchSettled := true, force := none, latchHeld := false } }) := by
  refine Keeps.trans ?_ (takeClosing_keeps _)
  exact .of_unread rfl

theorem forceTimer_keeps (s : State) : Keeps s (forceRetire { s with rc := { s.rc with force := none, latchHeld := true } }) := by
  refine Keeps.trans ?_ (forceRetire_keeps _)
  exact .of_unread rfl

theorem handoverEnds_keeps (s : State) (h : s.ae.engine = .retiring .handover) :
    Keeps s (raise .held { s with ae := { s.ae with engine := .retiring .held }, rc := { s.rc with handover := none } }) := by
  refine Keeps.trans ?_ (raise_keeps _ _)
  refine .of_record ⟨rfl, rfl, .of_sli rfl, .inl (by simp [h]), .inr ⟨rfl, .inr (by simp [h])⟩⟩ ⟨rfl, rfl⟩ rfl rfl (.inl rfl) ?_ .inl ?_ ?_
  · simp [BidLaw, bids, h]
  · simp [holdsBlade, h]
  · exact fun _ ha => by simpa [AttemptLaw, holdsRetire, h] using ha

theorem quiesced_keeps (level : Bool) (s : State) :
    Keeps s (if s.ae.engine = .retiring .draining ∧ level then enterTeardown { s with inp := { s.inp with quiesced := level } }
      else { s with inp := { s.inp with quiesced := level } }) := by
  refine .ite (fun h => Keeps.trans ?_ (enterTeardown_keeps (.refl _ ⟨_, h.1⟩))) (fun _ => .of_unread rfl)
  exact .of_unread rfl

theorem quiesceTimeout_keeps (s : State) (h : s.ae.engine = .retiring .draining) : Keeps s (enterTeardown (raise .quiesceTimeout s)) := by
  refine (raise_keeps _ _).trans (enterTeardown_keeps (.refl _ ⟨_, h⟩))

/-- Every command outside the special ones keeps the laws; the relearn timer's expiry from a start state, as the start's law has it. -/
theorem exec_keeps {c : Instr} {s t : State} (h : exec c s = .next t) (hc : special c = false)
    (hr : c = .relearnExpiry → s.sc.start = .relearn → s.ae.engine = .none) : Keeps s t := by
  cases c with
  | powerOnReset | restartNFall | restart | lossOfSeating | closingExpiry | bringupTimeout => simp [special] at hc
  | seatedDebouncedSeated =>
    exact answer_keeps h (.ite (fun hs => seatedAgain_keeps s (by simp [hs]) _) (fun _ => .refl s))
  | settleExpiry straps =>
    exact answer_keeps h (.ite (fun hs => enterLoading_keeps straps s (by simp [hs.1])) (fun _ => .refl s))
  | profileAttemptComplete image low =>
    change execProfileAttemptComplete image low s = _ at h
    unfold execProfileAttemptComplete at h
    split at h
    · refine answer_keeps h (.ite (fun ha => ?_) (fun _ => .refl s))
      have hd := attemptRuns_start ha
      split
      · exact completeLoading_keeps _ _ s hd
      · exact failLoad_keeps _ _ s hd
    · cases h
  | profileNoResponse low | attemptTimerExpiry low =>
    exact answer_keeps h (.ite (fun ha => failLoad_keeps _ _ s (attemptRuns_start ha)) (fun _ => .refl s))
  | relearnExpiry =>
    exact answer_keeps h (.ite (fun hs => finishRelearn_keeps s (by simp [hs.1]) (hr rfl hs.1)) (fun _ => .refl s))
  | transmissionBegin => exact transmissionBegin_keeps h
  | lostArbitration => exact lostArbitration_keeps h
  | clash => exact clash_keeps h
  | loopback b => exact loopback_keeps h
  | standingNotice n | bidNotice n | yieldNotice n | leaveNotice n => exact answer_keeps h (receiveValid_keeps _ n s)
  | invalidFrame bits b => exact answer_keeps h (receiveBits_keeps bits b s)
  | disturbance => exact answer_keeps h (disturbed_keeps s)
  | lineStuck => exact answer_keeps h (.ite (fun _ => .refl s) (fun _ => stuck_keeps s))
  | lineFreed => exact answer_keeps h (.ite (fun _ => freed_keeps s) (fun _ => .refl s))
  | clashWaitExpiry =>
    refine answer_keeps h ?_
    split
    · exact .of_unread rfl
    · exact .refl s
  | qualityIntervalEnd => exact answer_keeps h (qualityEnd_keeps s)
  | transmitCongestion =>
    refine answer_keeps h ?_
    split
    · next q rest hq => exact .ite (fun _ => .refl s) (fun _ => .of_unread (by simp [lawView, queuedKinds, hq, flightMarks]))
    · exact .refl s
  | periodicNoticeExpiry => exact answer_keeps h (.ite (fun _ => periodic_keeps s) (fun _ => .refl s))
  | entryStale sl =>
    refine answer_keeps h ?_
    split
    · exact .ite (fun _ => .refl s) (fun _ => (withTable_keeps _ s).trans (viewChanged_keeps _ _))
    · exact .refl s
  | peerExpired sl =>
    refine answer_keeps h ?_
    split
    · exact .ite (fun _ => .refl s) (fun _ => ((withTable_keeps _ s).trans (raise_keeps _ _)).trans (viewChanged_keeps _ _))
    · exact .refl s
  | feedSample a b => exact answer_keeps h (feedSampleEvent_keeps a b s)
  | rideThroughExpiry => exact answer_keeps h (.ite (fun _ => rideThrough_keeps s) (fun _ => .refl s))
  | bidWindowExpiry => exact answer_keeps h (.ite (fun hb => resolveBid_keeps s hb.1) (fun _ => .refl s))
  | backoffExpiry => exact answer_keeps h (.ite (fun hb => backoffEnds_keeps s hb.1) (fun _ => .refl s))
  | cooldownExpiry => exact answer_keeps h (.ite (fun hb => cooldownEnds_keeps s hb.1) (fun _ => .refl s))
  | profAckChange level => exact answer_keeps h (profAck_keeps level s And.left)
  | shedWaitExpiry => exact answer_keeps h (.ite (fun hb => completeShed_keeps s hb.1) (fun _ => .refl s))
  | upgradeWindowExpiry => exact answer_keeps h (.ite (fun hb => resolveUpgrade_keeps s hb.1) (fun _ => .refl s))
  | upgradeHoldExpiry | upgradeRetryHoldExpiry | carryingChange => exact answer_keeps h (.of_unread rfl)
  | pathSample v i => exact answer_keeps h (pathSampleEvent_keeps v i s)
  | prechargeTimeout v i | slowTrip v i | overclaim v i =>
    refine answer_keeps h (Keeps.trans ?_ (pathSampleEvent_keeps v i _))
    exact .ite (fun _ => .of_unread rfl) (fun _ => .refl s)
  | dischargeSlow =>
    exact answer_keeps h (.ite (fun _ => dischargeSlow_keeps s ⟨rfl, rfl⟩) (fun _ => .refl s))
  | stepEdge rising => exact answer_keeps h (stepEdge_keeps rising s)
  | conditionInputChange pg ready => exact answer_keeps h (conditionInputs_keeps pg ready s)
  | dwellExpiry => exact answer_keeps h (.ite (fun hd => dwellEnds_keeps s hd.1) (fun _ => .refl s))
  | teardownDwellExpiry => exact answer_keeps h (.ite (fun hd => teardownDwellEnds_keeps s hd.1) (fun _ => .refl s))
  | latchOpening => exact answer_keeps h (latchOpening_keeps s)
  | latchClosing => exact answer_keeps h (latchClosing_keeps s)
  | ejectFirstSettling opened => exact answer_keeps h (.ite (fun _ => .refl s) (fun _ => .of_unread rfl))
  | forceTimerExpiry => exact answer_keeps h (.ite (fun _ => forceTimer_keeps s) (fun _ => .refl s))
  | handoverTimerExpiry => exact answer_keeps h (.ite (fun hh => handoverEnds_keeps s hh.1) (fun _ => .refl s))
  | quiescedRise level => exact answer_keeps h (quiesced_keeps level s)
  | quiesceTimeout => exact answer_keeps h (.ite (fun hq => quiesceTimeout_keeps s hq.1) (fun _ => .refl s))
  | retire => exact answer_keeps h ((commandTaken_keeps _ _ s).trans (requestRetire_keeps _ _))
  | cancelRetire =>
    exact answer_keeps h (.ite (fun _ => (commandTaken_keeps _ _ s).trans (honourCancel_keeps _)) (fun _ => commandTaken_keeps _ _ s))
  | forceRetire => exact answer_keeps h ((commandTaken_keeps _ _ s).trans (forceRetire_keeps _))
  | clearFault =>
    exact answer_keeps h (.ite (fun hc => (commandTaken_keeps _ _ s).trans (clearFault_keeps s _ (clearAccepted_engine (s := s) hc)))
      (fun _ => commandTaken_keeps _ _ s))
  | forceOff =>
    exact answer_keeps h (.ite (fun _ => .ite (fun he => (commandTaken_keeps _ _ s).trans (forceOffStarting_keeps _ he))
      (fun he => (commandTaken_keeps _ _ s).trans (forceOffRunning_keeps _ he))) (fun _ => commandTaken_keeps _ _ s))
  | unknownCommand code =>
    change execUnknownCommand code s = _ at h
    unfold execUnknownCommand at h
    split at h
    · exact next_keeps h (commandTaken_keeps _ _ s)
    · cases h
  | registerWrite o v =>
    change execRegisterWrite o v s = _ at h
    unfold execRegisterWrite at h
    split at h
    · exact next_keeps h (writeByte_keeps _ _ _ s (.of_unread rfl))
    · cases h
  | eventsClear | maskWrite | viewselWrite => exact next_keeps h (writeByte_keeps _ _ _ s (.of_unread rfl))
  | offsetWrite | snapshotRead | viewdataRead => exact next_keeps h (.of_unread rfl)
  | lampBlinkToggle => exact next_keeps h (.ite (fun _ => .of_unread rfl) (fun _ => .refl s))
  | gapComplete => exact answer_keeps h (.ite (fun _ => .of_unread rfl) (fun _ => .refl s))
  | startBit => exact answer_keeps h (.ite (fun _ => .of_unread rfl) (fun _ => .refl s))
  | debouncerFirstSettling which level =>
    refine next_keeps h ?_
    cases which <;> exact .ite (fun _ => .refl s) (fun _ => .of_unread rfl)

end Sys2Proof.Machine

/-! The special commands, the passing of a millisecond and every step keep the laws; with them the statements O4 to O7 are settled. -/

namespace Sys2Proof.Machine

theorem closingExpiry_keepsLaws {s t : State} (h : execClosingExpiry s = .next t) : KeepsLaws s t := by
  refine answer_keepsLaws h ?_
  split
  · next hc =>
    split
    · dsimp only
      split
      · next he => exact enterBringup_keeps he hc.1 rfl rfl rfl rfl rfl rfl
      · refine .of_closed (.of_ae rfl rfl rfl) (fun hh => ⟨rfl, ?_⟩) (.inl rfl) id (fun _ => id)
        exact hh.2 (by simp [gateOn, hc.1])
    · exact (failAttempt_keeps _ s (fun hh => (hh.1 (by simp [hc.1])).2.2.2)).toKeepsLaws
  · exact (Keeps.refl s).toKeepsLaws

/-- The station at a step's timeout, the teardown of its completed steps begun (R129, R132). -/
def timingOut (s : State) : State :=
  { s with bp := undoing s.bp.pointer 0 { s.bp with timedOut := s.bp.pointer, edge := false }, ae := { s.ae with bringupFault := true } }

theorem timingOut_keepsLaws (s : State) (h : s.bp.prog = .forward) : KeepsLaws s (timingOut s) := by
  refine .of_closed ⟨rfl, rfl, .of_sli rfl, ?_, .inr ⟨rfl, .inl rfl⟩⟩ (fun hh => ?_) (.inl rfl) id (fun hh ha => ?_)
  · by_cases he : s.ae.engine = .none
    · exact .inr (.inr he)
    · exact .inl he
  · have hc := hh.closed_of_prog (by simp [h])
    exact ⟨hc, hh.discharged_of_closed hc⟩
  · have he := (ha.2.1 h).1
    exact ⟨fun _ => by simp [holdsRetire, timingOut, he], nofun, fun _ => he, fun hn => by simp [timingOut, he] at hn⟩

theorem bringupTimeout_body (s : State) (h : s.bp.prog = .forward) :
    teardownCommand { s with bp := { s.bp with timedOut := s.bp.pointer, edge := false }, ae := { s.ae with bringupFault := true } }
      = undoFrom s.bp.completed (timingOut s) := by
  unfold teardownCommand
  simp only [h, timingOut]

theorem bringupTimeout_keepsLaws {s t : State} (h : execBringupTimeout s = .next t) : KeepsLaws s t := by
  refine answer_keepsLaws h ?_
  split
  · next hf =>
    rw [bringupTimeout_body s hf.1]
    exact (timingOut_keepsLaws s hf.1).trans (undoFrom_keeps _ _ rfl).toKeepsLaws
  · exact (Keeps.refl s).toKeepsLaws

theorem lossOfSeating_keepsLaws {s t : State} (h : execLossOfSeating s = .next t) : KeepsLaws s t := by
  refine answer_keepsLaws h ?_
  split
  · refine Keeps.toKeepsLaws ?_
    exact .of_unread rfl
  · next hs => exact (returnToUnseated_keeps s (by simp [hs])).toKeepsLaws
  · exact unseat_keepsLaws s

/-- Every command keeps the laws, whatever state the start's law admits. -/
theorem exec_keepsLaws {c : Instr} {s t : State} (h : exec c s = .next t)
    (hr : c = .relearnExpiry → s.sc.start = .relearn → s.ae.engine = .none) : KeepsLaws s t := by
  cases hc : special c with
  | false => exact (exec_keeps h hc hr).toKeepsLaws
  | true =>
    cases c with
    | powerOnReset seated x a =>
      obtain rfl : powerOn seated x a s = t := Host.Outcome.next.inj h
      exact powerOn_keepsLaws seated x a s
    | restartNFall x g =>
      obtain rfl : restart x g 0x00 .none s = t := Host.Outcome.next.inj h
      exact restart_keepsLaws x g _ _ s
    | restart x g =>
      obtain rfl : restart x g 0xA5 .accepted s = t := Host.Outcome.next.inj h
      exact restart_keepsLaws x g _ _ s
    | lossOfSeating => exact lossOfSeating_keepsLaws h
    | closingExpiry => exact closingExpiry_keepsLaws h
    | bringupTimeout => exact bringupTimeout_keepsLaws h
    | _ => simp [special] at hc

/-- A millisecond changes no timer from stopped to running, and nothing else that a law reads. -/
theorem tick_keepsLaws (s : State) : KeepsLaws s (tick s) := by
  have hk : Keeps s { tick s with bp := s.bp } := by
    refine .of_unread ?_
    simp only [lawView, tick, queuedKinds, flightMarks, tickTimer, LawView.mk.injEq, Option.isSome_map, List.map_map, Option.map_map]
    exact ⟨trivial, trivial, rfl, rfl, trivial, trivial, trivial, trivial, trivial, trivial, trivial, trivial, trivial, trivial, trivial,
      trivial, trivial⟩
  exact ⟨hk.start, hk.retry, hk.bid, hk.held, hk.attempt, hk.queue⟩

/-- What every command and a millisecond keep, every step keeps. -/
theorem step_keeps_of {P : State → Prop} (hpending : ∀ (s : State) (p : List Instr), P s → P { s with pending := p })
    (hexec : ∀ (c : Instr) (s t : State), P s → exec c s = .next t → P t) (htick : ∀ s : State, P s → P (tick s)) {s t : State}
    (hs : P s) (h : step s = .next t) : P t := by
  unfold step at h
  split at h
  · exact hexec _ _ t (hpending s _ hs) h
  · unfold idle at h
    split at h
    · exact hexec _ s t hs h
    · obtain rfl : tick s = t := Host.Outcome.next.inj h
      exact htick s hs

theorem StartOk.of_relearn {s : State} (h : StartOk s) (hr : s.sc.start = .relearn) : s.ae.engine = .none := h.1 (by simp [hr])

theorem exec_keepsLaws_of_start {c : Instr} {s t : State} (hs : StartOk s) (h : exec c s = .next t) : KeepsLaws s t :=
  exec_keepsLaws h (fun _ => hs.of_relearn)

/-! ## The held outputs, the retry count and the bid -/

theorem exec_keeps_heldOk {c : Instr} {s t : State} (hh : HeldOk s) (h : exec c s = .next t) : HeldOk t := by
  by_cases hr : c = .relearnExpiry
  · subst hr
    obtain rfl : settle s (if s.sc.start = .relearn ∧ running s.sc.relearn then finishRelearn s else s) = t := Host.Outcome.next.inj h
    refine (settle_keeps s _).held ?_
    split
    · exact heldOk_finishRelearn hh
    · exact hh
  · exact (exec_keepsLaws h (fun h => absurd h hr)).held hh

/-- Settles O5: an opening deasserts the held outputs and ends the program in its own event, and the engine never stays in a state that
holds the blade. -/
theorem stepKeepsTheHeldOutputs : Obligations.StepKeepsTheHeldOutputs := by
  unfold Obligations.StepKeepsTheHeldOutputs
  exact fun s t => step_keeps_of (P := HeldOk) (fun _ _ => id) (fun _ _ _ hs h => exec_keeps_heldOk hs h)
    (fun s => (tick_keepsLaws s).held)

/-- Settles O6: the retry rule alone counts, below the limit. -/
theorem stepKeepsTheRetryCount : Obligations.StepKeepsTheRetryCount := by
  unfold Obligations.StepKeepsTheRetryCount
  refine fun s t => step_keeps_of (P := RetryOk) (fun _ _ => id) (fun c s t hs h => ?_) (fun s hs => ?_)
  · have hk := exec_keepsLaws_of_start hs.1 h
    exact ⟨hk.start hs.1, hk.retry hs.1 hs.2⟩
  · exact ⟨(tick_keepsLaws s).start hs.1, (tick_keepsLaws s).retry hs.1 hs.2⟩

/-- Settles O7: every way out of BIDDING and UPGRADE_BID closes the bid, and the entries into them alone open one. -/
theorem stepKeepsTheBid : Obligations.StepKeepsTheBid := by
  unfold Obligations.StepKeepsTheBid
  refine fun s t => step_keeps_of (P := BidOk) (fun _ _ => id) (fun c s t hs h => ?_) (fun s hs => ?_)
  · have hk := exec_keepsLaws_of_start hs.1 h
    exact ⟨hk.start hs.1, hk.bid hs.1 hs.2⟩
  · exact ⟨(tick_keepsLaws s).start hs.1, (tick_keepsLaws s).bid hs.1 hs.2⟩

/-! ## The transmit queue -/

/-- The periodic timer stands in a silent state (R40). -/
def PeriodicLaw (s : State) : Prop := silent s = true → s.sli.periodic = none

theorem answer_periodicLaw {s u t : State} (h : answer s u = .next t) : PeriodicLaw t := by
  obtain rfl : settle s u = t := Host.Outcome.next.inj h
  exact settle_periodic s u

theorem next_periodicLaw {s u t : State} (h : (.next u : Host.Outcome State Fault Refusal) = .next t) (hp : PeriodicLaw s)
    (hsli : u.sli = s.sli) (hae : u.ae = s.ae) (hsc : u.sc = s.sc) : PeriodicLaw t := by
  obtain rfl : u = t := Host.Outcome.next.inj h
  unfold PeriodicLaw silent at *
  rwa [hsli, hae, hsc]

theorem writeByte_blocks (b : PortByte) (o : Byte) (effect : State → State) (s : State)
    (h : (effect s).sli = s.sli ∧ (effect s).ae = s.ae ∧ (effect s).sc = s.sc) :
    (writeByte b o effect s).sli = s.sli ∧ (writeByte b o effect s).ae = s.ae ∧ (writeByte b o effect s).sc = s.sc := by
  unfold writeByte
  split
  · exact h
  · exact ⟨rfl, rfl, rfl⟩

theorem feedFault_sli_of_none (cause : FaultCause) (s : State) (h : s.ae.engine = .none) : (feedFault cause s).sli = s.sli := by
  unfold feedFault answerFeedFault
  rw [openGates_engine, h]
  simp

theorem restart_periodic (x : ResetSense) (g : Straps) (code : Byte) (r : CmdResult) (s : State) :
    (restart x g code r s).sli = LineInterface.reset := by
  have hnone : (resetLogic x code r s).ae.engine = .none := by
    show (restartedRecord s).engine = .none
    unfold restartedRecord
    split <;> rfl
  have hfeeds : (if overvoltage (resetLogic x code r s).fs then feedFault .feedOv (resetLogic x code r s)
      else resetLogic x code r s).sli = LineInterface.reset := by
    split
    · exact feedFault_sli_of_none _ _ hnone
    · rfl
  unfold restart
  dsimp only
  split
  · rw [← hfeeds]
    simp
  · exact hfeeds

theorem exec_keeps_periodic {c : Instr} {s t : State} (hp : PeriodicLaw s) (h : exec c s = .next t) : PeriodicLaw t := by
  cases c with
  | powerOnReset seated x a =>
    obtain rfl : powerOn seated x a s = t := Host.Outcome.next.inj h
    exact fun _ => rfl
  | restartNFall x g =>
    obtain rfl : restart x g 0x00 .none s = t := Host.Outcome.next.inj h
    exact fun _ => by rw [restart_periodic]; rfl
  | restart x g =>
    obtain rfl : restart x g 0xA5 .accepted s = t := Host.Outcome.next.inj h
    exact fun _ => by rw [restart_periodic]; rfl
  | profileAttemptComplete image low =>
    change execProfileAttemptComplete image low s = _ at h
    unfold execProfileAttemptComplete at h
    split at h
    · exact answer_periodicLaw h
    · cases h
  | unknownCommand code =>
    change execUnknownCommand code s = _ at h
    unfold execUnknownCommand at h
    split at h
    · exact next_periodicLaw h hp rfl rfl rfl
    · cases h
  | registerWrite o v =>
    change execRegisterWrite o v s = _ at h
    unfold execRegisterWrite at h
    split at h
    · obtain ⟨hsli, hae, hsc⟩ := writeByte_blocks v o (fun s => { s with lpi := written o s.lpi }) s ⟨rfl, rfl, rfl⟩
      exact next_periodicLaw h hp hsli hae hsc
    · cases h
  | eventsClear | maskWrite | viewselWrite =>
    refine next_periodicLaw h hp ?_ ?_ ?_ <;>
    · unfold writeByte
      split <;> rfl
  | offsetWrite | snapshotRead | viewdataRead => exact next_periodicLaw h hp rfl rfl rfl
  | lampBlinkToggle => refine next_periodicLaw h hp ?_ ?_ ?_ <;> (split <;> rfl)
  | debouncerFirstSettling which level =>
    cases which <;> refine next_periodicLaw h hp ?_ ?_ ?_ <;> (dsimp only; split <;> rfl)
  | _ => exact answer_periodicLaw h

/-- Settles O4: every request, return and purge keeps the kinds apart and a LEAVE alone, and a silent state is entered with nothing queued that
may be sent. -/
theorem stepKeepsTheQueue : Obligations.StepKeepsTheQueue := by
  unfold Obligations.StepKeepsTheQueue
  refine fun s t => step_keeps_of (P := QueueOk) (fun _ _ => id) (fun c s t hs h => ?_) (fun s hs => ?_)
  · obtain ⟨hstart, hline, hsilent, hperiodic⟩ := (queueOk_iff s).1 hs
    have hk := exec_keepsLaws_of_start hstart h
    obtain ⟨hline', hsilent'⟩ := hk.queue hstart hline hsilent
    exact (queueOk_iff t).2 ⟨hk.start hstart, hline', hsilent', exec_keeps_periodic hperiodic h⟩
  · obtain ⟨hstart, hline, hsilent, hperiodic⟩ := (queueOk_iff s).1 hs
    have hk := tick_keepsLaws s
    obtain ⟨hline', hsilent'⟩ := hk.queue hstart hline hsilent
    refine (queueOk_iff _).2 ⟨hk.start hstart, hline', hsilent', fun hq => ?_⟩
    have : s.sli.periodic = none := hperiodic hq
    simp [tick, this, tickTimer]

end Sys2Proof.Machine

/-! Every opening ends the program in its own event (R112, R124). -/

namespace Sys2Proof.Machine

/-! ## The switch's closing opens nothing -/

theorem completeShed_pp_of_source (s : State) (h : s.ae.source = .none) : (completeShed s).pp = s.pp := by
  unfold completeShed
  dsimp only
  rw [if_neg (by simp [h])]
  simp

theorem enterShedding_pp_of_source (s : State) (h : s.ae.source = .none) : (enterShedding s).pp = s.pp := by
  unfold enterShedding
  dsimp only
  split
  · rfl
  · exact completeShed_pp_of_source _ h

/-- With no retire recorded the evaluation of R88 leaves the power path alone. -/
theorem evaluateAdmitted_pp_of_source (s : State) (h : s.ae.source = .none) : (evaluateAdmitted s).pp = s.pp := by
  unfold evaluateAdmitted
  split
  · next sub _ =>
    split
    · split
      · rfl
      · cases sub with
        | steady =>
          unfold beginExcursion
          dsimp only
          split
          · exact enterShedding_pp_of_source _ h
          · rfl
        | upgradeBid => simp [beginExcursion]
        | shedding => rfl
    · simp
  · rfl

theorem completeRun_pp_of_source (s : State) (h : s.ae.source = .none) : (completeRun s).pp = s.pp := by
  unfold completeRun
  dsimp only
  split
  · unfold enterAdmitted
    rw [evaluateTakeover_pp, evaluateAdmitted_pp_of_source _ (by simp [h])]
    simp
  · rfl

theorem runSteps_pp_of_source (rs : List StepRecord) (n : Nat) (s : State) (h : s.ae.source = .none) : (runSteps rs n s).pp = s.pp := by
  induction rs generalizing n s with
  | nil => exact completeRun_pp_of_source s h
  | cons r rest ih =>
    unfold runSteps
    dsimp only
    split
    · rw [ih _ _ (by simp [h])]
      simp
    · simp

theorem enterBringup_pp_of_source (s : State) (h : s.ae.source = .none) : (enterBringup s).pp = s.pp := by
  rw [enterBringup_eq]
  unfold runNormal
  split
  · rw [runSteps_pp_of_source _ _ _ (by simp [enteringBringup, bringupRecord, h])]
    simp [enteringBringup]
  · simp [enteringBringup]

/-- The closing timer's expiry opens the path for a closing failure alone, which ends the program like every opening. -/
theorem closingExpiry_ends {s t : State} (ha : AttemptOk s) (h : execClosingExpiry s = .next t) (x : Nat) (hx : EndsWith x s)
    (hoff : gateOn t = false) : EndsWith x t := by
  obtain ⟨-, hheld, hattempt⟩ := (attemptOk_iff s).1 ha
  obtain rfl : settle s _ = t := Host.Outcome.next.inj h
  have hsettle := settle_keeps s
  split at hoff
  · next hc =>
    split at hoff
    · dsimp only at hoff
      exfalso
      split at hoff
      · next he =>
        have hsource : s.ae.source = .none := hattempt.source_none (by rw [holdsRetire]; simp [show s.ae.engine = .powering from he])
        simp only [gateOn, settle_pp] at hoff
        rw [enterBringup_pp_of_source { s with pp := { s.pp with
          path := .closed, closing := none, slowCount := 0, overCount := 0, overclaim := false } } hsource] at hoff
        simp at hoff
      · simp [gateOn] at hoff
    · next hv =>
      have hk := failAttempt_keeps .closeFail s (fun hh => (hh.1 (by simp [hc.1])).2.2.2)
      have := (hk.trans (hsettle _)).ends hheld x hx
      simpa only [if_pos hc, if_neg hv] using this
  · next hc =>
    have := (hsettle s).ends hheld x hx
    simpa only [if_neg hc] using this

/-! ## Every opening -/

theorem bringupTimeout_ends {s t : State} (ha : AttemptOk s) (h : execBringupTimeout s = .next t) (hon : gateOn s = true)
    (hoff : gateOn t = false) : EndsWith s.bp.pointer t := by
  obtain ⟨-, hheld, hattempt⟩ := (attemptOk_iff s).1 ha
  obtain rfl : settle s _ = t := Host.Outcome.next.inj h
  by_cases hf : s.bp.prog = .forward ∧ s.bp.sub ≠ .dwell ∧ ranOut s.bp.stepTimer
  · rw [if_pos hf, bringupTimeout_body s hf.1]
    have hk := (undoFrom_keeps s.bp.completed (timingOut s) rfl).trans (settle_keeps s _)
    refine hk.ends ((timingOut_keepsLaws s hf.1).held hheld) _ ⟨rfl, fun hg => ?_⟩
    exact absurd hg (by rw [show gateOn (timingOut s) = gateOn s from rfl, hon]; simp)
  · rw [if_neg hf] at hoff
    simp [gateOn] at hoff hon
    simp_all

/-- A loss of seating from LOADING on (R157). -/
theorem execLossOfSeating_unseats (s : State) (h : s.sc.start ≠ .unseated) (h' : s.sc.start ≠ .settling) :
    execLossOfSeating s = answer s (unseat s) := by
  unfold execLossOfSeating
  split
  · next hs => exact absurd hs h
  · next hs => exact absurd hs h'
  · rfl

theorem execLossOfSeating_unseated (s : State) (h : s.sc.start = .unseated) :
    execLossOfSeating s = answer s { s with sc := { s.sc with seated := false } } := by
  unfold execLossOfSeating
  rw [h]

theorem execLossOfSeating_settling (s : State) (h : s.sc.start = .settling) : execLossOfSeating s = answer s (returnToUnseated s) := by
  unfold execLossOfSeating
  rw [h]

theorem lossOfSeating_ends {s t : State} (h : execLossOfSeating s = .next t) (hon : gateOn s = true)
    (hoff : gateOn t = false) : EndsWith 0 t := by
  have hstays (u : State) (ht : settle s u = t) (hu : u.pp.path = s.pp.path) : EndsWith 0 t := by
    have : gateOn t = true := by rw [← hon, ← ht]; simp [gateOn, hu]
    simp [this] at hoff
  by_cases hu : s.sc.start = .unseated
  · rw [execLossOfSeating_unseated s hu] at h
    exact hstays _ (Host.Outcome.next.inj h) rfl
  · by_cases hs : s.sc.start = .settling
    · rw [execLossOfSeating_settling s hs] at h
      exact hstays _ (Host.Outcome.next.inj h) rfl
    · rw [execLossOfSeating_unseats s hu hs] at h
      obtain rfl : settle s (unseat s) = t := Host.Outcome.next.inj h
      exact ⟨by rw [settle_bp]; rfl, fun _ => ⟨by rw [settle_bp]; rfl, by rw [settle_held]; rfl⟩⟩

/-- An opening's program is over, with the timed-out step that its command leaves (R112, R123, R124). -/
theorem opening_ends {c : Instr} {s t : State} (ha : AttemptOk s) (h : exec c s = .next t) (hon : gateOn s = true) (hoff : gateOn t = false)
    (h1 : ∀ b x a, c ≠ .powerOnReset b x a) (h2 : ∀ x g, c ≠ .restartNFall x g) (h3 : ∀ x g, c ≠ .restart x g) :
    EndsWith (if c = .bringupTimeout then s.bp.pointer else if c = .lossOfSeating then 0 else s.bp.timedOut) t := by
  have hx : EndsWith s.bp.timedOut s := ⟨rfl, fun hg => by simp [hon] at hg⟩
  cases hc : special c with
  | false =>
    have hne : c ≠ .bringupTimeout ∧ c ≠ .lossOfSeating := by constructor <;> (rintro rfl; simp [special] at hc)
    rw [if_neg hne.1, if_neg hne.2]
    exact (exec_keeps h hc (fun _ => ha.1.of_relearn)).ends ha.2.1 _ hx
  | true =>
    cases c with
    | powerOnReset b x a => exact absurd rfl (h1 b x a)
    | restartNFall x g => exact absurd rfl (h2 x g)
    | restart x g => exact absurd rfl (h3 x g)
    | lossOfSeating => exact lossOfSeating_ends h hon hoff
    | closingExpiry => exact closingExpiry_ends ha h _ hx hoff
    | bringupTimeout => exact bringupTimeout_ends ha h hon hoff
    | _ => simp [special] at hc

/-- Settles O53: the operations that open the path end the program with it, and those that run one forward hold the switch closed. -/
theorem everyOpeningEndsTheProgram : Obligations.EveryOpeningEndsTheProgram := by
  unfold Obligations.EveryOpeningEndsTheProgram
  refine ⟨fun s t => step_keeps_of (P := AttemptOk) (fun _ _ => id) (fun c s t hs h => ?_) (fun s hs => ?_), ?_⟩
  · obtain ⟨hstart, hheld, hattempt⟩ := (attemptOk_iff s).1 hs
    have hk := exec_keepsLaws_of_start hstart h
    exact (attemptOk_iff t).2 ⟨hk.start hstart, hk.held hheld, hk.attempt hstart hheld hattempt⟩
  · obtain ⟨hstart, hheld, hattempt⟩ := (attemptOk_iff s).1 hs
    have hk := tick_keepsLaws s
    exact (attemptOk_iff _).2 ⟨hk.start hstart, hk.held hheld, hk.attempt hstart hheld hattempt⟩
  · intro c s t ha h hon hoff h1 h2 h3
    obtain ⟨htimed, hends⟩ := opening_ends ha h hon hoff h1 h2 h3
    obtain ⟨hbp, hheld⟩ := hends hoff
    refine ⟨by rw [hbp]; rfl, by rw [hbp]; rfl, by rw [hbp]; rfl, by rw [hbp]; rfl, by rw [hbp]; rfl, by rw [hbp]; rfl, by rw [hbp]; rfl,
      fun hb hl => ?_, fun hb => ?_, hheld, fun target => openGates_of_gateOff target t hoff, by simp [teardownComplete, hoff]⟩
    · rw [htimed, if_neg hb, if_neg hl]
    · rw [htimed, if_pos hb]

end Sys2Proof.Machine

/-! Every step keeps the Shelf View's law (chapter 01). -/

namespace Sys2Proof.Machine

/-- An operation leaves the view and the own slot alone, and the start state but for its end. -/
def ViewKept (s t : State) : Prop := t.sv = s.sv ∧ t.sc.slot = s.sc.slot ∧ (t.sc.start = s.sc.start ∨ t.sc.start = .done)

theorem ViewKept.refl (s : State) : ViewKept s s := ⟨rfl, rfl, .inl rfl⟩

theorem ViewKept.of_blocks {s t : State} (hsv : t.sv = s.sv) (hsc : t.sc = s.sc) : ViewKept s t := ⟨hsv, by rw [hsc], .inl (by rw [hsc])⟩

theorem ViewKept.trans {s t u : State} (h : ViewKept s t) (k : ViewKept t u) : ViewKept s u := by
  obtain ⟨hsv, hslot, hstart⟩ := h
  obtain ⟨ksv, kslot, kstart⟩ := k
  refine ⟨ksv.trans hsv, kslot.trans hslot, ?_⟩
  rcases kstart with h | h
  · rw [h]; exact hstart
  · exact .inr h

theorem ViewOk.of_kept {s t : State} (h : ViewOk s) (k : ViewKept s t) : ViewOk t := by
  obtain ⟨hascending, hentries, hclosed, hopened⟩ := h
  obtain ⟨ksv, kslot, kstart⟩ := k
  unfold ViewOk
  rw [ksv, kslot]
  refine ⟨hascending, hentries, hclosed, fun ho => ?_⟩
  rcases kstart with h | h
  · rw [h]; exact hopened ho
  · exact .inr h

/-- A closed and empty view keeps its law whatever the slot and the start state. -/
theorem ViewOk.of_closed {t : State} (h : t.sv.opened = false) (ht : t.sv.table = []) : ViewOk t := by
  simp [ViewOk, h, ht, ascending]

/-- Before RELEARN the view is closed and empty. -/
theorem ViewOk.closed {s : State} (h : ViewOk s) (hr : s.sc.start ≠ .relearn) (hd : s.sc.start ≠ .done) :
    s.sv.opened = false ∧ s.sv.table = [] := by
  obtain ⟨-, -, hclosed, hopened⟩ := h
  have ho : s.sv.opened = false := by
    by_contra h
    rcases hopened (by simpa using h) with h | h
    · exact hr h
    · exact hd h
  exact ⟨ho, hclosed ho⟩

/-- A change of the table of an open view that keeps its law (R2, R12). -/
theorem ViewOk.of_table {s t : State} (h : ViewOk s) (hopen : t.sv.opened = s.sv.opened) (hsc : t.sc = s.sc)
    (hempty : s.sv.opened = false → t.sv.table = []) (hascending : ascending t.sv.table = true)
    (hentries : ∀ e ∈ t.sv.table, s.sc.slot ≠ some e.slot ∧ e.age ≤ expireMs) : ViewOk t := by
  unfold ViewOk
  rw [hopen, hsc]
  exact ⟨hascending, hentries, hempty, h.2.2.2⟩

theorem lookup_mem {t : List Entry} {sl : Slot} {e : Entry} (h : lookup t sl = some e) : e ∈ t ∧ e.slot = sl :=
  ⟨List.mem_of_find?_eq_some h, by simpa using List.find?_some h⟩

/-- An entry written in the place of one of its slot, or for another slot than the own, keeps the law (R2, R12, R21). -/
theorem ViewOk.of_insert {s t : State} (h : ViewOk s) (e : Entry) (ht : t.sv = { s.sv with table := insertEntry e s.sv.table })
    (hsc : t.sc = s.sc) (hopen : s.sv.opened = true) (he : s.sc.slot ≠ some e.slot ∧ e.age ≤ expireMs) : ViewOk t := by
  refine h.of_table (by rw [ht]) hsc (fun hc => by simp [hopen] at hc) (by rw [ht]; exact ascending_insertEntry e _ h.1) (fun y hy => ?_)
  rw [ht] at hy
  rcases mem_insertEntry e y _ hy with rfl | hy
  · exact he
  · exact h.2.1 y hy

/-- An entry's removal keeps the law. -/
theorem ViewOk.of_remove {s t : State} (h : ViewOk s) (sl : Slot) (ht : t.sv = { s.sv with table := removeEntry sl s.sv.table })
    (hsc : t.sc = s.sc) : ViewOk t := by
  obtain ⟨hascending, hentries, hclosed, -⟩ := id h
  refine h.of_table (by rw [ht]) hsc (fun hc => by rw [ht]; simp [hclosed hc, removeEntry]) (by rw [ht]; exact ascending_removeEntry sl _ hascending)
    (fun y hy => ?_)
  rw [ht] at hy
  exact hentries y (List.mem_of_mem_filter hy)

/-! ## Arrivals -/

theorem slotClash_viewKept (s : State) : ViewKept s (slotClash s) := by
  refine ⟨by simp, ?_, ?_⟩ <;> unfold slotClash <;> dsimp only <;> split
  · simp [stopSlotClash]
  · rfl
  · exact .inr rfl
  · exact .inl rfl

theorem entryLeaves_viewOk (sl : Slot) {s : State} (h : ViewOk s) : ViewOk (entryLeaves sl s) := by
  unfold entryLeaves
  split
  · exact h.of_remove sl (by simp [withTable]) (by simp [withTable])
  · exact h

theorem deliver_viewOk (k : NoticeKind) (n : Notice) {s : State} (h : ViewOk s) : ViewOk (deliver k n s) := by
  unfold deliver
  split
  · next ho =>
    split
    · exact h.of_kept (slotClash_viewKept s)
    · next hslot =>
      split
      · exact entryLeaves_viewOk _ h
      · exact h.of_insert (entryOf k n) (entryArrives_sv _ s) (by simp) ho ⟨hslot, Nat.zero_le _⟩
  · exact h

theorem receiveValid_viewOk (k : NoticeKind) (n : Notice) {s : State} (h : ViewOk s) : ViewOk (receiveValid k n s) := by
  unfold receiveValid
  dsimp only
  split
  · exact deliver_viewOk k n h
  · exact h

theorem receiveBits_viewOk (bits : BitVec 64) (b : Bool) {s : State} (h : ViewOk s) : ViewOk (receiveBits bits b s) := by
  unfold receiveBits
  dsimp only
  split
  · split
    · split
      · exact deliver_viewOk _ _ h
      · exact h
    · exact h
  · exact h

theorem entryStale_viewOk (sl : Slot) {e : Entry} {s : State} (h : ViewOk s) (he : lookup s.sv.table sl = some e) :
    ViewOk (viewChanged s (withTable (insertEntry (staleEntry e) s.sv.table) s)) := by
  obtain ⟨hmem, -⟩ := lookup_mem he
  refine h.of_insert (staleEntry e) (by simp [withTable]) (by simp [withTable]) ?_ (h.2.1 e hmem)
  by_contra hc
  simp [h.2.2.1 (by simpa using hc)] at hmem

theorem peerExpired_viewOk (sl : Slot) {s : State} (h : ViewOk s) :
    ViewOk (viewChanged s (raise .peerExpired (withTable (removeEntry sl s.sv.table) s))) :=
  h.of_remove sl (by simp [withTable]) (by simp [withTable])

/-! ## Start Control -/

theorem stopLoading_viewKept (cause : FaultCause) (s : State) : ViewKept s (stopLoading cause s) :=
  ⟨by simp, by simp [stopLoading], .inr rfl⟩

theorem beginAttempt_viewKept (low : Bool) (s : State) : ViewKept s (beginAttempt low s) := by
  unfold beginAttempt
  split
  · exact stopLoading_viewKept _ { s with sc := { s.sc with attempts := 3, loadSub := .noResponse } }
  · exact ⟨rfl, rfl, .inl rfl⟩

theorem failLoad_viewKept (sub : LoadSubcause) (low : Bool) (s : State) : ViewKept s (failLoad sub low s) := by
  unfold failLoad
  split
  · exact stopLoading_viewKept _ { s with sc := { s.sc with attempts := 3, loadSub := sub } }
  · exact beginAttempt_viewKept low { s with sc := { s.sc with loadSub := sub } }

theorem completeLoading_viewOk (p : ProfileData) (clamped : Bool) (s : State) : ViewOk (completeLoading p clamped s) := by
  unfold completeLoading ViewOk
  simp [ascending]

/-- Entry into LOADING finds the view closed (R161). -/
theorem enterLoading_viewOk (st : Straps) {s : State} (h : s.sv.opened = false ∧ s.sv.table = []) : ViewOk (enterLoading st s) :=
  .of_closed (by simpa using h.1) (by simpa using h.2)

theorem finishRelearn_viewKept (s : State) : ViewKept s (finishRelearn s) := by
  have hforced (u : State) : ViewKept u (takeForcedOff u) := by
    refine ⟨by simp, ?_, ?_⟩ <;> unfold takeForcedOff <;> dsimp only <;> split <;> simp
  have htrip (u : State) : ViewKept u (takeStandingTrip u) := .of_blocks (by simp) (by simp)
  have hreconcile (u : State) : ViewKept u (reconcile u) := .of_blocks (by simp) (by simp)
  have hfirst : ViewKept (relearned s) (firstState (relearned s)) := by
    unfold firstState
    dsimp only
    split
    · split
      · exact (htrip _).trans (hforced _)
      · exact hforced _
    · split
      · exact htrip _
      · exact hreconcile _
  have hrelearned : ViewKept s (relearned s) := ⟨rfl, rfl, .inr rfl⟩
  have hlatch (u : State) : ViewKept u (firstLatchRule u) := .of_blocks (by simp) (by simp)
  have hcomplete (u : State) : ViewKept u (completeDischarge u) := .of_blocks (by simp) (by simp)
  exact ((hrelearned.trans hfirst).trans (hlatch _)).trans (hcomplete _)

theorem restart_viewOk (x : ResetSense) (g : Straps) (code : Byte) (r : CmdResult) (s : State) : ViewOk (restart x g code r s) := by
  have hfeeds : (if overvoltage (resetLogic x code r s).fs then feedFault .feedOv (resetLogic x code r s)
      else resetLogic x code r s).sv = ShelfView.empty := by split <;> simp [resetLogic]
  unfold restart
  dsimp only
  split
  · exact enterLoading_viewOk g (by rw [hfeeds]; exact ⟨rfl, rfl⟩)
  · exact .of_closed (by rw [hfeeds]; rfl) (by rw [hfeeds]; rfl)

theorem tick_viewOk {s : State} (h : ViewOk s) : ViewOk (tick s) := by
  obtain ⟨hascending, hentries, hclosed, hopened⟩ := h
  refine ⟨?_, fun e he => ?_, fun hc => ?_, hopened⟩
  · rw [ascending_iff] at *
    exact List.pairwise_map.2 (hascending.imp id)
  · obtain ⟨x, hx, rfl⟩ := List.mem_map.1 he
    exact ⟨(hentries x hx).1, Nat.min_le_right _ _⟩
  · simp [tick, hclosed hc]

/-! ## The commands -/

theorem answer_viewOk {s u t : State} (h : answer s u = .next t) (hu : ViewOk u) : ViewOk t := by
  obtain rfl : settle s u = t := Host.Outcome.next.inj h
  exact hu.of_kept (.of_blocks (by simp) (by simp))

theorem answer_viewKept {s u t : State} (hs : ViewOk s) (h : answer s u = .next t) (hk : ViewKept s u) : ViewOk t :=
  answer_viewOk h (hs.of_kept hk)

theorem ViewKept.ite {s u v : State} {c : Prop} [Decidable c] (h : ViewKept s u) (h' : ViewKept s v) : ViewKept s (if c then u else v) := by
  split
  · exact h
  · exact h'

theorem next_viewKept {s u t : State} (hs : ViewOk s) (h : (.next u : Host.Outcome State Fault Refusal) = .next t) (hk : ViewKept s u) :
    ViewOk t := by
  obtain rfl : u = t := Host.Outcome.next.inj h
  exact hs.of_kept hk

/-- The commands that leave the view and Start Control alone, by the frames of their operations. -/
theorem exec_viewOk_of_blocks {s u t : State} (hs : ViewOk s) (h : answer s u = .next t) (hsv : u.sv = s.sv) (hsc : u.sc = s.sc) : ViewOk t :=
  answer_viewKept hs h (.of_blocks hsv hsc)

theorem exec_viewOk {c : Instr} {s t : State} (hs : ViewOk s) (h : exec c s = .next t) : ViewOk t := by
  cases c with
  | powerOnReset seated x a =>
    obtain rfl : powerOn seated x a s = t := Host.Outcome.next.inj h
    exact .of_closed rfl rfl
  | restartNFall x g =>
    obtain rfl : restart x g 0x00 .none s = t := Host.Outcome.next.inj h
    exact restart_viewOk x g _ _ s
  | restart x g =>
    obtain rfl : restart x g 0xA5 .accepted s = t := Host.Outcome.next.inj h
    exact restart_viewOk x g _ _ s
  | seatedDebouncedSeated =>
    refine answer_viewOk h ?_
    split
    · next hu =>
      obtain ⟨ho, ht⟩ := hs.closed (by simp [hu]) (by simp [hu])
      exact .of_closed ho ht
    · exact hs
  | lossOfSeating =>
    refine answer_viewOk h ?_
    split
    · exact hs.of_kept ⟨rfl, rfl, .inl rfl⟩
    · next hu =>
      obtain ⟨ho, ht⟩ := hs.closed (by simp [hu]) (by simp [hu])
      exact .of_closed ho ht
    · exact .of_closed rfl rfl
  | settleExpiry g =>
    refine answer_viewOk h ?_
    split
    · next hu => exact enterLoading_viewOk g (hs.closed (by simp [hu.1]) (by simp [hu.1]))
    · exact hs
  | profileAttemptComplete image low =>
    change execProfileAttemptComplete image low s = _ at h
    unfold execProfileAttemptComplete at h
    split at h
    · refine answer_viewOk h ?_
      split
      · split
        · exact completeLoading_viewOk _ _ s
        · exact hs.of_kept (failLoad_viewKept _ _ s)
      · exact hs
    · cases h
  | profileNoResponse low | attemptTimerExpiry low => exact answer_viewKept hs h (.ite (failLoad_viewKept _ _ s) (.refl s))
  | relearnExpiry => exact answer_viewKept hs h (.ite (finishRelearn_viewKept s) (.refl s))
  | clash =>
    refine answer_viewKept hs h ?_
    split
    · exact .ite (slotClash_viewKept _) ⟨rfl, rfl, .inl rfl⟩
    · exact .refl s
  | standingNotice n | bidNotice n | yieldNotice n | leaveNotice n => exact answer_viewOk h (receiveValid_viewOk _ n hs)
  | invalidFrame bits b => exact answer_viewOk h (receiveBits_viewOk bits b hs)
  | entryStale sl =>
    refine answer_viewOk h ?_
    split
    · next he =>
      split
      · exact hs
      · exact entryStale_viewOk sl hs he
    · exact hs
  | peerExpired sl =>
    refine answer_viewOk h ?_
    split
    · split
      · exact hs
      · exact peerExpired_viewOk sl hs
    · exact hs
  | forceOff =>
    refine answer_viewKept hs h (.ite (.ite ⟨?_, ?_, ?_⟩ (.of_blocks ?_ ?_)) ⟨rfl, rfl, .inl rfl⟩) <;> simp [commandTaken, forceOffStarting]
  | unknownCommand code =>
    change execUnknownCommand code s = _ at h
    unfold execUnknownCommand at h
    split at h
    · exact next_viewKept hs h ⟨rfl, rfl, .inl rfl⟩
    · cases h
  | registerWrite o v =>
    change execRegisterWrite o v s = _ at h
    unfold execRegisterWrite at h
    split at h
    · exact next_viewKept hs h (.ite ⟨rfl, rfl, .inl rfl⟩ (.refl s))
    · cases h
  | eventsClear | maskWrite | viewselWrite | lampBlinkToggle => exact next_viewKept hs h (.ite ⟨rfl, rfl, .inl rfl⟩ (.refl s))
  | offsetWrite | snapshotRead | viewdataRead => exact next_viewKept hs h ⟨rfl, rfl, .inl rfl⟩
  | debouncerFirstSettling which level =>
    cases which <;> exact next_viewKept hs h (.ite (.refl s) ⟨rfl, rfl, .inl rfl⟩)
  | retire | forceRetire => exact exec_viewOk_of_blocks hs h (by simp [commandTaken]) (by simp [commandTaken])
  | cancelRetire | clearFault =>
    exact answer_viewKept hs h (.ite (.of_blocks (by simp [commandTaken]) (by simp [commandTaken])) ⟨rfl, rfl, .inl rfl⟩)
  | transmissionBegin | lostArbitration | loopback | disturbance | lineStuck | lineFreed | clashWaitExpiry | qualityIntervalEnd
  | transmitCongestion | periodicNoticeExpiry | gapComplete | startBit =>
    refine exec_viewOk_of_blocks hs h ?_ ?_ <;> (repeat' split) <;> simp
  | feedSample | rideThroughExpiry | bidWindowExpiry | backoffExpiry | cooldownExpiry | profAckChange | shedWaitExpiry
  | upgradeWindowExpiry | upgradeHoldExpiry | upgradeRetryHoldExpiry | carryingChange =>
    refine exec_viewOk_of_blocks hs h ?_ ?_ <;> (repeat' split) <;> simp
  | closingExpiry =>
    refine exec_viewOk_of_blocks hs h ?_ ?_ <;> dsimp only <;> (repeat' split) <;> simp
  | pathSample | prechargeTimeout | slowTrip | overclaim | dischargeSlow | stepEdge | conditionInputChange
  | bringupTimeout | dwellExpiry | teardownDwellExpiry =>
    refine exec_viewOk_of_blocks hs h ?_ ?_ <;> (repeat' split) <;> simp
  | latchOpening | latchClosing | ejectFirstSettling | forceTimerExpiry | handoverTimerExpiry | quiescedRise | quiesceTimeout =>
    refine exec_viewOk_of_blocks hs h ?_ ?_ <;> (repeat' split) <;> simp

/-- Settles O3: arrivals write under the law, ages stop at a second, and the view opens with the end of LOADING alone. -/
theorem stepKeepsTheView : Obligations.StepKeepsTheView := by
  unfold Obligations.StepKeepsTheView
  exact fun s t => step_keeps_of (P := ViewOk) (fun _ _ => id) (fun _ _ _ hs h => exec_viewOk hs h) (fun s => tick_viewOk)

end Sys2Proof.Machine

/-! The end of an event, part by part: what settling leaves of the line and of the port, and when it changes nothing. -/

namespace Sys2Proof.Machine

/-! ## When settling changes nothing -/

/-- What an event's end reads of the own record stands: the record, the path, the start state as far as it is RELEARN, DONE or
neither, and the handover request. -/
structure SameRecord (s u : State) : Prop where
  ae : u.ae = s.ae
  path : u.pp.path = s.pp.path
  discharged : u.pp.discharged = s.pp.discharged
  done : u.sc.start = .done ↔ s.sc.start = .done
  relearn : u.sc.start = .relearn ↔ s.sc.start = .relearn
  profile : u.sc.profile = s.sc.profile
  request : u.rc.handoverReq = s.rc.handoverReq

theorem SameRecord.silent {s u : State} (h : SameRecord s u) : silent u = silent s := by
  rw [Bool.eq_iff_iff, silent_eq_true_iff, silent_eq_true_iff, h.ae, ne_eq, h.done]

theorem SameRecord.ownClaim {s u : State} (h : SameRecord s u) : ownClaim u = ownClaim s := by
  have hsteady : ownSteady u = ownSteady s := by unfold ownSteady; rw [h.ae, h.profile]
  by_cases hr : s.sc.start = .relearn
  · unfold Machine.ownClaim
    rw [h.ae, h.path, hsteady, h.relearn.2 hr, hr]
  · have hru := mt h.relearn.1 hr
    unfold Machine.ownClaim
    rw [h.ae, h.path, hsteady]
    cases s.ae.engine <;> try rfl
    cases s.pp.path <;> try rfl
    cases hs : s.sc.start <;> cases hu : u.sc.start <;> simp_all

theorem SameRecord.lampPattern {s u : State} (h : SameRecord s u) : lampPattern u = lampPattern s := by
  unfold Machine.lampPattern; rw [h.ae, h.discharged]

theorem SameRecord.standingDue {s u : State} (h : SameRecord s u) : standingDue s u = false := by
  unfold Machine.standingDue bidOpen
  rw [h.ownClaim, h.ae, h.request]
  simp

theorem SameRecord.announcedPhase {s u : State} (h : SameRecord s u) : announcedPhase u = announcedPhase s := by
  unfold Machine.announcedPhase; rw [h.silent, h.ae]

/-- An event that leaves the own record, and nothing due on the line, ends as its body left it. -/
theorem settle_of_sameRecord {s u : State} (h : SameRecord s u) (hp : silent u = true → u.sli.periodic = none)
    (hc : congestionDue u.sli.queue = false) : settle s u = u :=
  settle_of_unannounced s u h.standingDue h.silent.symm hp hc h.lampPattern.symm

/-- An event in the silence that leaves the own record, and nothing due on the line, stops a periodic timer at its end (R40). -/
theorem settle_of_silent {s u : State} (h : SameRecord s u) (hu : silent u = true) (hc : congestionDue u.sli.queue = false) :
    settle s u = { u with sli := { u.sli with periodic := none } } := by
  have hlamp : lampPattern s = lampPattern { u with sli := { u.sli with periodic := none } } := h.lampPattern.symm
  have hcong : settleCongestion { u with sli := { u.sli with periodic := none } } = { u with sli := { u.sli with periodic := none } } :=
    settleCongestion_of_not_due _ hc
  simp only [settle, h.standingDue, settlePeriodic, hu, if_true, Bool.false_eq_true, if_false, hcong, settleLamp_same _ _ hlamp]

/-- The same for an event that leaves the line alone too. -/
theorem settle_of_sameRecord_sli {s u : State} (hs : Settled s) (h : SameRecord s u) (hl : u.sli = s.sli) : settle s u = u := by
  refine settle_of_sameRecord h (fun hq => ?_) (by rw [hl]; exact hs.2)
  rw [hl]
  exact hs.1 (h.silent ▸ hq)

theorem answer_of_sameRecord {s u : State} (h : SameRecord s u) (hp : silent u = true → u.sli.periodic = none)
    (hc : congestionDue u.sli.queue = false) : answer s u = .next u := congrArg Host.Outcome.next (settle_of_sameRecord h hp hc)

theorem answer_of_kept {s u : State} (hs : Settled s) (h : SameRecord s u) (hl : u.sli = s.sli) : answer s u = .next u :=
  congrArg Host.Outcome.next (settle_of_sameRecord_sli hs h hl)

theorem answer_of_silent {s u : State} (h : SameRecord s u) (hu : silent u = true) (hc : congestionDue u.sli.queue = false) :
    answer s u = .next { u with sli := { u.sli with periodic := none } } := congrArg Host.Outcome.next (settle_of_silent h hu hc)

theorem answer_self {s : State} (hs : Settled s) : answer s s = .next s := congrArg Host.Outcome.next (settle_self s hs)

/-! ## The line at an event's end -/

/-- A prompt STANDING is due and not discarded (R34, R39, R41). -/
def standingAsked (s u : State) : Bool := standingDue s u && !silent u && !leaveUnderway u.sli

theorem standingAsked_of_requests (s u : State) (h : Requests u) : standingAsked s u = standingDue s u := by
  simp [standingAsked, h.1, h.2]

/-- The state after the prompt STANDING of R41. -/
theorem standing_eq (s u : State) : (if standingDue s u then requestNotice .standing u else u)
    = if standingAsked s u then { u with sli := { u.sli with queue := joinTail .standing u.sli.queue } } else u := by
  unfold standingAsked requestNotice
  cases standingDue s u <;> cases silent u <;> cases leaveUnderway u.sli <;> rfl

theorem congestionDue_standing (s u : State) (hc : congestionDue u.sli.queue = false) :
    congestionDue (if standingDue s u then requestNotice .standing u else u).sli.queue = false := by
  rw [standing_eq]
  split
  · exact congestionDue_joinTail _ _ hc
  · exact hc

theorem settlePeriodic_queue (s u : State) : (settlePeriodic s u).sli.queue = u.sli.queue := by
  unfold settlePeriodic; (repeat' split) <;> rfl

/-- With no head notice due its LINE event, an event's end leaves the line to the STANDING and the periodic timer. -/
theorem settle_sli_eq (s u : State) (hc : congestionDue u.sli.queue = false) :
    (settle s u).sli = (settlePeriodic s (if standingDue s u then requestNotice .standing u else u)).sli := by
  have hc' := congestionDue_standing s u hc
  rw [← settlePeriodic_queue s] at hc'
  unfold settle
  dsimp only
  rw [settleLamp_sli, settleCongestion_of_not_due _ hc']

/-- Where the silence is not left and no periodic timer runs in it, the end of an event has nothing to do for the timer (R40). -/
theorem settlePeriodic_same {s v : State} (hp : silent v = true → v.sli.periodic = none) (hs : silent s = true → silent v = true) :
    settlePeriodic s v = v := by
  unfold settlePeriodic
  split
  · next h =>
    have hnone := hp h
    obtain ⟨_, ⟨⟩⟩ := v
    simp_all
  · split
    · next h h' => exact absurd (hs h') h
    · rfl

/-- The line at the end of an event that does not leave the silence. -/
theorem settle_sli (s u : State) (hc : congestionDue u.sli.queue = false) (hp : silent u = true → u.sli.periodic = none)
    (hs : silent s = true → silent u = true) :
    (settle s u).sli = if standingAsked s u then { u.sli with queue := joinTail .standing u.sli.queue } else u.sli := by
  rw [settle_sli_eq s u hc, standing_eq]
  split
  · exact congrArg State.sli
      (settlePeriodic_same (v := { u with sli := { u.sli with queue := joinTail .standing u.sli.queue } }) hp hs)
  · exact congrArg State.sli (settlePeriodic_same hp hs)

/-- The line at the end of an event that stays in the silence. -/
theorem settle_sli_of_silent (s u : State) (hc : congestionDue u.sli.queue = false) (hu : silent u = true)
    (hp : u.sli.periodic = none) : (settle s u).sli = u.sli := by
  rw [settle_sli s u hc (fun _ => hp) (fun _ => hu), if_neg]
  simp [standingAsked, hu]

/-- Where requests are taken, the line at an event's end is the body's with the STANDING that the own record's changes call for. -/
theorem lineAfter_settle {s u : State} (hs : Settled s) (hr : Requests s) (hsame : u.sli = s.sli) (hu : silent u = false) :
    LineAfter (standingDue s u) s (settle s u) := by
  have hru : Requests u := ⟨hu, hsame ▸ hr.2⟩
  unfold LineAfter
  rw [settle_sli s u (hsame ▸ hs.2) (by simp [hu]) (by simp [hr.1]), standingAsked_of_requests s u hru, hsame]
  split <;> simp_all

/-- The kinds queued at an event's end. -/
theorem queuedKinds_settle (s u : State) :
    queuedKinds (settle s u).sli = queuedKinds (if standingDue s u then requestNotice .standing u else u).sli := by
  have hcong (v : State) : queuedKinds (settleCongestion v).sli = queuedKinds v.sli := by
    unfold settleCongestion
    split
    · next x rest hq => split <;> simp [queuedKinds, hq]
    · rfl
  unfold settle
  dsimp only
  rw [settleLamp_sli, hcong]
  simp only [queuedKinds, settlePeriodic_queue]

theorem isQueued_iff_queuedKinds (k : NoticeKind) (l : LineInterface) : isQueued k l.queue = true ↔ k ∈ queuedKinds l := isQueued_iff k l.queue

/-- A queued notice stays queued through an event's end. -/
theorem isQueued_settle (k : NoticeKind) (s u : State) (h : isQueued k u.sli.queue = true) : isQueued k (settle s u).sli.queue = true := by
  rw [isQueued_iff_queuedKinds] at *
  rw [queuedKinds_settle, standing_eq]
  split
  · show k ∈ (joinTail .standing u.sli.queue).map (·.kind)
    rw [map_kind_joinTail]
    split
    · exact h
    · exact List.mem_append_left _ h
  · exact h

/-- The STANDING that a due change requests is queued at the event's end, where requests are taken. -/
theorem standing_queued_settle (s u : State) (hd : standingDue s u = true) (hr : Requests u) :
    isQueued .standing (settle s u).sli.queue = true := by
  rw [isQueued_iff_queuedKinds, queuedKinds_settle, if_pos hd, ← isQueued_iff_queuedKinds, requestNotice_taken _ _ hr]
  exact isQueued_joinTail_self _ _

/-- The end of an event outside the silence whose lamp keeps its pattern: the STANDING that is due, and nothing else. -/
theorem settle_of_requests {s u : State} (hr : Requests u) (hs : silent s = false) (hc : congestionDue u.sli.queue = false)
    (hl : lampPattern s = lampPattern u) :
    settle s u = { u with sli := { u.sli with
      queue := if standingDue s u then joinTail .standing u.sli.queue else u.sli.queue } } := by
  have hstanding : (if standingDue s u then requestNotice .standing u else u) = { u with sli := { u.sli with
      queue := if standingDue s u then joinTail .standing u.sli.queue else u.sli.queue } } := by
    rw [standing_eq, standingAsked_of_requests s u hr]
    split <;> rfl
  have hc' := congestionDue_standing s u hc
  unfold settle
  dsimp only
  rw [hstanding] at *
  refine (congrArg (fun v => settleLamp s (settleCongestion v)) (settlePeriodic_same ?_ ?_)).trans
    ((congrArg (settleLamp s) (settleCongestion_of_not_due _ hc')).trans (settleLamp_same _ _ hl))
  · intro h
    have hu : silent u = true := h
    simp [hr.1] at hu
  · simp [hs]

/-! ## The port at an event's end -/

/-- The Local Port with the flags of a word raised, and nothing else of it changed. -/
def Raised (w : BitVec 16) (s u : State) : Prop := u.lpi = { s.lpi with flags := s.lpi.flags ||| w }

theorem Raised.of_lpi {s u : State} (h : u.lpi = s.lpi) : Raised 0 s u := by simp [Raised, h]

theorem Raised.refl (s : State) : Raised 0 s s := .of_lpi rfl

theorem Raised.trans {w v : BitVec 16} {s t u : State} (h : Raised w s t) (k : Raised v t u) : Raised (w ||| v) s u := by
  unfold Raised at *
  rw [k, h]
  simp [BitVec.or_assoc]

theorem raised_raise (f : EventFlag) (s : State) : Raised (flagWord f) s (raise f s) := rfl

theorem lampPattern_congr {u v : State} (hae : v.ae = u.ae) (hd : v.pp.discharged = u.pp.discharged) : lampPattern v = lampPattern u := by
  unfold lampPattern; rw [hae, hd]

theorem lampPattern_settle (s u : State) : lampPattern (settle s u) = lampPattern u := lampPattern_congr (by simp) (by simp)

theorem settle_lpi (s u : State) (hc : congestionDue u.sli.queue = false) :
    (settle s u).lpi = if lampPattern s = lampPattern u then u.lpi
      else { u.lpi with lampLit := true, lampTimer := halfPeriod (lampPattern u) } := by
  have hc' := congestionDue_standing s u hc
  rw [← settlePeriodic_queue s] at hc'
  unfold settle
  dsimp only
  rw [settleCongestion_of_not_due _ hc', standing_eq]
  generalize hv : settlePeriodic s _ = v
  have hpattern : lampPattern v = lampPattern u := by
    rw [← hv]
    exact lampPattern_congr (by split <;> simp) (by split <;> simp)
  have hlpi : v.lpi = u.lpi := by rw [← hv]; split <;> simp
  unfold settleLamp
  rw [hpattern, ← hlpi]
  split <;> rfl

/-- The port after an event that raised a word of flags, with no head notice due its LINE event. -/
theorem portAfter_settle {w : BitVec 16} {s u : State} (h : Raised w s u) (hc : congestionDue u.sli.queue = false) :
    PortAfter w s (settle s u) := by
  unfold PortAfter PortKept LampFollows
  rw [lampPattern_settle, settle_lpi s u hc, h]
  split <;> simp

end Sys2Proof.Machine

/-! The step itself, the reset state, the notice frame and the power-on reset. -/

namespace Sys2Proof.Machine

/-! ## The step -/

/-- Settles O1. -/
theorem stepTakesTheFrontCommand : Obligations.StepTakesTheFrontCommand := by
  unfold Obligations.StepTakesTheFrontCommand
  exact fun _ _ _ => rfl

theorem step_of_empty (s : State) (h : s.pending = []) : step s = idle s := by
  unfold step; rw [h]

/-- Settles O2. -/
theorem stepIdlesByTheMillisecond : Obligations.StepIdlesByTheMillisecond := by
  unfold Obligations.StepIdlesByTheMillisecond
  refine fun s hp => ⟨fun c hc => ?_, fun hn => ?_⟩
  · rw [step_of_empty s hp, idle, hc]
  · rw [step_of_empty s hp, idle, hn]
    dsimp only
    unfold tick tickWait
    cases s.sli.clashWait <;> rfl

/-- Settles O8. -/
theorem resetMeetsTheInvariants : Obligations.ResetMeetsTheInvariants := by
  unfold Obligations.ResetMeetsTheInvariants
  have hstart : StartOk State.reset := ⟨fun _ => rfl, by simp [State.reset, OwnRecord.reset, silentCause]⟩
  have hheld : HeldOk State.reset := .of_cleared rfl rfl rfl rfl rfl
  refine ⟨.of_closed rfl rfl, (queueOk_iff _).2 ⟨hstart, .of_empty rfl, fun _ => ⟨nofun, nofun⟩, fun _ => rfl⟩, hheld,
    ⟨hstart, fun _ => rfl, Nat.zero_le _⟩, ⟨hstart, rfl, nofun⟩, ⟨hstart, hheld, ?_⟩, ⟨fun _ => rfl, rfl⟩, rfl⟩
  simp [State.reset, OwnRecord.reset, BringUp.reset]

/-! ## The notice frame -/

theorem bodyOfFrame_encodeFrame (k : NoticeKind) (n : Notice) : bodyOfFrame (encodeFrame k n) = frameBody k n := by
  refine BitVec.eq_of_getLsbD_eq (fun i hi => ?_)
  simp only [bodyOfFrame, encodeFrame, BitVec.getLsbD_extractLsb', BitVec.getLsbD_append]
  simp [hi]

theorem checkOfFrame_encodeFrame (k : NoticeKind) (n : Notice) : checkOfFrame (encodeFrame k n) = crc8 (frameBody k n) := by
  refine BitVec.eq_of_getLsbD_eq (fun i hi => ?_)
  simp only [checkOfFrame, encodeFrame, BitVec.getLsbD_extractLsb', BitVec.getLsbD_append]
  simp [hi]

theorem kindOfCode_kindCode (k : NoticeKind) : kindOfCode (kindCode k) = some k := by cases k <;> rfl

theorem phaseOfCode_phaseCode (p : Phase) : phaseOfCode (phaseCode p) = some p := by cases p <;> rfl

/-! The fields of a coded body, each at its place. -/

section
variable (k : NoticeKind) (n : Notice)

theorem frameBody_kind : (frameBody k n).extractLsb' 45 3 = kindCode k := by
  simp (disch := decide) only [frameBody, BitVec.extractLsb'_append_eq_of_add_le, BitVec.extractLsb'_append_eq_of_le]
  simp

theorem frameBody_phase : (frameBody k n).extractLsb' 42 3 = phaseCode n.phase := by
  simp (disch := decide) only [frameBody, BitVec.extractLsb'_append_eq_of_add_le, BitVec.extractLsb'_append_eq_of_le]
  simp

theorem frameBody_class : ((frameBody k n).extractLsb' 53 2).toFin = n.cls := by
  simp (disch := decide) only [frameBody, BitVec.extractLsb'_append_eq_of_le]
  simp

theorem frameBody_slot : ((frameBody k n).extractLsb' 48 5).toFin = n.slot := by
  simp (disch := decide) only [frameBody, BitVec.extractLsb'_append_eq_of_add_le, BitVec.extractLsb'_append_eq_of_le]
  simp

theorem frameBody_claim : ((frameBody k n).extractLsb' 28 10).toFin = n.claim := by
  simp (disch := decide) only [frameBody, BitVec.extractLsb'_append_eq_of_add_le, BitVec.extractLsb'_append_eq_of_le]
  simp

theorem frameBody_amount : ((frameBody k n).extractLsb' 18 10).toFin = n.amount := by
  simp (disch := decide) only [frameBody, BitVec.extractLsb'_append_eq_of_add_le, BitVec.extractLsb'_append_eq_of_le]
  simp

theorem frameBody_capacity : ((frameBody k n).extractLsb' 6 12).toFin = n.capacity := by
  simp (disch := decide) only [frameBody, BitVec.extractLsb'_append_eq_of_add_le, BitVec.extractLsb'_append_eq_of_le]
  simp

theorem frameBody_mateSlot : ((frameBody k n).extractLsb' 0 5).toFin = n.mate.getD 0 := by
  simp (disch := decide) only [frameBody, BitVec.extractLsb'_append_eq_of_add_le]
  simp

theorem frameBody_profile : (frameBody k n).getLsbD 41 = levelIsFull n.profile := by
  simp only [frameBody, BitVec.getLsbD_append]
  simp
theorem frameBody_bidOpen : (frameBody k n).getLsbD 40 = n.bidOpen := by
  simp only [frameBody, BitVec.getLsbD_append]
  simp
theorem frameBody_carrying : (frameBody k n).getLsbD 39 = n.carrying := by
  simp only [frameBody, BitVec.getLsbD_append]
  simp
theorem frameBody_handoverReq : (frameBody k n).getLsbD 38 = n.handoverReq := by
  simp only [frameBody, BitVec.getLsbD_append]
  simp
theorem frameBody_matePresent : (frameBody k n).getLsbD 5 = n.mate.isSome := by
  simp only [frameBody, BitVec.getLsbD_append]
  simp

theorem contentsOfBody_frameBody : contentsOfBody n.phase (frameBody k n) = n := by
  have hprofile : (if levelIsFull n.profile then PowerLevel.full else .reduced) = n.profile := by cases n.profile <;> rfl
  have hmate : (if n.mate.isSome then some (n.mate.getD 0) else none) = n.mate := by cases n.mate <;> rfl
  simp only [contentsOfBody, frameBody_class, frameBody_slot, frameBody_claim, frameBody_amount, frameBody_capacity, frameBody_mateSlot,
    frameBody_profile, frameBody_bidOpen, frameBody_carrying, frameBody_handoverReq, frameBody_matePresent, hprofile, hmate]

end

/-- Settles O9: a coded frame's check field matches its body, whose fields stand where the decoder takes them. -/
theorem frameDecodesAsCoded : Obligations.FrameDecodesAsCoded := by
  unfold Obligations.FrameDecodesAsCoded
  refine fun k n => ⟨?_, ?_⟩
  · simp only [decodeFrame, bodyOfFrame_encodeFrame, checkOfFrame_encodeFrame, frameBody_kind, frameBody_phase, kindOfCode_kindCode,
      phaseOfCode_phaseCode, contentsOfBody_frameBody, if_pos]
  · exact BitVec.msb_append.trans (by rw [if_neg (by decide), BitVec.msb_append]; rfl)

/-! ## The power-on reset -/

theorem initialFeeds_isIn (f : Feed) (st : FeedState) : f.isIn st = true ↔ f.state = st := by simp [Feed.isIn]

/-- Settles O10. -/
theorem powerOnResetsEveryBlock : Obligations.PowerOnResetsEveryBlock := by
  unfold Obligations.PowerOnResetsEveryBlock
  refine fun seated x a s => ⟨powerOn seated x a s, rfl, rfl, rfl, rfl, rfl, rfl, rfl, rfl, rfl, ?_, rfl, rfl, rfl, rfl, rfl, rfl, rfl, rfl,
    rfl, rfl⟩
  show (if (classifiedFeed x.feedA).isIn .good || (classifiedFeed x.feedB).isIn .good then none else some rideMs) = _
  simp only [Bool.or_eq_true, initialFeeds_isIn]
  rfl

/-! ## Seating before LOADING -/

/-- Settles O12: before and after the event the station is silent. -/
theorem seatingBeforeLoading : Obligations.SeatingBeforeLoading := by
  unfold Obligations.SeatingBeforeLoading
  refine fun s => ⟨fun hu => ?_, fun hset hs => ?_⟩
  · show answer s (if s.sc.start = .unseated then _ else s) = _
    rw [if_pos hu]
    refine (answer_of_silent ?_ rfl rfl).trans ?_
    · exact ⟨rfl, rfl, rfl, by simp [hu], by simp [hu], rfl, rfl⟩
    cases hf : s.sli.inFlight with
    | none => simp [seatedAgainLine, purgeQueue, dropInFlight, settleMs, hf]
    | some f => simp [seatedAgainLine, purgeQueue, dropInFlight, settleMs, hf]
  · show execLossOfSeating s = _
    have hsilent : silent s = true := (silent_eq_true_iff s).2 (.inl (by simp [hset]))
    rw [execLossOfSeating_settling s hset]
    refine answer_of_sameRecord ?_ (fun _ => hs.1 hsilent) hs.2
    exact ⟨rfl, rfl, rfl, by simp [hset, returnToUnseated], by simp [hset, returnToUnseated], rfl, rfl⟩

end Sys2Proof.Machine

/-! The sums of the view, the budget arithmetic, the requests for notices and the events that act on one field alone. -/

namespace Sys2Proof.Machine

/-! ## The sums of the view -/

/-- An entry written stands beside the entries of the other slots, in some place. -/
theorem insertEntry_perm (e : Entry) (t : List Entry) (h : ascending t = true) : (insertEntry e t).Perm (e :: removeEntry e.slot t) := by
  rw [ascending_iff] at h
  induction t with
  | nil => simp [insertEntry, removeEntry]
  | cons x xs ih =>
    obtain ⟨hx, hxs⟩ := List.pairwise_cons.1 h
    unfold insertEntry
    split
    · next hlt =>
      have hkeep : removeEntry e.slot (x :: xs) = x :: xs := by
        refine List.filter_eq_self.2 (fun y hy => ?_)
        have hlt' : e.slot < y.slot := by
          rcases List.mem_cons.1 hy with rfl | hy
          · exact hlt
          · exact hlt.trans (hx y hy)
        simpa using hlt'.ne'
      rw [hkeep]
    · split
      · next hlt heq =>
        have hkeep : removeEntry e.slot (x :: xs) = xs := by
          have hself : removeEntry e.slot xs = xs := by
            refine List.filter_eq_self.2 (fun y hy => ?_)
            simpa [heq] using (hx y hy).ne'
          rw [removeEntry, List.filter_cons_of_neg (by simp [heq])]
          exact hself
        rw [hkeep]
      · next hlt hne =>
        have hcons : removeEntry e.slot (x :: xs) = x :: removeEntry e.slot xs := by
          rw [removeEntry, List.filter_cons_of_pos (by simpa using Ne.symm hne)]
          rfl
        rw [hcons]
        exact ((ih hxs).cons x).trans (.swap _ _ _)

theorem loadOf_eq (e : Entry) : loadOf e = if e.phase = .waiting ∨ e.phase = .stopped then 0 else e.claim.val := by
  unfold loadOf
  cases e.phase <;> simp [phaseLoads]

/-- The least valid capacity does not depend on the order of the table. -/
theorem cMin_perm (f : Nat) {t u : List Entry} (h : t.Perm u) : cMin f t = cMin f u := by
  unfold cMin
  refine h.foldl_eq' (fun x _ y _ m => ?_) f
  cases x.capValid <;> cases y.capValid <;> simp [min_right_comm]

theorem cMin_min (f g : Nat) (t : List Entry) : cMin (min f g) t = min g (cMin f t) := by
  induction t generalizing f with
  | nil => simp [cMin, min_comm]
  | cons x xs ih =>
    simp only [cMin, List.foldl_cons] at *
    split
    · rw [min_right_comm, ih]
    · rw [ih]

/-- Settles O33. -/
theorem sumsFollowTheTable : Obligations.SumsFollowTheTable := by
  unfold Obligations.SumsFollowTheTable
  intro e rank f t h
  have hp := insertEntry_perm e t h
  refine ⟨?_, ?_, ?_, ?_, ?_, rfl, rfl, rfl, rfl, rfl, fun p => ⟨fun hle => ?_, fun hle => ?_⟩⟩
  · rw [committedLoad, (hp.map _).sum_eq, List.map_cons, List.sum_cons, loadOf_eq, add_comm]
    rfl
  · rw [prechargingCount, (hp.filter _).length_eq, List.filter_cons]
    simp only [decide_eq_true_eq]
    split <;> simp [prechargingCount]
  · rw [cMin_perm f hp, cMin, List.foldl_cons]
    split
    · exact cMin_min f e.capacity.val _
    · rfl
  · rw [betterBids, (hp.map _).sum_eq, List.map_cons, List.sum_cons, add_comm]
    congr 1
    simp only [betterBid, Entry.rank]
    split <;> simp [*]
  · rw [betterInitialBids, (hp.filter _).length_eq, List.filter_cons]
    simp only [betterBid, Entry.rank]
    by_cases hr : e.cls.val * 32 + e.slot.val < rank <;> by_cases hb : e.bid.isSome = true <;> by_cases hw : e.phase = .waiting <;>
      simp [hr, hb, hw, betterInitialBids, betterBid, Entry.rank]
  · exact Nat.sub_add_cancel hle
  · exact Nat.sub_eq_zero_of_le hle

/-! ## The budget arithmetic -/

theorem profileChoice_full {p : ProfileData} {vC : Nat} {h : Int} (hc : profileChoice p vC h = some .full) : (sFull p vC : Int) ≤ h := by
  unfold profileChoice at hc
  split at hc
  · assumption
  · split at hc
    · split at hc <;> simp at hc
    · simp at hc

theorem profileChoice_reduced {p : ProfileData} {vC : Nat} {h : Int} (hc : profileChoice p vC h = some .reduced) :
    h < sFull p vC ∧ ∃ r, sRed p vC = some r ∧ (r : Int) ≤ h := by
  unfold profileChoice at hc
  split at hc
  · simp at hc
  · next hlt =>
    split at hc
    · next r hr =>
      split at hc
      · next hle => exact ⟨by omega, r, hr, hle⟩
      · simp at hc
    · simp at hc

/-- What an evaluation that gives a setpoint has found (R63, R64, R65). -/
theorem evaluate_setpoint {p : ProfileData} {vC vF : Nat} {gate : Bool} {h : Int} {level : PowerLevel} {iSet resv : Nat}
    (he : evaluate p vC vF gate h = .setpoint level iSet resv) :
    profileChoice p vC h = some level ∧ gate = true ∧ iSet = min p.iMax (min (passLimit p vF) h.toNat) ∧ p.iMin ≤ iSet
      ∧ resv = max (steadyClaim p vC level) iSet := by
  unfold evaluate at he
  split at he
  · simp at he
  · next l hl =>
    split at he
    · next hg =>
      dsimp only at he
      split at he
      · simp at he
      · next hm =>
        simp only [Evaluation.setpoint.injEq] at he
        obtain ⟨rfl, rfl, rfl⟩ := he
        exact ⟨hl, hg, rfl, by omega, rfl⟩
    · simp at he

theorem mul_passLimit_le (p : ProfileData) (vF i : Nat) (h : i ≤ passLimit p vF) : vF * i ≤ 100 * p.pPk :=
  (Nat.mul_le_mul_left vF h).trans (Nat.mul_div_le _ _)

/-- Settles O37. -/
theorem setpointStaysWithinItsLimits : Obligations.SetpointStaysWithinItsLimits := by
  unfold Obligations.SetpointStaysWithinItsLimits
  intro p vC vF gate h level iSet resv hv he
  obtain ⟨hchoice, hgate, hset, hmin, hresv⟩ := evaluate_setpoint he
  have hpass : iSet ≤ passLimit p vF := by omega
  have hleast : iSet = p.iMax ∨ iSet = passLimit p vF ∨ iSet = h.toNat := by omega
  have hmax : iSet ≤ p.iMax := by omega
  have hroom : iSet ≤ h.toNat := by omega
  have hiSet : (iSet : Int) ≤ h := by
    have : 0 ≤ h := by
      by_contra hn
      have hlt : h < 0 := by omega
      cases level with
      | full => have := profileChoice_full hchoice; omega
      | reduced =>
        obtain ⟨-, r, -, hle⟩ := profileChoice_reduced hchoice
        omega
    omega
  have hsteady : (steadyClaim p vC level : Int) ≤ h ∧ (level = .full ∧ (sFull p vC : Int) ≤ h
      ∨ level = .reduced ∧ h < sFull p vC ∧ ∃ r ≤ resv, sRed p vC = some r ∧ (r : Int) ≤ h) := by
    cases level with
    | full => exact ⟨profileChoice_full hchoice, .inl ⟨rfl, profileChoice_full hchoice⟩⟩
    | reduced =>
      obtain ⟨hlt, r, hr, hle⟩ := profileChoice_reduced hchoice
      refine ⟨by simpa [steadyClaim, hr] using hle, .inr ⟨rfl, hlt, r, ?_, hr, hle⟩⟩
      rw [hresv]
      simp [steadyClaim, hr]
  obtain ⟨hclaim, hlevel⟩ := hsteady
  refine ⟨hgate, hlevel, hmin, hmax, mul_passLimit_le p vF iSet hpass, hiSet, ?_, ?_, ?_, fun hp hvf => ?_⟩
  · rcases hleast with h' | h' | h'
    · exact .inl h'
    · exact .inr (.inl h')
    · exact .inr (.inr (by omega))
  · rw [hresv]
    cases level <;> rfl
  · rw [hresv, Nat.cast_max]
    exact max_le hclaim hiSet
  · have := mul_passLimit_le p vF iSet hpass
    by_contra hc
    have : 360 * 223 ≤ vF * iSet := Nat.mul_le_mul hvf (by omega)
    omega

/-- Division rounded up is the least multiple's count. -/
theorem ceilDiv_bounds (a b : Nat) (hb : 0 < b) (ha : 0 < a) : a ≤ ceilDiv a b * b ∧ (ceilDiv a b - 1) * b < a ∧ 1 ≤ ceilDiv a b := by
  unfold ceilDiv
  have hdiv := Nat.div_add_mod (a + b - 1) b
  have hmod := Nat.mod_lt (a + b - 1) hb
  have hone : 1 ≤ (a + b - 1) / b := (Nat.one_le_div_iff hb).2 (by omega)
  rw [Nat.mul_comm b] at hdiv
  refine ⟨by omega, ?_, hone⟩
  rw [Nat.sub_mul, Nat.one_mul]
  omega

/-- The least claim of a power and the greatest, at the claim voltages of R58. -/
theorem ceilDiv_le {a b n : Nat} (hb : 0 < b) (h : a ≤ n * b) : ceilDiv a b ≤ n := by
  unfold ceilDiv
  refine Nat.le_of_lt_succ ((Nat.div_lt_iff_lt_mul hb).2 ?_)
  rw [Nat.succ_mul]
  omega

theorem le_ceilDiv {a b n : Nat} (hb : 0 < b) (h : n * b < a) : n + 1 ≤ ceilDiv a b := by
  unfold ceilDiv
  refine (Nat.le_div_iff_mul_le hb).2 ?_
  rw [Nat.add_mul]
  omega

/-- The steady claim of a power in its range at a claim voltage in its range (R59). -/
theorem claim_bounds (w v : Nat) (hw : 10 ≤ w) (hw' : w ≤ 1500) (hv : 360 ≤ v) (hv' : v ≤ 600) :
    100 * w ≤ ceilDiv (100 * w) v * v ∧ (ceilDiv (100 * w) v - 1) * v < 100 * w ∧ 2 ≤ ceilDiv (100 * w) v
      ∧ ceilDiv (100 * w) v ≤ 417 := by
  obtain ⟨h1, h2, -⟩ := ceilDiv_bounds (100 * w) v (by omega) (by omega)
  exact ⟨h1, h2, le_ceilDiv (by omega) (by omega), ceilDiv_le (by omega) (by omega)⟩

theorem ceilDiv_mono {a a' b : Nat} (h : a ≤ a') : ceilDiv a b ≤ ceilDiv a' b := Nat.div_le_div_right (by omega)

theorem claimVoltage_range (p : ProfileData) (vMin : Nat) (h : 360 ≤ p.vPlan) (h' : p.vPlan ≤ 600) :
    360 ≤ claimVoltage p vMin ∧ claimVoltage p vMin ≤ 600 ∧ (vMin ≤ 360 → claimVoltage p vMin = 360)
      ∧ (p.vPlan ≤ vMin → claimVoltage p vMin = p.vPlan) ∧ (360 ≤ vMin → vMin ≤ p.vPlan → claimVoltage p vMin = vMin) := by
  unfold claimVoltage
  omega

theorem nominalPrecharge_bounds (cB vF iSet : Nat) (h1 : 100 ≤ cB) (h2 : cB ≤ 20000) (h3 : 360 ≤ vF) (h4 : vF ≤ 1023) (h5 : 5 ≤ iSet) :
    cB * vF ≤ nominalPrecharge cB vF iSet * (1000 * iSet) ∧ (nominalPrecharge cB vF iSet - 1) * (1000 * iSet) < cB * vF
      ∧ 1 ≤ nominalPrecharge cB vF iSet ∧ nominalPrecharge cB vF iSet ≤ 4092 := by
  have hpos : 100 * 360 ≤ cB * vF := Nat.mul_le_mul h1 h3
  have htop : cB * vF ≤ 20000 * 1023 := Nat.mul_le_mul h2 h4
  obtain ⟨hle, hlt, hone⟩ := ceilDiv_bounds (cB * vF) (1000 * iSet) (by omega) (by omega)
  exact ⟨hle, hlt, hone, ceilDiv_le (by omega) (by omega)⟩

/-- Settles O38. -/
theorem claimsAndPrechargeTimesRoundUp : Obligations.ClaimsAndPrechargeTimesRoundUp := by
  unfold Obligations.ClaimsAndPrechargeTimesRoundUp
  refine ⟨fun p vMin hv hv' hf hf' hr => ?_, fun cB vF iSet h1 h2 h3 h4 h5 _ => ?_⟩
  · obtain ⟨hlo, hhi, hlow, hplan, hmid⟩ := claimVoltage_range p vMin hv hv'
    obtain ⟨c1, c2, c3, c4⟩ := claim_bounds p.pFull (claimVoltage p vMin) hf hf' hlo hhi
    refine ⟨hlo, hhi, hlow, hplan, hmid, c1, c2, c3, c4, fun hn => by simp [sRed, hn], fun r hred => ?_⟩
    obtain ⟨hten, hless⟩ := hr r hred
    obtain ⟨d1, d2, d3, d4⟩ := claim_bounds r (claimVoltage p vMin) hten (by omega) hlo hhi
    exact ⟨_, d4, by simp [sRed, hred], d1, d2, d3, ceilDiv_mono (by omega)⟩
  · obtain ⟨hle, hlt, hone, htop⟩ := nominalPrecharge_bounds cB vF iSet h1 h2 h3 h4 h5
    unfold prechargeDeadline
    exact ⟨hle, hlt, hone, htop, fun h => min_eq_left h, fun h => min_eq_right h.le, by omega⟩

end Sys2Proof.Machine

/-! Requests for notices, the line's counts and timers, and the events that act on one field alone. -/

namespace Sys2Proof.Machine

/-- Settles O20. -/
theorem requestsJoinTheQueue : Obligations.RequestsJoinTheQueue := by
  unfold Obligations.RequestsJoinTheQueue
  intro k s hk
  refine ⟨requestNotice_discarded k s, fun hs hl => ?_⟩
  have htaken := requestNotice_taken k s ⟨hs, hl⟩
  have hjoins (hy : k = .yield → isQueued .bid s.sli.queue = false) : queueAfter k s.sli.queue = joinTail k s.sli.queue := by
    cases k with
    | yield => simp [queueAfter, hy rfl]
    | standing | bid | leave => rfl
  refine ⟨fun hq hy => ?_, fun hq hy => ?_, fun hy hb => ?_⟩
  · rw [htaken, hjoins hy, joinTail_of_queued k _ hq]
  · rw [htaken, hjoins hy, joinTail, if_neg (by simp [hq])]
  · rw [htaken, hy]
    simp [queueAfter, hb, dequeue]

/-! ## The line's counts and timers -/

/-- A change of the line's own counts: the queue, the notice in flight and the periodic timer stand. -/
theorem answer_of_counts {s : State} (hs : Settled s) (l : LineInterface) (hq : l.queue = s.sli.queue) (hp : l.periodic = s.sli.periodic) :
    answer s { s with sli := l } = .next { s with sli := l } := by
  refine answer_of_sameRecord ⟨rfl, rfl, rfl, .rfl, .rfl, rfl, rfl⟩ (fun h => ?_) ?_
  · exact hp.trans (hs.1 h)
  · rw [show State.sli { s with sli := l } = l from rfl, hq]
    exact hs.2

/-- A change of the head notice's marks by TRANSMIT_CONGESTION leaves nothing due. -/
theorem execTransmitCongestion_due (h : Queued) (rest : List Queued) (s : State) (hs : Settled s) (hw : 250 ≤ h.waited)
    (hc : h.congested = false) :
    execTransmitCongestion { s with sli := { s.sli with queue := h :: rest } } = .next
      { s with sli := { s.sli with queue := { h with congested := true } :: rest },
               lpi := { s.lpi with flags := s.lpi.flags ||| flagWord .line } } := by
  have hmax : max h.waited congestionMs = h.waited := max_eq_left hw
  unfold execTransmitCongestion
  simp only [hc, hmax]
  refine answer_of_sameRecord ⟨rfl, rfl, rfl, .rfl, .rfl, rfl, rfl⟩ hs.1 ?_
  simp [raise, congestionDue]

theorem execTransmitCongestion_done (h : Queued) (rest : List Queued) (s : State) (hs : Settled s) (hc : h.congested = true) :
    execTransmitCongestion { s with sli := { s.sli with queue := h :: rest } } = .next { s with sli := { s.sli with queue := h :: rest } } := by
  unfold execTransmitCongestion
  simp only [hc]
  exact answer_self ⟨hs.1, by simp [congestionDue, hc]⟩

theorem execPeriodicNoticeExpiry_running (s : State) (hs : Settled s) (hr : Requests s) (hp : s.sli.periodic.isSome = true) :
    execPeriodicNoticeExpiry s = .next { s with sli := { s.sli with periodic := some 50, queue := joinTail .standing s.sli.queue } } := by
  unfold execPeriodicNoticeExpiry
  rw [if_pos (show running s.sli.periodic = true from hp)]
  refine (congrArg (answer s) (requestNotice_taken .standing { s with sli := { s.sli with periodic := some periodicMs } } hr)).trans ?_
  refine answer_of_sameRecord ⟨rfl, rfl, rfl, .rfl, .rfl, rfl, rfl⟩ (fun h => ?_) (congestionDue_joinTail _ _ hs.2)
  have hsilent : silent s = true := h
  simp [hr.1] at hsilent

/-- Settles O28. -/
theorem lineCountsAndTimers : Obligations.LineCountsAndTimers := by
  unfold Obligations.LineCountsAndTimers
  intro h rest s hs
  refine ⟨fun hi hg => ⟨?_, ?_⟩, fun hi hg => ?_, fun h1 h2 => ?_, execTransmitCongestion_due h rest s hs, execTransmitCongestion_done h rest s hs,
    execPeriodicNoticeExpiry_running s hs⟩
  · show execGapComplete s = _
    rw [execGapComplete, if_pos (.inl ⟨hi, hg⟩)]
    refine (answer_of_counts hs (completedGap s.sli) rfl rfl).trans ?_
    unfold completedGap
    cases s.sli.clashWait <;> simp [hi, gapBits]
  · show execDisturbance s = _
    rw [execDisturbance, if_pos ⟨hi, hg⟩]
    cases hseen : s.sli.gapSeen
    · exact answer_of_counts hs _ rfl rfl
    · exact answer_of_counts hs _ rfl rfl
  · show execStartBit s = _
    rw [execStartBit, if_pos ⟨hi, hg⟩]
    exact answer_of_counts hs _ rfl rfl
  · show execClashWaitExpiry s = _
    unfold execClashWaitExpiry
    cases hw : s.sli.clashWait with
    | stopped => exact absurd hw h1
    | awaitingGap ms => exact absurd hw (h2 ms)
    | running ms => exact answer_of_counts hs _ rfl rfl

/-! ## Single inputs and holds -/

theorem answer_of_inputs {s : State} (hs : Settled s) (i : Inputs) : answer s { s with inp := i } = .next { s with inp := i } :=
  answer_of_kept hs ⟨rfl, rfl, rfl, .rfl, .rfl, rfl, rfl⟩ rfl

/-- A hold's end changes nothing that is announced (R73, R93). -/
theorem answer_of_hold {s : State} (hs : Settled s) (upgradeHold retryHold : Timer) :
    answer s { s with ae := { s.ae with upgradeHold := upgradeHold, retryHold := retryHold } }
      = .next { s with ae := { s.ae with upgradeHold := upgradeHold, retryHold := retryHold } } :=
  congrArg Host.Outcome.next (settle_of_unannounced _ _ (standingDue_self s) rfl hs.1 hs.2 rfl)

theorem standingDue_of_carrying {s u : State} (hclaim : ownClaim u = ownClaim s) (hprofile : u.ae.profile = s.ae.profile)
    (hbid : u.ae.bid = s.ae.bid) (hreq : u.rc.handoverReq = s.rc.handoverReq) :
    standingDue s u = (s.ae.carrying != u.ae.carrying) := by
  simp [standingDue, hclaim, hprofile, bidOpen, hbid, hreq]

/-- A change of CARRYING requests a STANDING (R41, R76). -/
theorem execCarryingChange_running (level : Bool) (s : State) (hs : Settled s) (he : s.ae.engine ≠ .none) (hr : Requests s) :
    execCarryingChange level s = .next
      { s with inp := { s.inp with carryingLevel := level, carryingSettled := true }, ae := { s.ae with carrying := level },
               sli := { s.sli with queue := if level = s.ae.carrying then s.sli.queue else joinTail .standing s.sli.queue } } := by
  unfold execCarryingChange
  rw [if_neg he]
  refine congrArg Host.Outcome.next ((settle_of_requests ?_ hr.1 ?_ ?_).trans ?_)
  · exact hr
  · exact hs.2
  · rfl
  · rw [standingDue_of_carrying]
    · by_cases hl : level = s.ae.carrying
      · simp [hl]
      · have : (s.ae.carrying != level) = true := by simpa using Ne.symm hl
        simp [hl, this]
    all_goals rfl

/-- Settles O44. -/
theorem singleInputsAndHolds : Obligations.SingleInputsAndHolds := by
  unfold Obligations.SingleInputsAndHolds
  intro level rails ready s hs
  refine ⟨answer_of_hold hs none s.ae.retryHold, answer_of_hold hs s.ae.upgradeHold none, fun h => ?_, fun h => ?_, fun h => ?_,
    answer_of_inputs hs _, fun h => ?_, execCarryingChange_running level s hs⟩
  · refine Eq.trans ?_ (answer_of_inputs hs { s.inp with profAck := level })
    show execProfAckChange level s = _
    rw [execProfAckChange, if_neg]
    rintro ⟨h1, h2⟩
    rcases h with h | h
    · exact h h1
    · simp [h] at h2
  · refine Eq.trans ?_ (answer_of_inputs hs { s.inp with quiesced := level })
    show execQuiescedRise level s = _
    rw [execQuiescedRise, if_neg]
    rintro ⟨h1, h2⟩
    rcases h with h | h
    · exact h h1
    · simp [h] at h2
  · refine Eq.trans ?_ (answer_of_inputs hs { s.inp with railPg := rails, payReady := ready })
    show execConditionInputChange rails ready s = _
    rw [execConditionInputChange, if_neg]
    rintro ⟨h1, h2⟩
    rcases h with h | h
    · exact h h1
    · exact h h2
  · refine Eq.trans ?_ (answer_of_inputs hs { s.inp with carryingLevel := level, carryingSettled := true })
    show execCarryingChange level s = _
    rw [execCarryingChange, if_pos h]

end Sys2Proof.Machine

/-! The profile taken from a valid image (chapter 09, R121, R163, R186, R187). -/

namespace Sys2Proof.Machine

/-! ## The step table -/

/-- What a step record read from the image holds (R120, R187). -/
structure ReadsAs (img : List Byte) (i : Nat) (r : StepRecord) : Prop where
  action : actionOfByte (imageByte img (36 + 6 * i)) = some r.action
  cond : conditionOfByte (imageByte img (37 + 6 * i)) = some r.cond
  paced : r.paced = true ↔ 128 ≤ imageByte img (37 + 6 * i)
  dwell : r.dwell = 4 * imageByte img (38 + 6 * i)
  teardown : r.teardown = 4 * imageByte img (41 + 6 * i)
  timeout : r.timeout = max 10 (min (imageWord img (39 + 6 * i)) 5000)

/-- A timeout stored out of its range (R121). -/
def timeoutOut (img : List Byte) (i : Nat) : Prop := imageWord img (39 + 6 * i) < 10 ∨ 5000 < imageWord img (39 + 6 * i)

theorem stepAt_reads {img : List Byte} {i : Nat} {r : StepRecord} {c : Bool} (h : stepAt img (i + 1) = some (r, c)) :
    ReadsAs img i r ∧ (c = true ↔ timeoutOut img i) := by
  have hat : 30 + 6 * (i + 1) = 36 + 6 * i := by omega
  unfold stepAt at h
  dsimp only at h
  rw [hat] at h
  split at h
  · next a cd ha hc =>
    simp only [Option.some.injEq, Prod.mk.injEq] at h
    obtain ⟨rfl, rfl⟩ := h
    have h1 : 36 + 6 * i + 1 = 37 + 6 * i := by omega
    have h2 : 36 + 6 * i + 2 = 38 + 6 * i := by omega
    have h3 : 36 + 6 * i + 3 = 39 + 6 * i := by omega
    have h5 : 36 + 6 * i + 5 = 41 + 6 * i := by omega
    rw [h1] at hc
    refine ⟨⟨ha, hc, ?_, ?_, ?_, ?_⟩, ?_⟩
    · simp [h1]
    · simp [h2]
    · simp [h5]
    · simp [h3, clampTo]
    · simp [h3, clampTo, timeoutOut]
  · simp at h

/-- The records of a table as far as it is read (R186). -/
theorem stepsUpTo_reads {img : List Byte} {n : Nat} {rs : List StepRecord} {c : Bool} (h : stepsUpTo img n = some (rs, c)) :
    rs.length = n ∧ (∀ i < n, ∃ r, rs[i]? = some r ∧ ReadsAs img i r) ∧ (c = true ↔ ∃ i < n, timeoutOut img i) := by
  induction n generalizing rs c with
  | zero =>
    simp only [stepsUpTo, Option.some.injEq, Prod.mk.injEq] at h
    obtain ⟨rfl, rfl⟩ := h
    simp
  | succ n ih =>
    unfold stepsUpTo at h
    split at h
    · next rs' c' r d hn hr =>
      simp only [Option.some.injEq, Prod.mk.injEq] at h
      obtain ⟨rfl, rfl⟩ := h
      obtain ⟨hlen, hread, hclamped⟩ := ih hn
      obtain ⟨hreads, hout⟩ := stepAt_reads hr
      refine ⟨by simp [hlen], fun i hi => ?_, ?_⟩
      · rcases Nat.lt_succ_iff_lt_or_eq.1 hi with hlt | rfl
        · obtain ⟨q, hq, hqr⟩ := hread i hlt
          exact ⟨q, by rw [List.getElem?_append_left (by omega)]; exact hq, hqr⟩
        · exact ⟨r, by simp [← hlen], hreads⟩
      · rw [Bool.or_eq_true, hclamped, hout]
        simp only [Nat.lt_succ_iff_lt_or_eq, or_and_right, exists_or, exists_eq_left]
    · simp at h

/-- Record `i` repeats the action of an earlier one, or of the list before the table (R121). -/
def repeatsAction (earlier : List StepAction) (rs : List StepRecord) (i : Nat) : Prop :=
  ∃ r, rs[i]? = some r ∧ r.action ≠ .note ∧ (r.action ∈ earlier ∨ ∃ j < i, ∃ q, rs[j]? = some q ∧ q.action = r.action)

theorem repeatsAction_zero (earlier : List StepAction) (x : StepRecord) (xs : List StepRecord) :
    repeatsAction earlier (x :: xs) 0 ↔ x.action ≠ .note ∧ x.action ∈ earlier := by simp [repeatsAction]

theorem repeatsAction_succ (earlier : List StepAction) (x : StepRecord) (xs : List StepRecord) (i : Nat) :
    repeatsAction earlier (x :: xs) (i + 1) ↔ repeatsAction (x.action :: earlier) xs i := by
  unfold repeatsAction
  simp only [List.getElem?_cons_succ, List.mem_cons]
  refine exists_congr (fun r => and_congr_right (fun _ => and_congr_right (fun _ => ?_)))
  constructor
  · rintro (h | ⟨j, hj, q, hq, hqr⟩)
    · exact .inl (.inr h)
    · cases j with
      | zero =>
        simp only [List.getElem?_cons_zero, Option.some.injEq] at hq
        exact .inl (.inl (hq ▸ hqr.symm))
      | succ j => exact .inr ⟨j, by omega, q, by simpa using hq, hqr⟩
  · rintro ((h | h) | ⟨j, hj, q, hq, hqr⟩)
    · exact .inr ⟨0, by omega, x, rfl, h.symm⟩
    · exact .inl h
    · exact .inr ⟨j + 1, by omega, q, by simpa using hq, hqr⟩

theorem withoutRepeats_length (earlier : List StepAction) (rs : List StepRecord) : (withoutRepeats earlier rs).1.length = rs.length := by
  induction rs generalizing earlier with
  | nil => rfl
  | cons x xs ih => simp [withoutRepeats, ih]

/-- A record as loaded: NOTE where it repeats an action, else as read (R121). -/
theorem withoutRepeats_getElem? (earlier : List StepAction) (rs : List StepRecord) (i : Nat) (r : StepRecord) (h : rs[i]? = some r) :
    (repeatsAction earlier rs i → (withoutRepeats earlier rs).1[i]? = some { r with action := .note })
      ∧ (¬ repeatsAction earlier rs i → (withoutRepeats earlier rs).1[i]? = some r) := by
  induction rs generalizing earlier i with
  | nil => simp at h
  | cons x xs ih =>
    cases i with
    | zero =>
      simp only [List.getElem?_cons_zero, Option.some.injEq] at h
      subst h
      rw [repeatsAction_zero]
      simp only [withoutRepeats, List.getElem?_cons_zero, Option.some.injEq, Bool.and_eq_true, decide_eq_true_eq, List.contains_iff_mem]
      exact ⟨fun hr => if_pos hr, fun hr => if_neg hr⟩
    | succ i =>
      rw [repeatsAction_succ]
      simpa [withoutRepeats] using ih (x.action :: earlier) i (by simpa using h)

theorem withoutRepeats_flag (earlier : List StepAction) (rs : List StepRecord) :
    (withoutRepeats earlier rs).2 = true ↔ ∃ i < rs.length, repeatsAction earlier rs i := by
  induction rs generalizing earlier with
  | nil => simp [withoutRepeats]
  | cons x xs ih =>
    have hcases : (∃ i < (x :: xs).length, repeatsAction earlier (x :: xs) i)
        ↔ repeatsAction earlier (x :: xs) 0 ∨ ∃ i < xs.length, repeatsAction earlier (x :: xs) (i + 1) := by
      constructor
      · rintro ⟨i, hi, h⟩
        cases i with
        | zero => exact .inl h
        | succ i => exact .inr ⟨i, by simpa using hi, h⟩
      · rintro (h | ⟨i, hi, h⟩)
        · exact ⟨0, by simp, h⟩
        · exact ⟨i + 1, by simpa using hi, h⟩
    rw [hcases, repeatsAction_zero]
    simp only [repeatsAction_succ, withoutRepeats, Bool.or_eq_true, ih, Bool.and_eq_true, decide_eq_true_eq, List.contains_iff_mem]

/-- No action but NOTE stands twice in a loaded table (R121). -/
theorem withoutRepeats_pairwise (rs : List StepRecord) :
    ((withoutRepeats [] rs).1.filter (fun r => decide (r.action ≠ .note))).Pairwise (fun r q => r.action ≠ q.action) := by
  rw [List.pairwise_filter, List.pairwise_iff_getElem]
  have hread (i : Nat) (hi : i < (withoutRepeats [] rs).1.length) (hn : (withoutRepeats [] rs).1[i].action ≠ .note) :
      ¬ repeatsAction [] rs i ∧ rs[i]? = some (withoutRepeats [] rs).1[i] := by
    rw [withoutRepeats_length] at hi
    obtain ⟨hrep, hkeep⟩ := withoutRepeats_getElem? [] rs i rs[i] (List.getElem?_eq_getElem hi)
    by_cases hr : repeatsAction [] rs i
    · have := hrep hr
      rw [List.getElem?_eq_getElem (by rw [withoutRepeats_length]; exact hi), Option.some.injEq] at this
      rw [this] at hn
      simp at hn
    · refine ⟨hr, ?_⟩
      have := hkeep hr
      rw [List.getElem?_eq_getElem (by rw [withoutRepeats_length]; exact hi), Option.some.injEq] at this
      rw [this]
      exact List.getElem?_eq_getElem hi
  intro i j hi hj hij hni hnj heq
  obtain ⟨-, hri⟩ := hread i hi (by simpa using hni)
  obtain ⟨hnot, hrj⟩ := hread j hj (by simpa using hnj)
  exact hnot ⟨_, hrj, by simpa using hnj, .inr ⟨i, hij, _, hri, heq⟩⟩

/-- The records' repeats are those of the image's action bytes. -/
theorem repeatsAction_iff {img : List Byte} {rs : List StepRecord} (hread : ∀ i < rs.length, ∃ r, rs[i]? = some r ∧ ReadsAs img i r)
    (n : Nat) (hn : n < rs.length) :
    repeatsAction [] rs n ↔ actionOfByte (imageByte img (36 + 6 * n)) ≠ some .note
      ∧ ∃ m < n, actionOfByte (imageByte img (36 + 6 * m)) = actionOfByte (imageByte img (36 + 6 * n)) := by
  obtain ⟨r, hr, hrr⟩ := hread n hn
  unfold repeatsAction
  rw [hr, hrr.action]
  simp only [Option.some.injEq, exists_eq_left', List.not_mem_nil, false_or, ne_eq]
  refine and_congr_right (fun _ => exists_congr (fun m => and_congr_right (fun hm => ?_)))
  obtain ⟨q, hq, hqr⟩ := hread m (by omega)
  rw [hq, hqr.action]
  simp

/-! ## The values -/

theorem imageByte_lt (img : List Byte) (i : Nat) : imageByte img i ≤ 255 := by
  unfold imageByte
  have := (img.getD i 0).isLt
  omega

theorem clampTo_flag (lo hi v : Nat) : (clampTo lo hi v).2 = true ↔ v < lo ∨ hi < v := by simp [clampTo]

theorem pRedTaken_flag (pFull w : Nat) : (pRedTaken pFull w).2 = true ↔ w ≠ 0 ∧ (w < 10 ∨ pFull ≤ w) := by
  unfold pRedTaken
  split
  · simp [*]
  · split
    · simp [*]
    · split <;> simp [*]

theorem vPlanTaken_flag (w : Nat) : (vPlanTaken w).2 = true ↔ w ≠ 0 ∧ (w < 360 ∨ 600 < w) := by
  unfold vPlanTaken
  split <;> simp [*, clampTo]

theorem pRedTaken_value (pFull w : Nat) (h : 10 ≤ pFull) :
    (∀ r, (pRedTaken pFull w).1 = some r → 10 ≤ r ∧ r < pFull) ∧ (w = 0 ∨ pFull ≤ w → (pRedTaken pFull w).1 = none)
      ∧ (1 ≤ w → w ≤ 9 → (pRedTaken pFull w).1 = if pFull = 10 then none else some 10)
      ∧ (10 ≤ w → w < pFull → (pRedTaken pFull w).1 = some w) := by
  unfold pRedTaken
  split
  · next h0 => subst h0; simp
  · split
    · next hle =>
      refine ⟨by simp, fun _ => rfl, fun _ h9 => ?_, fun _ h' => ?_⟩ <;> omega
    · next hlt =>
      split
      · next h10 =>
        dsimp only
        refine ⟨fun r hr => ?_, fun h' => by omega, fun _ _ => rfl, fun _ _ => by omega⟩
        split at hr
        · simp at hr
        · obtain rfl : 10 = r := by simpa using hr
          omega
      · next h10 =>
        refine ⟨fun r hr => ?_, fun h' => by omega, fun _ _ => by omega, fun _ _ => rfl⟩
        obtain rfl : w = r := by simpa using hr
        omega

theorem vPlanTaken_value (w : Nat) :
    360 ≤ (vPlanTaken w).1 ∧ (vPlanTaken w).1 ≤ 600 ∧ (w = 0 → (vPlanTaken w).1 = 400) ∧ (1 ≤ w → w < 360 → (vPlanTaken w).1 = 360)
      ∧ (600 < w → (vPlanTaken w).1 = 600) ∧ (360 ≤ w → w ≤ 600 → (vPlanTaken w).1 = w) := by
  unfold vPlanTaken clampTo
  split
  · dsimp only; omega
  · dsimp only; omega

/-- What a valid image has passed, and the profile taken from it (R162, R186). -/
theorem loadImage_ok {img : List Byte} {p : ProfileData} {clamped : Bool} (h : loadImage img = .ok (p, clamped)) :
    ∃ rs c, 1 ≤ imageByte img 35 ∧ imageByte img 35 ≤ 12 ∧ stepsUpTo img (imageByte img 35) = some (rs, c)
      ∧ p = (profileOfImage img rs c).1 ∧ clamped = (profileOfImage img rs c).2 := by
  unfold loadImage at h
  split at h
  · cases h
  split at h
  · cases h
  split at h
  · cases h
  dsimp only at h
  split at h
  · cases h
  · next hcount =>
    split at h
    · next rs c hs =>
      simp only [Bool.or_eq_true, decide_eq_true_eq, not_or, not_lt] at hcount
      refine ⟨rs, c, by omega, hcount.2, hs, ?_, ?_⟩ <;> injection h with h <;> rw [h]
    · cases h

/-- A value brought to the nearer end of its range (R163): the value, the stored one and the range. -/
def Ranged (x : Nat × Nat × Nat × Nat) : Prop := x.2.2.1 ≤ x.2.2.2 ∧ x.1 = max x.2.2.1 (min x.2.1 x.2.2.2)

theorem Ranged.takes {x : Nat × Nat × Nat × Nat} (h : Ranged x) : (x.2.1 < x.2.2.1 → x.1 = x.2.2.1) ∧ (x.2.2.2 < x.2.1 → x.1 = x.2.2.2)
    ∧ (x.2.2.1 ≤ x.2.1 → x.2.1 ≤ x.2.2.2 → x.1 = x.2.1) := by
  obtain ⟨hle, hx⟩ := h
  omega

theorem Ranged.within {x : Nat × Nat × Nat × Nat} (h : Ranged x) : x.2.2.1 ≤ x.1 ∧ x.1 ≤ x.2.2.2 := by
  obtain ⟨hle, hx⟩ := h
  omega

/-- The values of a profile that R163 brings to the nearer end of a range, each with the stored one and the range. -/
def rangedValues (img : List Byte) (p : ProfileData) : List (Nat × Nat × Nat × Nat) :=
  [(p.pFull, imageWord img 6, 10, 1500), (p.vSag, imageWord img 12, 360, 500), (p.f, imageWord img 14, 50, 4000),
   (p.rsv, imageWord img 16, 0, 500), (p.u, imageWord img 18, 0, 200), (p.k, imageByte img 5, 1, 4),
   (p.cB, imageWord img 20, 100, 20000), (p.iMax, imageWord img 22, 10, 511), (p.iMin, imageWord img 24, 5, p.iMax),
   (p.pPk, imageWord img 26, 20, 800), (p.iTrip, imageWord img 28, 10, 1023), (p.retryLimit, imageByte img 4, 0, 3),
   (p.tHandover, imageWord img 30, 100, 10000), (p.tQuiesce, imageWord img 32, 100, 60000)]

theorem profileOfImage_iMax (img : List Byte) (rs : List StepRecord) (c : Bool) :
    10 ≤ (profileOfImage img rs c).1.iMax ∧ (profileOfImage img rs c).1.iMax ≤ 511 := by
  show 10 ≤ max 10 (min (imageWord img 22) 511) ∧ max 10 (min (imageWord img 22) 511) ≤ 511
  omega

theorem rangedValues_ranged (img : List Byte) (rs : List StepRecord) (c : Bool) :
    ∀ x ∈ rangedValues img (profileOfImage img rs c).1, Ranged x := by
  have hiMax := (profileOfImage_iMax img rs c).1
  simp only [rangedValues, List.forall_mem_cons, List.not_mem_nil, false_implies, implies_true, and_true]
  refine ⟨⟨by simp, rfl⟩, ⟨by simp, rfl⟩, ⟨by simp, rfl⟩, ⟨by simp, rfl⟩, ⟨by simp, rfl⟩, ⟨by simp, rfl⟩, ⟨by simp, rfl⟩,
    ⟨by simp, rfl⟩, ⟨by dsimp only; omega, rfl⟩, ⟨by simp, rfl⟩, ⟨by simp, rfl⟩, ⟨by simp, rfl⟩, ⟨by simp, rfl⟩, ⟨by simp, rfl⟩⟩

/-- PROFILE_CLAMPED is due exactly where a value or a step was replaced (R163). -/
theorem profileOfImage_clamped (img : List Byte) (rs : List StepRecord) (c : Bool) :
    (profileOfImage img rs c).2 = true ↔
      (∃ x ∈ rangedValues img (profileOfImage img rs c).1, x.2.1 < x.2.2.1 ∨ x.2.2.2 < x.2.1)
        ∨ (imageWord img 10 ≠ 0 ∧ (imageWord img 10 < 360 ∨ 600 < imageWord img 10))
        ∨ (imageWord img 8 ≠ 0 ∧ (imageWord img 8 < 10 ∨ (profileOfImage img rs c).1.pFull ≤ imageWord img 8))
        ∨ c = true ∨ (withoutRepeats [] rs).2 = true := by
  rw [← vPlanTaken_flag, ← pRedTaken_flag]
  simp only [rangedValues, List.exists_mem_cons_iff, List.not_mem_nil, false_and, exists_false, or_false]
  simp only [profileOfImage, Bool.or_eq_true, clampTo_flag]
  refine iff_of_eq ?_
  ac_rfl

theorem mem_withoutRepeats {img : List Byte} {rs : List StepRecord} (hread : ∀ i < rs.length, ∃ r, rs[i]? = some r ∧ ReadsAs img i r)
    {r : StepRecord} (hr : r ∈ (withoutRepeats [] rs).1) : 10 ≤ r.timeout ∧ r.timeout ≤ 5000 ∧ r.dwell ≤ 1020 ∧ r.teardown ≤ 1020 := by
  obtain ⟨i, hi, rfl⟩ := List.mem_iff_getElem.1 hr
  have hi' : i < rs.length := by rwa [withoutRepeats_length] at hi
  obtain ⟨q, hq, hqr⟩ := hread i hi'
  obtain ⟨hrep, hkeep⟩ := withoutRepeats_getElem? [] rs i q hq
  have hsame : (withoutRepeats [] rs).1[i].timeout = q.timeout ∧ (withoutRepeats [] rs).1[i].dwell = q.dwell
      ∧ (withoutRepeats [] rs).1[i].teardown = q.teardown := by
    by_cases h : repeatsAction [] rs i
    · have := hrep h
      rw [List.getElem?_eq_getElem hi, Option.some.injEq] at this
      simp [this]
    · have := hkeep h
      rw [List.getElem?_eq_getElem hi, Option.some.injEq] at this
      simp [this]
  obtain ⟨h1, h2, h3⟩ := hsame
  have hb1 := imageByte_lt img (38 + 6 * i)
  have hb2 := imageByte_lt img (41 + 6 * i)
  rw [h1, h2, h3, hqr.timeout, hqr.dwell, hqr.teardown]
  omega

/-- Settles O16. -/
theorem profileComesIntoRange : Obligations.ProfileComesIntoRange := by
  unfold Obligations.ProfileComesIntoRange
  intro img p clamped h
  obtain ⟨rs, c, hcount, hcount', hsteps, hp, hclamped⟩ := loadImage_ok h
  obtain ⟨hlen, hread, hout⟩ := stepsUpTo_reads hsteps
  have hread' : ∀ i < rs.length, ∃ r, rs[i]? = some r ∧ ReadsAs img i r := by rwa [hlen]
  have hpsteps : p.steps = (withoutRepeats [] rs).1 := by rw [hp]; rfl
  have hplen : p.steps.length = imageByte img 35 := by rw [hpsteps, withoutRepeats_length, hlen]
  have hranged : ∀ x ∈ rangedValues img p, Ranged x := hp ▸ rangedValues_ranged img rs c
  have hpfull : p.pFull = max 10 (min (imageWord img 6) 1500) := by rw [hp]; rfl
  have hpred : p.pRed = (pRedTaken p.pFull (imageWord img 8)).1 := by rw [hp]; rfl
  have hvplan : p.vPlan = (vPlanTaken (imageWord img 10)).1 := by rw [hp]; rfl
  obtain ⟨hred, hrednone, hredlow, hredkept⟩ := pRedTaken_value p.pFull (imageWord img 8) (by omega)
  obtain ⟨hvlo, hvhi, hv0, hvlow, hvhigh, hvkept⟩ := vPlanTaken_value (imageWord img 10)
  rw [← hpred] at hred hrednone hredlow hredkept
  rw [← hvplan] at hvlo hvhi hv0 hvlow hvhigh hvkept
  refine ⟨?_, fun x hx => (hranged x hx).takes, hv0, hvlow, hvhigh, hvkept, hrednone, hredlow, hredkept, ?_, ?_, hplen, ?_, ?_, ?_⟩
  · have hwithin := fun x hx => (hranged x hx).within
    simp only [rangedValues, List.forall_mem_cons, List.not_mem_nil, false_implies, implies_true, and_true] at hwithin
    obtain ⟨hfull, hsag, hf, hrsv, hu, hk, hcB, hiMax, hiMin, hpk, htrip, hretry, hhandover, hquiesce⟩ := hwithin
    refine ⟨hfull.1, hfull.2, hred, hvlo, hvhi, hsag.1, hsag.2, hf.1, hf.2, hrsv.2, hu.2, hk.1, hk.2, hcB.1, hcB.2, hiMax.1, hiMax.2, hiMin.1,
      hiMin.2, hpk.1, hpk.2, htrip.1, htrip.2, hretry.2, hhandover.1, hhandover.2, hquiesce.1, hquiesce.2, hplen ▸ hcount, hplen ▸ hcount',
      fun r hr => mem_withoutRepeats hread' (hpsteps ▸ hr), ?_⟩
    rw [hpsteps]
    exact withoutRepeats_pairwise rs
  · rw [hp]; rfl
  · rw [hp]; rfl
  · rw [hp]; rfl
  · intro n hn
    have hn' : n < rs.length := by omega
    obtain ⟨q, hq, hqr⟩ := hread' n hn'
    obtain ⟨hrep, hkeep⟩ := withoutRepeats_getElem? [] rs n q hq
    dsimp only
    rw [← repeatsAction_iff hread' n hn', hpsteps]
    by_cases hr : repeatsAction [] rs n
    · exact ⟨_, hrep hr, hqr.cond, hqr.paced, hqr.dwell, hqr.teardown, hqr.timeout, fun _ => rfl, fun hn => absurd hr hn⟩
    · exact ⟨_, hkeep hr, hqr.cond, hqr.paced, hqr.dwell, hqr.teardown, hqr.timeout, fun h => absurd h hr, fun _ => hqr.action⟩
  · have hflag : (c = true ∨ (withoutRepeats [] rs).2 = true) ↔ ∃ n < p.steps.length, imageWord img (39 + 6 * n) < 10
        ∨ 5000 < imageWord img (39 + 6 * n) ∨ (actionOfByte (imageByte img (36 + 6 * n)) ≠ some .note
          ∧ ∃ m < n, actionOfByte (imageByte img (36 + 6 * m)) = actionOfByte (imageByte img (36 + 6 * n))) := by
      rw [hout, withoutRepeats_flag, hplen, hlen, ← exists_or]
      refine exists_congr (fun n => ?_)
      rw [← and_or_left, ← or_assoc]
      refine and_congr_right (fun hn => or_congr Iff.rfl ?_)
      exact repeatsAction_iff hread' n (by omega)
    rw [hclamped, profileOfImage_clamped, ← hp, hflag]
    rfl

end Sys2Proof.Machine

/-! The local port's writes (R172, R174, R176, R177, R178, R182): when a byte is taken, and what each register's write leaves. -/

namespace Sys2Proof.Machine

/-! ## Bytes taken and discarded -/

/-- A byte is taken where its own offset byte addresses it, or where it follows in a write transaction that has come to its
register (R172). -/
theorem portTakes_iff (via : Addressing) (o : Byte) (s : State) :
    portTakes via o s = true ↔ via = .addressed ∨ s.lpi.transaction = .writing ∧ s.lpi.offset = o := by
  cases via <;> simp [portTakes]

theorem writeByte_taken {v o : Byte} {via : Addressing} {effect : State → State} {s : State}
    (h : via = .addressed ∨ s.lpi.transaction = .writing ∧ s.lpi.offset = o) :
    writeByte { value := v, via := via } o effect s = effect s := if_pos ((portTakes_iff via o s).2 h)

theorem writeByte_not_taken {v o : Byte} {via : Addressing} {effect : State → State} {s : State}
    (h : ¬ (via = .addressed ∨ s.lpi.transaction = .writing ∧ s.lpi.offset = o)) :
    writeByte { value := v, via := via } o effect s = s := if_neg (mt (portTakes_iff via o s).1 h)

/-! ## Flags and mask, bit by bit -/

theorem getLsbD_flagByte (high : Bool) (v : Byte) {i : Nat} (hi : i < 16) :
    (flagByte high v).getLsbD i = if high then decide (8 ≤ i) && v.getLsbD (i - 8) else decide (i < 8) && v.getLsbD i := by
  cases high
  · simp only [flagByte, Bool.false_eq_true, if_false, BitVec.getLsbD_append]
    by_cases h : i < 8 <;> simp [h]
  · simp only [flagByte, if_true, BitVec.getLsbD_append]
    by_cases h : i < 8
    · simp [h, show ¬ 8 ≤ i by omega]
    · simp [h, show 8 ≤ i by omega]

theorem getLsbD_flagsCleared (flags : BitVec 16) (high : Bool) (v : Byte) {i : Nat} (hi : i < 16) :
    (flagsCleared flags high v).getLsbD i
      = (flags.getLsbD i && !(if high then decide (8 ≤ i) && v.getLsbD (i - 8) else decide (i < 8) && v.getLsbD i)) := by
  simp only [flagsCleared, BitVec.getLsbD_and, BitVec.getLsbD_not, getLsbD_flagByte _ _ hi, hi, decide_true, Bool.true_and]

theorem getLsbD_maskWritten (mask : BitVec 16) (high : Bool) (v : Byte) {i : Nat} (hi : i < 16) :
    (maskWritten mask high v).getLsbD i =
      if high then (if 8 ≤ i then v.getLsbD (i - 8) else mask.getLsbD i)
      else (if i < 8 then v.getLsbD i else mask.getLsbD i) := by
  have hones {j : Nat} (hj : j < 8) : (0xFF : Byte).getLsbD j = true := by
    revert j; decide
  simp only [maskWritten, BitVec.getLsbD_or, BitVec.getLsbD_and, BitVec.getLsbD_not, getLsbD_flagByte _ _ hi, hi, decide_true,
    Bool.true_and]
  cases high
  · by_cases h : i < 8
    · simp only [h, hones h]
      simp
    · simp [h]
  · by_cases h : 8 ≤ i
    · simp only [h, hones (show i - 8 < 8 by omega)]
      simp
    · simp [h]

/-- ALERT is asserted while some flag is set and enabled (R177). -/
theorem alertAsserted_iff (s : State) :
    alertAsserted s = true ↔ ∃ i < 16, s.lpi.flags.getLsbD i = true ∧ s.lpi.mask.getLsbD i = true := by
  have hzero : (s.lpi.flags &&& s.lpi.mask = 0) ↔ ∀ i < 16, (s.lpi.flags &&& s.lpi.mask).getLsbD i = false := by
    refine ⟨fun h i _ => by simp [h], fun h => BitVec.eq_of_getLsbD_eq fun i hi => ?_⟩
    rw [h i hi]
    exact BitVec.getLsbD_zero.symm
  unfold alertAsserted
  rw [bne_iff_ne, ne_eq, hzero]
  simp [BitVec.getLsbD_and]

/-! ## The bytes' effects -/

section
variable {high : Bool} {v o : Byte} {via : Addressing} {s : State}

theorem execEventsClear_taken (h : via = .addressed ∨ s.lpi.transaction = .writing ∧ s.lpi.offset = eventsOffset high) :
    exec (.eventsClear high { value := v, via := via }) s = .next
      { s with lpi := { written (eventsOffset high) s.lpi with flags := flagsCleared s.lpi.flags high v } } :=
  congrArg Host.Outcome.next (writeByte_taken h)

theorem execMaskWrite_taken (h : via = .addressed ∨ s.lpi.transaction = .writing ∧ s.lpi.offset = eventsOffset high + 2) :
    exec (.maskWrite high { value := v, via := via }) s = .next
      { s with lpi := { written (eventsOffset high + 2) s.lpi with mask := maskWritten s.lpi.mask high v } } :=
  congrArg Host.Outcome.next (writeByte_taken h)

end

/-- The offsets whose writes have rows of their own: 0x20..0x24 and 0x27. -/
theorem offsetIsDiscarding_iff (o : Byte) :
    offsetIsDiscarding o = true ↔ ¬ (0x20 ≤ o.toNat ∧ o.toNat ≤ 0x24) ∧ o.toNat ≠ 0x27 := by
  simp only [offsetIsDiscarding, writableOffsets, Bool.not_eq_true', List.contains_eq_mem, decide_eq_false_iff_not, List.mem_cons,
    List.not_mem_nil, or_false, BitVec.toNat_eq, BitVec.ofNat_eq_ofNat, BitVec.toNat_ofNat]
  omega

/-- The codes that name a command: 0x01..0x05 and 0xA5. -/
theorem codeIsUnknown_iff (c : Byte) : codeIsUnknown c = true ↔ ¬ (1 ≤ c.toNat ∧ c.toNat ≤ 5) ∧ c.toNat ≠ 0xA5 := by
  simp only [codeIsUnknown, commandCodes, Bool.not_eq_true', List.contains_eq_mem, decide_eq_false_iff_not, List.mem_cons,
    List.not_mem_nil, or_false, BitVec.toNat_eq, BitVec.ofNat_eq_ofNat, BitVec.toNat_ofNat]
  omega

theorem byte_succ (o : Byte) : o + 1 = BitVec.ofNat 8 (o.toNat + 1) := by
  apply BitVec.eq_of_toNat_eq
  simp [BitVec.toNat_add]

/-! ## The transaction after a restart -/

theorem stopLoading_transaction (cause : FaultCause) (s : State) : (stopLoading cause s).lpi.transaction = s.lpi.transaction := by
  simp [stopLoading]

theorem enterLoading_transaction (st : Straps) (s : State) : (enterLoading st s).lpi.transaction = s.lpi.transaction := by
  unfold enterLoading beginAttempt stopProfileBad
  (repeat' split) <;> simp [stopLoading_transaction]

/-- With no engine state of its own the station answers a feed fault by FAULT alone, for the opening (R99, R175). -/
theorem feedFault_of_none (cause : FaultCause) (s : State) (h : s.ae.engine = .none) :
    feedFault cause s = raiseIf (gateOn s) .fault (openGates .opened s) := by
  simp [feedFault, answerFeedFault, h]

theorem resetLogic_engine (x : ResetSense) (c : Byte) (r : CmdResult) (s : State) : (resetLogic x c r s).ae.engine = .none := by
  simp only [resetLogic, restartedRecord]
  split <;> rfl

/-- A restart ends the transaction (R179). -/
theorem restart_transaction (x : ResetSense) (g : Straps) (c : Byte) (r : CmdResult) (s : State) :
    (restart x g c r s).lpi.transaction = .none := by
  have hfeeds : (if overvoltage (resetLogic x c r s).fs then feedFault .feedOv (resetLogic x c r s)
      else resetLogic x c r s).lpi.transaction = .none := by
    split
    · rw [feedFault_of_none _ _ (resetLogic_engine x c r s)]
      unfold raiseIf
      split <;> simp [resetLogic, restartedPort, LocalPort.reset]
    · rfl
  unfold restart
  dsimp only
  split
  · rw [enterLoading_transaction]
    exact hfeeds
  · exact hfeeds

/-! ## The statement -/

/-- Settles O59: each write is its register's effect where the byte is taken and nothing where it is not; after a restart no
transaction is in progress, so a following byte is not. -/
theorem portWritesChangeOnlyTheirRegister : Obligations.PortWritesChangeOnlyTheirRegister := by
  intro high v o via s
  refine ⟨?events, ?mask, ?viewsel, rfl, ?discarding, ⟨?noEvents, ?noMask, fun h => ?_, ?noDiscarding⟩, ?restart, ?unknown,
    ?writable, ?known, ?lamp⟩
  case events =>
    intro h
    refine ⟨_, execEventsClear_taken (by cases high <;> exact h), fun i hi => getLsbD_flagsCleared _ _ _ hi, ?_⟩
    cases high <;> rfl
  case mask =>
    intro h
    refine ⟨_, execMaskWrite_taken (by cases high <;> exact h), fun i hi => getLsbD_maskWritten _ _ _ hi, alertAsserted_iff _, ?_⟩
    cases high <;> rfl
  case viewsel => exact fun h => congrArg Host.Outcome.next (writeByte_taken h)
  case discarding =>
    intro hrange hsel h
    refine (if_pos ((offsetIsDiscarding_iff o).2 ⟨hrange, hsel⟩)).trans (congrArg Host.Outcome.next ((writeByte_taken h).trans ?_))
    rw [← byte_succ]
    rfl
  case noEvents => exact fun h => congrArg Host.Outcome.next (writeByte_not_taken (by cases high <;> exact h))
  case noMask => exact fun h => congrArg Host.Outcome.next (writeByte_not_taken (by cases high <;> exact h))
  · exact congrArg Host.Outcome.next (writeByte_not_taken h)
  case noDiscarding =>
    intro hrange hsel h
    exact (if_pos ((offsetIsDiscarding_iff o).2 ⟨hrange, hsel⟩)).trans (congrArg Host.Outcome.next (writeByte_not_taken h))
  case restart =>
    intro x g
    have hnone : (restart x g 0xA5 .accepted s).lpi.transaction ≠ .writing := by
      rw [restart_transaction]
      exact nofun
    exact ⟨_, rfl, congrArg Host.Outcome.next (writeByte_discarded _ _ _ _ hnone),
      congrArg Host.Outcome.next (writeByte_discarded _ _ _ _ hnone),
      congrArg Host.Outcome.next (writeByte_discarded _ _ _ _ hnone)⟩
  case unknown => exact fun hrange hrestart => if_pos ((codeIsUnknown_iff v).2 ⟨hrange, hrestart⟩)
  case writable =>
    intro h
    exact if_neg (fun hd => by have := (offsetIsDiscarding_iff o).1 hd; omega)
  case known =>
    intro h
    exact if_neg (fun hu => by have := (codeIsUnknown_iff v).1 hu; omega)
  case lamp => exact fun h => congrArg Host.Outcome.next (if_pos h)

end Sys2Proof.Machine

/-! Reads of the local port (R172, R173, R174) and what each field's bytes code (R188). -/

namespace Sys2Proof.Machine

/-! ## Where an offset lies -/

theorem placeOf_within : ∀ r ∈ portMap, ∀ i < r.2.2, placeOf (BitVec.ofNat 8 (r.2.1 + i)) = some (r.1, i) := by decide

/-- No multi-byte field lies at RETRIES, CMD, VIEWSEL or past VIEWDATA. -/
theorem placeOf_outside (o : Byte) (h : o.toNat = 0x1F ∨ o.toNat = 0x27 ∨ o.toNat = 0x24 ∨ 0x35 ≤ o.toNat) : placeOf o = none := by
  have hfind : portMap.find? (fun r => decide (r.2.1 ≤ o.toNat ∧ o.toNat < r.2.1 + r.2.2)) = none := by
    rw [List.find?_eq_none]
    simp only [portMap, List.mem_cons, List.not_mem_nil, or_false, decide_eq_true_eq]
    rintro r (rfl | rfl | rfl | rfl | rfl | rfl | rfl | rfl | rfl | rfl | rfl | rfl | rfl | rfl) <;> dsimp only <;> omega
  unfold placeOf
  rw [hfind]

theorem fieldBytes_length (s : State) : ∀ r ∈ portMap, (fieldBytes r.1 s).length = r.2.2 := by
  have hview : (viewBytes s).length = 13 := by
    unfold viewBytes
    split
    · rfl
    · exact List.length_replicate
  simp only [portMap, List.mem_cons, List.not_mem_nil, or_false]
  rintro r (rfl | rfl | rfl | rfl | rfl | rfl | rfl | rfl | rfl | rfl | rfl | rfl | rfl | rfl)
  case inr.inr.inr.inr.inr.inr.inr.inr.inr.inr.inr.inr.inr => exact hview
  all_goals rfl

/-! ## The snapshot buffers -/

theorem bufferByte_loadBuffer_self (f : PortField) (bytes : List Byte) (k : Nat) (bs : List Snapshot) :
    bufferByte f k (loadBuffer f bytes bs) = bytes.getD k 0 := by simp [bufferByte, loadBuffer]

theorem bufferByte_loadBuffer_ne {f g : PortField} (h : g ≠ f) (bytes : List Byte) (k : Nat) (bs : List Snapshot) :
    bufferByte g k (loadBuffer f bytes bs) = bufferByte g k bs := by
  have hfind : (bs.filter (fun b => decide (b.field ≠ f))).find? (fun b => decide (b.field = g))
      = bs.find? (fun b => decide (b.field = g)) := by
    rw [List.find?_filter]
    congr 1
    funext b
    by_cases hb : b.field = g <;> simp [hb, h]
  simp only [bufferByte, loadBuffer, List.find?_cons, decide_eq_false h.symm, hfind]

section
variable {s : State} {o : Byte} {f : PortField}

theorem buffersAfter_first (h : placeOf o = some (f, 0)) : buffersAfter o s = loadBuffer f (fieldBytes f s) s.lpi.buffers := by
  simp [buffersAfter, h]

theorem buffersAfter_later {i : Nat} (h : placeOf o = some (f, i)) (hi : 0 < i) : buffersAfter o s = s.lpi.buffers := by
  obtain ⟨j, rfl⟩ := Nat.exists_eq_add_of_lt hi
  simp [buffersAfter, h]

theorem buffersAfter_outside (h : placeOf o = none) : buffersAfter o s = s.lpi.buffers := by simp [buffersAfter, h]

/-- A later byte comes from the buffer as last loaded (R173). -/
theorem portRead_later {i : Nat} (h : placeOf o = some (f, i)) (hi : 0 < i) :
    portRead o s = { s with lpi := { s.lpi with readByte := bufferByte f i s.lpi.buffers, offset := o + 1,
                                                transaction := .reading } } := by
  simp [portRead, byteRead, h, buffersAfter_later h hi]

theorem portRead_outside (h : placeOf o = none) :
    portRead o s = { s with lpi := { s.lpi with readByte := singleByte o s, offset := o + 1, transaction := .reading } } := by
  simp [portRead, byteRead, h, buffersAfter_outside h]

end

theorem ofNat_succ (n : Nat) : BitVec.ofNat 8 n + 1 = BitVec.ofNat 8 (n + 1) := by
  apply BitVec.eq_of_toNat_eq
  simp [BitVec.toNat_add]

/-! ## The view window -/

/-- The entry that VIEWSEL names, where it names a slot. -/
theorem selectedEntry_of_slot {s : State} {sl : Slot} (h : s.lpi.viewSel.toNat = sl.val) :
    selectedEntry s = if s.sv.opened && decide (s.sc.slot ≠ some sl) then lookup s.sv.table sl else none := by
  have hlt : s.lpi.viewSel.toNat < 32 := h ▸ sl.isLt
  have hslot : (⟨s.lpi.viewSel.toNat, hlt⟩ : Slot) = sl := Fin.ext h
  unfold selectedEntry
  rw [dif_pos hlt, hslot]

theorem viewBytes_absent {s : State} {sl : Slot} (h : s.lpi.viewSel.toNat = sl.val)
    (habsent : s.sc.slot = some sl ∨ lookup s.sv.table sl = none ∨ s.sv.opened = false) :
    viewBytes s = List.replicate 13 0 := by
  have hnone : selectedEntry s = none := by
    rw [selectedEntry_of_slot h]
    rcases habsent with h | h | h <;> simp [h]
  unfold viewBytes
  rw [hnone]

theorem viewBytes_present {s : State} {sl : Slot} {e : Entry} (h : s.lpi.viewSel.toNat = sl.val) (ho : s.sv.opened = true)
    (hs : s.sc.slot ≠ some sl) (he : lookup s.sv.table sl = some e) : viewBytes s = entryBytes e := by
  unfold viewBytes
  rw [selectedEntry_of_slot h]
  simp [ho, hs, he]

/-! ## Bytes and two-byte numbers -/

theorem byteOf_toNat (v : Nat) : (byteOf v).toNat = v % 256 := BitVec.toNat_ofNat v 8

theorem twoBytes_toNat {v : Nat} (h : v < 65536) : (byteOf (v / 256)).toNat * 256 + (byteOf v).toNat = v := by
  rw [byteOf_toNat, byteOf_toNat]
  omega

theorem bit_mul (b : Bool) (w : Nat) : bit b w = w * bit b 1 := by cases b <;> simp [bit]

theorem bit_le_one (b : Bool) : bit b 1 ≤ 1 := by cases b <;> simp [bit]

/-- A byte of a field as it reads now. -/
def byteAt (f : PortField) (k : Nat) (s : State) : Nat := ((fieldBytes f s).getD k 0).toNat

/-- A two-byte number of a field as it reads now, its most significant byte first. -/
def wordAt (f : PortField) (k : Nat) (s : State) : Nat := byteAt f k s * 256 + byteAt f (k + 1) s

/-! ## The codes' ranges -/

theorem reasonCode_le (r : WaitReason) : reasonCode r ≤ 5 := by cases r <;> simp [reasonCode]
theorem startCode_le (x : StartState) : startCode x ≤ 4 := by cases x <;> simp [startCode]
theorem exitCode_le (x : DischargeExit) : exitCode x ≤ 4 := by cases x <;> simp [exitCode]
theorem pathCode_le (x : PathState) : pathCode x ≤ 4 := by cases x <;> simp [pathCode]
theorem sourceCode_le (x : RetireSource) : sourceCode x ≤ 2 := by cases x <;> simp [sourceCode]
theorem programCode_le (x : ProgramState) : programCode x ≤ 3 := by cases x <;> simp [programCode]
theorem lineCode_le (x : LineStatus) : lineCode x ≤ 2 := by cases x <;> simp [lineCode]
theorem causeCode_le (x : FaultCause) : causeCode x ≤ 11 := by cases x <;> simp [causeCode]
theorem loadSubCode_le (x : LoadSubcause) : loadSubCode x ≤ 5 := by cases x <;> simp [loadSubCode]
theorem feedCode_le (x : FeedState) : feedCode x ≤ 3 := by cases x <;> simp [feedCode]
theorem resultCode_le (x : CmdResult) : resultCode x ≤ 4 := by cases x <;> simp [resultCode]
theorem phaseCode_le (x : Phase) : (phaseCode x).toNat ≤ 5 := by cases x <;> simp [phaseCode]
theorem engineCode_le (x : Engine) : engineCode x ≤ 11 := by cases x <;> simp [engineCode]

theorem admittedCode_le (x : Engine) : admittedCode x ≤ 2 := by unfold admittedCode; split <;> omega
theorem retiringCode_le (x : Engine) : retiringCode x ≤ 3 := by unfold retiringCode; split <;> omega
theorem forwardCode_le (x : BringUp) : forwardCode x ≤ 2 := by unfold forwardCode; split <;> omega

theorem announcedCode_le (s : State) : announcedCode s ≤ 7 := by
  unfold announcedCode
  split
  · next p _ => have := phaseCode_le p; omega
  · omega

theorem subcauseCode_le (s : State) : subcauseCode s ≤ 11 := by
  unfold subcauseCode
  split
  · exact causeCode_le _
  · have := loadSubCode_le s.sc.loadSub; omega
  · omega

/-! ## STATUS -/

theorem status_byte0 (s : State) : byteAt .status 0 s / 32 = startCode s.sc.start
    ∧ byteAt .status 0 s % 32 = (match s.sc.slot with | some sl => sl.val | none => 0) := by
  have := startCode_le s.sc.start
  show (byteOf _).toNat / 32 = _ ∧ (byteOf _).toNat % 32 = _
  rw [byteOf_toNat]
  cases s.sc.slot <;> dsimp only <;> omega

theorem status_byte1 (s : State) : byteAt .status 1 s / 128 = bit s.sc.slot.isSome 1
    ∧ byteAt .status 1 s / 16 % 8 = reasonCode s.ae.reason ∧ byteAt .status 1 s % 16 = engineCode s.ae.engine := by
  have := bit_le_one s.sc.slot.isSome
  have := reasonCode_le s.ae.reason
  have := engineCode_le s.ae.engine
  show (byteOf _).toNat / 128 = _ ∧ (byteOf _).toNat / 16 % 8 = _ ∧ (byteOf _).toNat % 16 = _
  rw [byteOf_toNat, bit_mul _ 128]
  omega

theorem status_byte2 (s : State) : byteAt .status 2 s / 64 = admittedCode s.ae.engine
    ∧ byteAt .status 2 s / 16 % 4 = retiringCode s.ae.engine ∧ byteAt .status 2 s / 2 % 8 = exitCode s.ae.exit
    ∧ byteAt .status 2 s % 2 = bit s.ae.bringupFault 1 := by
  have := admittedCode_le s.ae.engine
  have := retiringCode_le s.ae.engine
  have := exitCode_le s.ae.exit
  have := bit_le_one s.ae.bringupFault
  show (byteOf _).toNat / 64 = _ ∧ (byteOf _).toNat / 16 % 4 = _ ∧ (byteOf _).toNat / 2 % 8 = _ ∧ (byteOf _).toNat % 2 = _
  rw [byteOf_toNat]
  omega

theorem status_byte3 (s : State) : byteAt .status 3 s / 32 = announcedCode s ∧ byteAt .status 3 s / 16 % 2 = bit (bidOpen s) 1
    ∧ byteAt .status 3 s / 8 % 2 = bit s.rc.handoverReq 1 ∧ byteAt .status 3 s / 4 % 2 = bit s.ae.carrying 1
    ∧ byteAt .status 3 s / 2 % 2 = bit s.ae.profFullPending 1 ∧ byteAt .status 3 s % 2 = bit s.ae.excursion 1 := by
  have := announcedCode_le s
  have := bit_le_one (bidOpen s)
  have := bit_le_one s.rc.handoverReq
  have := bit_le_one s.ae.carrying
  have := bit_le_one s.ae.profFullPending
  have := bit_le_one s.ae.excursion
  show (byteOf _).toNat / 32 = _ ∧ (byteOf _).toNat / 16 % 2 = _ ∧ (byteOf _).toNat / 8 % 2 = _ ∧ (byteOf _).toNat / 4 % 2 = _
    ∧ (byteOf _).toNat / 2 % 2 = _ ∧ (byteOf _).toNat % 2 = _
  rw [byteOf_toNat, bit_mul _ 16, bit_mul _ 8, bit_mul _ 4, bit_mul _ 2]
  omega

theorem status_byte4 (s : State) : byteAt .status 4 s / 32 = pathCode s.pp.path ∧ byteAt .status 4 s / 16 % 2 = bit s.pp.foldback 1
    ∧ byteAt .status 4 s / 8 % 2 = bit s.pp.discharged 1 ∧ byteAt .status 4 s / 2 % 4 = sourceCode s.ae.source
    ∧ byteAt .status 4 s % 2 = bit s.rc.latchOpen 1 := by
  have := pathCode_le s.pp.path
  have := bit_le_one s.pp.foldback
  have := bit_le_one s.pp.discharged
  have := sourceCode_le s.ae.source
  have := bit_le_one s.rc.latchOpen
  show (byteOf _).toNat / 32 = _ ∧ (byteOf _).toNat / 16 % 2 = _ ∧ (byteOf _).toNat / 8 % 2 = _ ∧ (byteOf _).toNat / 2 % 4 = _
    ∧ (byteOf _).toNat % 2 = _
  rw [byteOf_toNat, bit_mul _ 16, bit_mul _ 8]
  omega

theorem status_byte5 (s : State) : byteAt .status 5 s / 64 = programCode s.bp.prog ∧ byteAt .status 5 s / 16 % 4 = forwardCode s.bp
    ∧ (s.bp.pointer ≤ 12 → byteAt .status 5 s % 16 = s.bp.pointer) := by
  have := programCode_le s.bp.prog
  have := forwardCode_le s.bp
  show (byteOf _).toNat / 64 = _ ∧ (byteOf _).toNat / 16 % 4 = _ ∧ (_ → (byteOf _).toNat % 16 = _)
  rw [byteOf_toNat]
  omega

theorem status_byte6 (s : State) : byteAt .status 6 s / 16 = s.held.rails.toNat ∧ byteAt .status 6 s / 4 % 4 = s.held.lanes.toNat
    ∧ byteAt .status 6 s / 2 % 2 = bit s.held.clk 1 ∧ byteAt .status 6 s % 2 = bit s.held.payRst 1 := by
  have := s.held.rails.isLt
  have := s.held.lanes.isLt
  have := bit_le_one s.held.clk
  have := bit_le_one s.held.payRst
  show (byteOf _).toNat / 16 = _ ∧ (byteOf _).toNat / 4 % 4 = _ ∧ (byteOf _).toNat / 2 % 2 = _ ∧ (byteOf _).toNat % 2 = _
  rw [byteOf_toNat, bit_mul _ 2]
  omega

theorem status_byte7 (s : State) : byteAt .status 7 s / 128 = bit s.held.profFull 1 ∧ byteAt .status 7 s / 64 % 2 = bit s.held.drain 1
    ∧ byteAt .status 7 s / 32 % 2 = bit s.held.takeover 1
    ∧ byteAt .status 7 s / 16 % 2 = bit (decide (s.bp.prog = .forward) && s.bp.reconcile) 1
    ∧ byteAt .status 7 s / 8 % 2 = bit (mainClosed s) 1 ∧ byteAt .status 7 s % 8 = 0 := by
  have := bit_le_one s.held.profFull
  have := bit_le_one s.held.drain
  have := bit_le_one s.held.takeover
  have := bit_le_one (decide (s.bp.prog = .forward) && s.bp.reconcile)
  have := bit_le_one (mainClosed s)
  show (byteOf _).toNat / 128 = _ ∧ (byteOf _).toNat / 64 % 2 = _ ∧ (byteOf _).toNat / 32 % 2 = _ ∧ (byteOf _).toNat / 16 % 2 = _
    ∧ (byteOf _).toNat / 8 % 2 = _ ∧ (byteOf _).toNat % 8 = _
  rw [byteOf_toNat, bit_mul _ 128, bit_mul _ 64, bit_mul _ 32, bit_mul _ 16, bit_mul _ 8]
  omega

theorem status_byte8 (s : State) : byteAt .status 8 s / 64 = lineCode s.sli.line ∧ byteAt .status 8 s / 32 % 2 = bit s.sli.impaired 1
    ∧ byteAt .status 8 s / 16 % 2 = bit (capacityMismatch s) 1 ∧ byteAt .status 8 s / 8 % 2 = bit (mateMismatch s) 1
    ∧ (s.sli.queue.length ≤ 4 → byteAt .status 8 s % 8 = s.sli.queue.length) := by
  have := lineCode_le s.sli.line
  have := bit_le_one s.sli.impaired
  have := bit_le_one (capacityMismatch s)
  have := bit_le_one (mateMismatch s)
  show (byteOf _).toNat / 64 = _ ∧ (byteOf _).toNat / 32 % 2 = _ ∧ (byteOf _).toNat / 16 % 2 = _ ∧ (byteOf _).toNat / 8 % 2 = _
    ∧ (_ → (byteOf _).toNat % 8 = _)
  rw [byteOf_toNat, bit_mul _ 32, bit_mul _ 16, bit_mul _ 8]
  omega

/-! ## The other fields -/

theorem fault_bytes (s : State) : byteAt .fault 0 s = causeCode s.ae.cause ∧ byteAt .fault 1 s = subcauseCode s
    ∧ (s.bp.timedOut ≤ 12 → byteAt .fault 2 s = s.bp.timedOut) := by
  have := causeCode_le s.ae.cause
  have := subcauseCode_le s
  show (byteOf _).toNat = _ ∧ (byteOf _).toNat = _ ∧ (_ → (byteOf _).toNat = _)
  rw [byteOf_toNat, byteOf_toNat, byteOf_toNat]
  omega

theorem claim_word (s : State) (h : ownClaim s ≤ 1023) :
    wordAt .claim 0 s / 32768 = bit (levelIsFull s.ae.profile) 1 ∧ wordAt .claim 0 s % 32768 = ownClaim s := by
  have hbit := bit_le_one (levelIsFull s.ae.profile)
  have hword : wordAt .claim 0 s = 32768 * bit (levelIsFull s.ae.profile) 1 + ownClaim s := by
    rw [← bit_mul]
    exact twoBytes_toNat (by rw [bit_mul]; omega)
  omega

theorem feed_word {f : Feed} (h : f.sample ≤ 1023) {hi lo : Byte} (hb : feedBytes f = [hi, lo]) :
    (hi.toNat * 256 + lo.toNat) / 16384 = feedCode f.state ∧ (hi.toNat * 256 + lo.toNat) % 16384 = f.sample := by
  have := feedCode_le f.state
  obtain ⟨rfl, rfl⟩ : byteOf ((feedCode f.state * 16384 + f.sample) / 256) = hi ∧ byteOf (feedCode f.state * 16384 + f.sample) = lo := by
    simpa [feedBytes, twoBytes] using hb
  rw [twoBytes_toNat (by omega)]
  omega

theorem feeds_byte0 (s : State) : byteAt .feeds 0 s / 128 = bit (singleFeed s.fs) 1 ∧ byteAt .feeds 0 s / 64 % 2 = bit s.fs.uv 1
    ∧ byteAt .feeds 0 s / 32 % 2 = bit (overvoltage s.fs) 1 ∧ byteAt .feeds 0 s / 16 % 2 = bit (feedsFit s.fs) 1
    ∧ byteAt .feeds 0 s % 16 = 0 := by
  have := bit_le_one (singleFeed s.fs)
  have := bit_le_one s.fs.uv
  have := bit_le_one (overvoltage s.fs)
  have := bit_le_one (feedsFit s.fs)
  show (byteOf _).toNat / 128 = _ ∧ (byteOf _).toNat / 64 % 2 = _ ∧ (byteOf _).toNat / 32 % 2 = _ ∧ (byteOf _).toNat / 16 % 2 = _
    ∧ (byteOf _).toNat % 16 = _
  rw [byteOf_toNat, bit_mul _ 128, bit_mul _ 64, bit_mul _ 32, bit_mul _ 16]
  omega

theorem cmdstat_bytes (s : State) : byteAt .cmdstat 0 s = s.lpi.lastCmd.toNat ∧ byteAt .cmdstat 1 s = resultCode s.lpi.result := by
  have := resultCode_le s.lpi.result
  refine ⟨rfl, ?_⟩
  show (byteOf _).toNat = _
  rw [byteOf_toNat]
  omega

/-- The record of a present entry (R174), with the ages a view keeps. -/
theorem view_record {s : State} {e : Entry} (h : viewBytes s = entryBytes e) :
    byteAt .viewdata 0 s = 128 + e.cls.val * 32 + e.slot.val ∧ byteAt .viewdata 1 s / 32 = (phaseCode e.phase).toNat
      ∧ byteAt .viewdata 1 s / 16 % 2 = bit (levelIsFull e.profile) 1 ∧ byteAt .viewdata 1 s / 8 % 2 = bit e.bidOpen 1
      ∧ byteAt .viewdata 1 s / 4 % 2 = bit e.carrying 1 ∧ byteAt .viewdata 1 s / 2 % 2 = bit e.handoverReq 1
      ∧ byteAt .viewdata 1 s % 2 = bit e.stale 1 := by
  have := phaseCode_le e.phase
  have := bit_le_one (levelIsFull e.profile)
  have := bit_le_one e.bidOpen
  have := bit_le_one e.carrying
  have := bit_le_one e.handoverReq
  have := bit_le_one e.stale
  have h0 : byteAt .viewdata 0 s = (byteOf (128 + e.rank)).toNat := by
    show ((viewBytes s).getD 0 0).toNat = _
    rw [h]
    rfl
  have h1 : byteAt .viewdata 1 s = (byteOf ((phaseCode e.phase).toNat * 32 + bit (levelIsFull e.profile) 16 + bit e.bidOpen 8
      + bit e.carrying 4 + bit e.handoverReq 2 + bit e.stale 1)).toNat := by
    show ((viewBytes s).getD 1 0).toNat = _
    rw [h]
    rfl
  rw [h0, h1, byteOf_toNat, byteOf_toNat, bit_mul _ 16, bit_mul _ 8, bit_mul _ 4, bit_mul _ 2, Entry.rank]
  omega

theorem view_numbers {s : State} {e : Entry} (h : viewBytes s = entryBytes e) (hage : e.age ≤ 1000) :
    wordAt .viewdata 2 s = e.claim.val ∧ wordAt .viewdata 4 s = e.amount.val
      ∧ wordAt .viewdata 6 s / 32768 = bit e.capValid 1 ∧ wordAt .viewdata 6 s % 32768 = e.capacity.val
      ∧ byteAt .viewdata 8 s = (match e.mate with | some m => 128 + m.val | none => 0)
      ∧ wordAt .viewdata 9 s = (match e.bid with | some b => 32768 + b.val | none => 0)
      ∧ wordAt .viewdata 11 s = e.age := by
  have hbyte (k : Nat) : byteAt .viewdata k s = ((entryBytes e).getD k 0).toNat := by rw [← h]; rfl
  have hcap := bit_le_one e.capValid
  have hsix : wordAt .viewdata 6 s = 32768 * bit e.capValid 1 + e.capacity.val := by
    rw [wordAt, hbyte, hbyte, ← bit_mul]
    exact twoBytes_toNat (by rw [bit_mul]; omega)
  refine ⟨?claim, ?amount, by omega, by omega, ?mate, ?bid, ?age⟩
  case claim =>
    rw [wordAt, hbyte, hbyte]
    exact twoBytes_toNat (by omega)
  case amount =>
    rw [wordAt, hbyte, hbyte]
    exact twoBytes_toNat (by omega)
  case mate =>
    rw [hbyte]
    refine (byteOf_toNat _).trans ?_
    cases e.mate
    · rfl
    · dsimp only; omega
  case bid =>
    rw [wordAt, hbyte, hbyte]
    refine (twoBytes_toNat ?_).trans ?_
    · cases e.bid <;> dsimp only <;> omega
    · cases e.bid <;> rfl
  case age =>
    rw [wordAt, hbyte, hbyte]
    exact twoBytes_toNat (by omega)

theorem flag_bits (s : State) {i : Nat} (hi : i < 8) : ((fieldBytes .events s).getD 0 0).getLsbD i = s.lpi.flags.getLsbD i
    ∧ ((fieldBytes .events s).getD 1 0).getLsbD i = s.lpi.flags.getLsbD (i + 8)
    ∧ ((fieldBytes .mask s).getD 0 0).getLsbD i = s.lpi.mask.getLsbD i
    ∧ ((fieldBytes .mask s).getD 1 0).getLsbD i = s.lpi.mask.getLsbD (i + 8) := by
  simp only [fieldBytes, List.getD_cons_zero, List.getD_cons_succ, BitVec.getLsbD_extractLsb', hi, decide_true, Bool.true_and,
    Nat.zero_add, Nat.add_comm 8 i, and_self]

theorem levelIsFull_eq (l : PowerLevel) : levelIsFull l = decide (l = .full) := by cases l <;> rfl

/-- RETRIES codes the retry limit and the count (R188). -/
theorem retries_byte {s : State} (hl : retryLimit s ≤ 3) (hc : s.ae.retryCount ≤ 3) :
    (singleByte 0x1F s).toNat / 16 = retryLimit s ∧ (singleByte 0x1F s).toNat % 16 = s.ae.retryCount := by
  have : (singleByte 0x1F s).toNat = (retryLimit s * 16 + s.ae.retryCount) % 256 := byteOf_toNat _
  omega

theorem subcauseCode_eq (s : State) : subcauseCode s =
    (match s.ae.cause with
     | .retryExhausted =>
       (match s.ae.subcause with
        | some .prechargeTimeout => 1 | some .closeFail => 2 | some .trip => 3 | some .bringupTimeout => 4 | none => 0)
     | .profileBad =>
       (match s.sc.loadSub with
        | .none => 0 | .noResponse => 1 | .format => 2 | .version => 3 | .checksum => 4 | .steps => 5)
     | _ => 0) := by
  unfold subcauseCode
  cases s.ae.cause <;> try rfl
  rcases s.ae.subcause with _ | _ | _ | _ | _ <;> rfl

/-! ## The statement -/

theorem snapshotsOfFields (f : PortField) (first width i : Nat) (s : State) (hmem : (f, first, width) ∈ portMap) (hi : i < width) :
    ∃ t, exec (.snapshotRead (some (BitVec.ofNat 8 first))) s = .next t
      ∧ (∀ k, bufferByte f k t.lpi.buffers = (fieldBytes f s).getD k 0)
      ∧ (∀ g, g ≠ f → ∀ k, bufferByte g k t.lpi.buffers = bufferByte g k s.lpi.buffers)
      ∧ t.lpi.readByte = (fieldBytes f s).getD 0 0 ∧ t.lpi.offset = BitVec.ofNat 8 (first + 1)
      ∧ t = { s with lpi := { s.lpi with buffers := t.lpi.buffers, readByte := t.lpi.readByte, offset := t.lpi.offset,
                                         transaction := .reading } }
      ∧ (0 < i → exec (.snapshotRead (some (BitVec.ofNat 8 (first + i)))) s = .next
          { s with lpi := { s.lpi with readByte := bufferByte f i s.lpi.buffers, offset := BitVec.ofNat 8 (first + i + 1),
                                       transaction := .reading } })
      ∧ exec .viewdataRead s = exec (.snapshotRead (some 0x28)) s ∧ (f = .viewdata → exec .viewdataRead s = .next t)
      ∧ exec (.snapshotRead none) s = exec (.snapshotRead (some s.lpi.offset)) s
      ∧ (fieldBytes f s).length = width
      ∧ (∀ sl : Slot, s.lpi.viewSel.toNat = sl.val → (s.sc.slot = some sl ∨ lookup s.sv.table sl = none ∨ s.sv.opened = false) →
          fieldBytes .viewdata s = List.replicate 13 0) := by
  have hplace := placeOf_within _ hmem
  have hfirst : placeOf (BitVec.ofNat 8 first) = some (f, 0) := hplace 0 (Nat.zero_lt_of_lt hi)
  have hbuffers := buffersAfter_first (s := s) hfirst
  refine ⟨portRead (BitVec.ofNat 8 first) s, rfl, fun k => ?self, fun g hg k => ?others, ?byte, ofNat_succ first, rfl, fun h => ?later,
    rfl, fun h => ?view, rfl, fieldBytes_length s _ hmem, fun sl => viewBytes_absent⟩
  case self =>
    show bufferByte f k (buffersAfter _ s) = _
    rw [hbuffers, bufferByte_loadBuffer_self]
  case others =>
    show bufferByte g k (buffersAfter _ s) = _
    rw [hbuffers, bufferByte_loadBuffer_ne hg]
  case byte =>
    show byteRead _ s = _
    unfold byteRead
    rw [hfirst, hbuffers]
    exact bufferByte_loadBuffer_self _ _ _ _
  case later =>
    rw [← ofNat_succ]
    exact congrArg Host.Outcome.next (portRead_later (hplace i hi) h)
  case view =>
    subst h
    simp only [portMap, List.mem_cons, Prod.mk.injEq, List.not_mem_nil, reduceCtorEq, false_and, false_or, or_false, true_and] at hmem
    rw [hmem.1]
    rfl

theorem phaseCode_toNat (p : Phase) : (phaseCode p).toNat = (match p with
    | .waiting => 0 | .precharging => 1 | .bringup => 2 | .admitted => 3 | .retiring => 4 | .stopped => 5) := by
  cases p <;> rfl

theorem announcedCode_eq (s : State) : announcedCode s = (match announcedPhase s with
    | some p => (match p with
        | .waiting => 0 | .precharging => 1 | .bringup => 2 | .admitted => 3 | .retiring => 4 | .stopped => 5)
    | none => 7) := by
  unfold announcedCode
  cases announcedPhase s with
  | none => rfl
  | some p => exact phaseCode_toNat p

/-- Settles O60: each field's bytes are its values' digits in a mixed radix, with every value within its field. -/
theorem snapshotsHoldAFieldTogether : Obligations.SnapshotsHoldAFieldTogether := by
  refine ⟨fun f first width i s => snapshotsOfFields f first width i s, fun s => ?_⟩
  intro byte word one code
  refine ⟨?status, ?fault, ?claim, fun ho hc => ?ceff, fun ho hl => ?lc, fun ho => ?closed, ?readings, ?feeds,
    fun i hi => flag_bits s hi, cmdstat_bytes s, fun sl hsel ho hs e he hage => ?view,
    fun hl hc => ⟨_, rfl, retries_byte hl hc⟩, fun hp => by simp [retryLimit, hp], fun o ho => ?outside⟩
  case status =>
    obtain ⟨h00, h01⟩ := status_byte0 s
    obtain ⟨h10, h11, h12⟩ := status_byte1 s
    obtain ⟨h20, h21, h22, h23⟩ := status_byte2 s
    obtain ⟨h30, h31, h32, h33, h34, h35⟩ := status_byte3 s
    obtain ⟨h40, h41, h42, h43, h44⟩ := status_byte4 s
    obtain ⟨h50, h51, h52⟩ := status_byte5 s
    obtain ⟨h60, h61, h62, h63⟩ := status_byte6 s
    obtain ⟨h70, h71, h72, h73, h74, h75⟩ := status_byte7 s
    obtain ⟨h80, h81, h82, h83, h84⟩ := status_byte8 s
    exact ⟨h00, h01, h10, h11, h12, h20, h21, h22, h23, h30.trans (announcedCode_eq s), h31, h32, h33, h34, h35, h40, h41, h42, h43,
      h44, h50, h51, h52, h60, h61, h62, h63, h70, h71, h72, h73, h74, h75, h80, h81, h82, h83, h84⟩
  case fault =>
    obtain ⟨hcause, hsub, htimed⟩ := fault_bytes s
    exact ⟨hcause, hsub.trans (subcauseCode_eq s), htimed⟩
  case claim =>
    intro h
    obtain ⟨hlevel, hclaim⟩ := claim_word s h
    rw [levelIsFull_eq] at hlevel
    exact ⟨hlevel, hclaim⟩
  case ceff =>
    have hvalue : wordAt .ceff 0 s = (if s.sv.opened then ownCEff s else 0) := twoBytes_toNat (by split <;> omega)
    exact hvalue.trans (if_pos ho)
  case lc =>
    have hvalue : wordAt .lc 0 s = (if s.sv.opened then committedLoad s.sv.table else 0) := twoBytes_toNat (by split <;> omega)
    exact hvalue.trans (if_pos ho)
  case closed =>
    have hnot : ¬ s.sv.opened = true := by simp [ho]
    have hceff : wordAt .ceff 0 s = (if s.sv.opened then ownCEff s else 0) := twoBytes_toNat (by rw [if_neg hnot]; omega)
    have hlc : wordAt .lc 0 s = (if s.sv.opened then committedLoad s.sv.table else 0) :=
      twoBytes_toNat (by rw [if_neg hnot]; omega)
    exact ⟨hceff.trans (if_neg hnot), hlc.trans (if_neg hnot)⟩
  case readings =>
    simp only [List.mem_cons, List.not_mem_nil, or_false]
    rintro x (rfl | rfl | rfl | rfl) hx <;> exact twoBytes_toNat (Nat.lt_of_le_of_lt hx (by decide))
  case feeds =>
    obtain ⟨hsingle, huv, hov, hfit, hrest⟩ := feeds_byte0 s
    refine ⟨hsingle, huv, hov, hfit, hrest, ?_⟩
    simp only [List.mem_cons, List.not_mem_nil, or_false]
    rintro x (rfl | rfl) hx <;> exact feed_word hx rfl
  case view =>
    obtain ⟨hmem, rfl⟩ := lookup_mem he
    have hrecord := viewBytes_present hsel ho hs he
    obtain ⟨hrank, hphase, hlevel, hbid, hcarrying, hrequest, hstale⟩ := view_record hrecord
    rw [phaseCode_toNat] at hphase
    rw [levelIsFull_eq] at hlevel
    exact ⟨hrank, hphase, hlevel, hbid, hcarrying, hrequest, hstale, view_numbers hrecord hage⟩
  case outside =>
    refine congrArg Host.Outcome.next ((portRead_outside (placeOf_outside o (.inr ho))).trans ?_)
    have hsingle : singleByte o s = if o.toNat = 0x27 then s.lpi.viewSel else 0 := by
      have hne : o ≠ 0x1F := by
        rintro rfl
        exact absurd ho (by decide)
      have hsel : o = 0x27 ↔ o.toNat = 0x27 := BitVec.toNat_eq
      unfold singleByte
      rw [if_neg hne]
      simp only [hsel]
    rw [hsingle, byte_succ]

end Sys2Proof.Machine

/-! Restart, loss of seating and loading (chapter 09): events that end in a silent state. -/

namespace Sys2Proof.Machine

/-! ## Events that end in silence -/

/-- In a silent state no request is taken: where the lamp keeps its pattern too, the event ends as its body left it. -/
theorem settle_in_silence {s u : State} (hu : silent u = true) (hp : u.sli.periodic = none) (hc : congestionDue u.sli.queue = false)
    (hl : lampPattern s = lampPattern u) : settle s u = u := by
  have hstanding : (if standingDue s u then requestNotice .standing u else u) = u := by
    rw [standing_eq, if_neg (by simp [standingAsked, hu])]
  unfold settle
  dsimp only
  rw [hstanding, settlePeriodic_same (fun _ => hp) (fun _ => hu), settleCongestion_of_not_due _ hc, settleLamp_same _ _ hl]

/-- The line after an event that ends in silence and left the line alone. -/
theorem lineAfter_settle_silent {s u : State} (hs : Settled s) (hq : silent s = true) (hu : silent u = true) (hl : u.sli = s.sli) :
    LineAfter false s (settle s u) := by
  unfold LineAfter
  rw [settle_sli_of_silent s u (hl ▸ hs.2) hu (hl ▸ hs.1 hq), hl]
  rfl

theorem silent_of_not_done {s : State} (h : s.sc.start ≠ .done) : silent s = true := (silent_eq_true_iff s).2 (.inl h)

theorem silent_of_stopped {s : State} (he : s.ae.engine = .stopped) (hc : silentCause s.ae.cause = true) : silent s = true := by
  unfold silent
  split <;> simp [he, hc]

/-! ## The restart -/

theorem reading_of_le {v : Nat} (h : v ≤ 1023) : reading v = v := Nat.min_eq_left h

/-- A feed of 750 dV or less is not classified HIGH (R44, R46). -/
theorem classifiedFeed_not_high {v : Nat} (h : v ≤ 750) : (classifiedFeed v).isIn .high = false := by
  have hne : initialFeedState (reading v) ≠ .high := by
    rw [reading_of_le (by omega)]
    simp only [initialFeedState, feedTarget, h, if_true]
    split_ifs <;> exact nofun
  exact decide_eq_false hne

theorem classifiedFeed_state {v : Nat} (h : v ≤ 750) : (classifiedFeed v).state = feedTarget .good v := by
  show feedTarget .good (reading v) = _
  rw [reading_of_le (by omega)]

/-- The first loading attempt as it begins with a good address (R161, R162). -/
def firstAttempt (st : Straps) (s : State) : State :=
  { s with sc := { s.sc with start := .loading, slot := some st.ga, profile := none, attempts := 1, settle := none,
                             attempt := some attemptMs, relearn := none } }

theorem enterLoading_of_parity {st : Straps} {s : State} (hp : parityHolds st = true) (hl : st.pmSdaLow = false) :
    enterLoading st s = firstAttempt st s := by
  simp [enterLoading, beginAttempt, firstAttempt, hp, hl]

/-- A restart of a seated part with a good address and no feed HIGH is the logic's reset and the first attempt (R166). -/
theorem restart_seated {x : ResetSense} {g : Straps} {s : State} (c : Byte) (r : CmdResult) (hs : s.sc.seated = true)
    (hp : parityHolds g = true) (hl : g.pmSdaLow = false) (ha : x.feedA ≤ 750) (hb : x.feedB ≤ 750) :
    restart x g c r s = firstAttempt g (resetLogic x c r s) := by
  have hov : overvoltage (resetLogic x c r s).fs = false := by
    show ((classifiedFeed x.feedA).isIn .high || (classifiedFeed x.feedB).isIn .high) = false
    simp [classifiedFeed_not_high ha, classifiedFeed_not_high hb]
  simp only [restart, hs, hov, if_true, Bool.false_eq_true, if_false, enterLoading_of_parity hp hl]

theorem restartedPath_path (x : ResetSense) (pp : PowerPath) (h : pp.path ≠ .closed) :
    (restartedPath x pp).path = if pp.path = .tripped ∧ 50 ≤ min x.vBulk 1023 then .tripped else .opened := by
  unfold restartedPath
  cases hpath : pp.path <;> simp_all [PowerPath.reset, bulkDischarged, reading]
  split <;> split <;> first | rfl | omega

theorem restartedPath_copies (x : ResetSense) (pp : PowerPath) : (restartedPath x pp).iMin = pp.iMin
    ∧ (restartedPath x pp).vSag = pp.vSag ∧ (restartedPath x pp).iTrip = pp.iTrip ∧ (restartedPath x pp).tripPending = false := by
  unfold restartedPath
  dsimp only
  split <;> exact ⟨rfl, rfl, rfl, rfl⟩

theorem ownClaim_of_none_not_closed {s : State} (he : s.ae.engine = .none) (hp : s.pp.path ≠ .closed) : ownClaim s = 0 := by
  unfold ownClaim
  rw [he]
  dsimp only
  split <;> simp_all

theorem restartedRecord_fields (s : State) :
    (restartedRecord s).retryCount = 0 ∧ (restartedRecord s).source = .none ∧ (restartedRecord s).bid = none := by
  unfold restartedRecord
  split <;> exact ⟨rfl, rfl, rfl⟩

/-- Settles O11. -/
theorem restartKeepsTheHeldDomain : Obligations.RestartKeepsTheHeldDomain := by
  intro x g s hseated hparity hsda ha hb
  obtain ⟨himin, hvsag, hitrip, htrip⟩ := restartedPath_copies x s.pp
  have hnone := resetLogic_engine x 0x00 .none s
  obtain ⟨hcount, hsource, hbid⟩ := restartedRecord_fields s
  refine ⟨firstAttempt g (resetLogic x 0x00 .none s), congrArg Host.Outcome.next (restart_seated _ _ hseated hparity hsda ha hb),
    congrArg Host.Outcome.next (restart_seated _ _ hseated hparity hsda ha hb), rfl, fun hclosed => ?closed, fun hopen => ?notClosed,
    fun hpath => ?discharge, himin, hvsag, hitrip, htrip, ?start, rfl, rfl, hnone, hcount, hsource, hbid, rfl, rfl, rfl, rfl,
    rfl, classifiedFeed_state ha, classifiedFeed_state hb, rfl, rfl, rfl, rfl, rfl, rfl, rfl, rfl, rfl, rfl, rfl, rfl⟩
  case closed =>
    have hrecord : restartedRecord s = { OwnRecord.reset with profile := s.ae.profile, keptClaim := ownClaim s } := by
      simp [restartedRecord, mainClosed, hclosed]
    have hpath : (restartedPath x s.pp).path = .closed := by simp [restartedPath, hclosed]
    refine ⟨hpath, (congrArg OwnRecord.profile hrecord :), ?_⟩
    show ownClaim (firstAttempt g (resetLogic x 0x00 .none s)) = _
    simp [ownClaim, firstAttempt, resetLogic, hrecord, hpath, OwnRecord.reset]
  case notClosed =>
    have hrecord : restartedRecord s = OwnRecord.reset := by simp [restartedRecord, mainClosed, hopen]
    have hpath := restartedPath_path x s.pp hopen
    refine ⟨(congrArg OwnRecord.profile hrecord :), ownClaim_of_none_not_closed (hnone) ?_, hpath⟩
    show (restartedPath x s.pp).path ≠ .closed
    rw [hpath]
    split <;> exact nofun
  case discharge =>
    show (restartedPath x s.pp).discharge = _
    rcases hpath with h | h <;> simp [restartedPath, h, bulkDischarged, reading, dischargeMs]
  case start => simp [firstAttempt, resetLogic, StartControl.reset, attemptMs, hseated]

/-! ## The loss of seating -/

theorem leaveAllowed_of {s : State} {sl : Slot} {p : ProfileData} (hsl : s.sc.slot = some sl) (hp : s.sc.profile = some p)
    (hstart : s.sc.start = .relearn ∨ s.sc.start = .done) (hbar : ¬ (s.ae.engine = .stopped ∧ silentCause s.ae.cause = true)) :
    leaveAllowed s = true := by
  have hbar' : (decide (s.ae.engine = .stopped) && silentCause s.ae.cause) = false := by simpa using hbar
  simp [leaveAllowed, leaveCopyOf, hsl, hp, hstart, hbar']

theorem leaveAllowed_barred {s : State} (h : s.sc.start = .loading ∨ (s.ae.engine = .stopped ∧ silentCause s.ae.cause = true)) :
    leaveAllowed s = false := by
  rcases h with h | ⟨he, hc⟩
  · simp [leaveAllowed, h]
  · simp [leaveAllowed, he, hc]

/-- The line as a loss of seating leaves it, but for its queue and the LEAVE's copy (R42). -/
theorem leaveRequested_kept (allowed : Bool) (copy : Option LeaveCopy) (l : LineInterface) :
    (leaveRequested allowed copy l).inFlight = l.inFlight.map (fun f => { f with dropped := true })
      ∧ (leaveRequested allowed copy l).clashCount = 0 ∧ (leaveRequested allowed copy l).periodic = none
      ∧ (leaveRequested allowed copy l).line = l.line ∧ (leaveRequested allowed copy l).clashWait = l.clashWait
      ∧ congestionDue (leaveRequested allowed copy l).queue = false := by
  cases allowed <;> exact ⟨rfl, rfl, rfl, rfl, rfl, rfl⟩

theorem unseat_sli (s : State) : (unseat s).sli = leaveRequested (leaveAllowed s) (leaveCopyOf s.sc) s.sli := by
  simp [unseat]

theorem unseat_rc (s : State) : (unseat s).rc = unseatedRetire s.rc := by
  show unseatedRetire (openGates .opened s).rc = _
  unfold openGates
  split <;> rfl

theorem unseat_pp (s : State) : (unseat s).pp = unseatedPath (openGates .opened s).pp := rfl

/-- What every opening of a path with a gate on leaves of the discharge (R112, R117, R118). -/
theorem openGates_discharge {target : PathState} {s : State} (h : gateOn s = true) :
    (openGates target s).pp.path = (if s.pp.vBulk < 50 then .opened else target)
      ∧ (openGates target s).pp.discharged = decide (s.pp.vBulk < 50)
      ∧ (openGates target s).pp.discharge = if s.pp.vBulk < 50 then none else some 2000 := by
  rw [openGates_of_gateOn _ _ h]
  simp [openedPath, bulkDischarged, dischargeMs]

/-- Settles O13. -/
theorem lossOfSeatingQueuesTheLeave : Obligations.LossOfSeatingQueuesTheLeave := by
  intro s hun hset
  have hsilent : silent (unseat s) = true := silent_of_not_done nofun
  obtain ⟨hflight, hclash, hperiodic, hline, hwait, hcong⟩ := leaveRequested_kept (leaveAllowed s) (leaveCopyOf s.sc) s.sli
  rw [← unseat_sli] at hflight hclash hperiodic hline hwait hcong
  have hsli := settle_sli_of_silent s (unseat s) hcong hsilent hperiodic
  refine ⟨settle s (unseat s), execLossOfSeating_unseats s hun hset, settle_sc _ _, settle_sv _ _, fun sl hsl p hp hload hbar => ?leave,
    fun hno => ?noLeave, by rw [hsli, hflight], by rw [hsli, hclash], by rw [hsli, hperiodic], by rw [hsli, hline], by rw [hsli, hwait],
    settle_ae _ _, settle_held _ _, settle_bp _ _, fun hg => ?opening, fun hg => ?noGate, ?trip, (settle_rc _ _).trans (unseat_rc s),
    ?fs, ?inp, portAfter_settle (.of_lpi (unseat_lpi s)) hcong, ?free, ?pending⟩
  case leave =>
    have hstart : s.sc.start = .relearn ∨ s.sc.start = .done := by cases h : s.sc.start <;> simp_all
    rw [hsli, unseat_sli, leaveAllowed_of hsl hp hstart hbar]
    exact ⟨rfl, by simp [leaveRequested, leaveCopyOf, hsl, hp]⟩
  case noLeave =>
    rw [hsli, unseat_sli, leaveAllowed_barred hno]
    exact ⟨rfl, rfl⟩
  case opening =>
    obtain ⟨hpath, hdischarged, hdischarge⟩ := openGates_discharge (target := .opened) hg
    rw [settle_pp, unseat_pp]
    exact ⟨hpath.trans (ite_self _), hdischarged, hdischarge⟩
  case noGate =>
    rw [settle_pp, unseat_pp, openGates_of_gateOff _ _ hg]
    exact ⟨rfl, rfl⟩
  case trip =>
    rw [settle_pp]
    rfl
  all_goals simp [unseat]

/-! ## Stops in LOADING -/

/-- What a stop in LOADING leaves (R164). -/
theorem stopLoading_record (cause : FaultCause) (s : State) : (stopLoading cause s).ae.engine = .stopped
    ∧ (stopLoading cause s).ae.cause = cause ∧ (stopLoading cause s).ae.retryCount = s.ae.retryCount
    ∧ (stopLoading cause s).ae.source = s.ae.source
    ∧ (stopLoading cause s).sc = { s.sc with start := .done, attempt := none, forcedOff := false } := by
  simp [stopLoading]

theorem stopLoading_raised (cause : FaultCause) (s : State) : Raised (flagWord .fault) s (stopLoading cause s) := by
  simp [stopLoading, Raised, raise]

theorem stopLoading_of_gateOff (cause : FaultCause) {s : State} (h : gateOn s = false) :
    (stopLoading cause s).pp.path = s.pp.path ∧ (stopLoading cause s).held = s.held ∧ (stopLoading cause s).bp = s.bp
      ∧ (stopLoading cause s).rc = s.rc := by
  unfold stopLoading
  rw [openGates_of_gateOff _ _ h]
  exact ⟨rfl, rfl, rfl, rfl⟩

theorem stopLoading_of_gateOn (cause : FaultCause) {s : State} (h : gateOn s = true) :
    (stopLoading cause s).held = HeldOutputs.deasserted ∧ (stopLoading cause s).pp.path = .opened := by
  unfold stopLoading
  rw [openGates_of_gateOn _ _ h]
  exact ⟨rfl, ite_self _⟩

theorem gateOn_stopLoading (cause : FaultCause) (s : State) : gateOn (stopLoading cause s) = false :=
  gateOn_openGates .opened s (.inl rfl)

/-- An event that stops the station in LOADING with a silent cause (R164). -/
theorem stopLoading_settled {cause : FaultCause} {s b : State} (hs : Settled s) (hq : silent s = true) (hc : silentCause cause = true)
    (hsli : b.sli = s.sli) (hlpi : b.lpi = s.lpi) :
    LineAfter false s (settle s (stopLoading cause b)) ∧ PortAfter (flagWord .fault) s (settle s (stopLoading cause b)) := by
  obtain ⟨hengine, hcause, -⟩ := stopLoading_record cause b
  have hline : (stopLoading cause b).sli = s.sli := by rw [stopLoading_sli, hsli]
  refine ⟨lineAfter_settle_silent hs hq (silent_of_stopped hengine (hcause ▸ hc)) hline, portAfter_settle ?_ (hline ▸ hs.2)⟩
  have hraised := stopLoading_raised cause b
  unfold Raised at *
  rw [hraised, hlpi]

/-! ## The address -/

/-- The parity of the address counts the ones among GA4..GA0 and GAP (R161). -/
theorem parityHolds_iff (g : Straps) : parityHolds g = true ↔
    (((List.range 5).filter (fun i => (BitVec.ofFin (w := 5) g.ga).getLsbD i)).length + g.gap.toNat) % 2 = 1 := by
  have hall : ∀ (ga : Fin 32) (gap low : Bool), parityHolds ⟨ga, gap, low⟩ = true ↔
      (((List.range 5).filter (fun i => (BitVec.ofFin (w := 5) ga).getLsbD i)).length + gap.toNat) % 2 = 1 := by decide
  exact hall g.ga g.gap g.pmSdaLow

theorem gateOn_eq_false_of_opened {s : State} (h : s.pp.path = .opened) : gateOn s = false := by simp [gateOn, h]

theorem execSettleExpiry_runs (g : Straps) {s : State} (hstart : s.sc.start = .settling) (htimer : s.sc.settle.isSome = true) :
    exec (.settleExpiry g) s = answer s (enterLoading g s) :=
  congrArg (answer s) (if_pos ⟨hstart, htimer⟩)

/-- PM_SDA held low spends all three attempts at once (R162). -/
theorem enterLoading_of_held {st : Straps} {s : State} (hp : parityHolds st = true) (hl : st.pmSdaLow = true) :
    enterLoading st s = stopLoading .profileBad
      { s with sc := { s.sc with start := .loading, slot := some st.ga, profile := none, attempts := 3, settle := none,
                                 attempt := none, relearn := none, loadSub := .noResponse } } := by
  simp [enterLoading, beginAttempt, stopProfileBad, hp, hl]

theorem enterLoading_of_bad_parity {st : Straps} {s : State} (hp : parityHolds st = false) :
    enterLoading st s = stopLoading .gaParity
      { s with sc := { s.sc with start := .loading, slot := none, profile := none, attempts := 0, settle := none,
                                 attempt := none, relearn := none } } := by
  simp [enterLoading, hp]

/-- The blocks that a stop in LOADING with the path OPEN leaves alone. -/
theorem stopLoading_of_opened {cause : FaultCause} {s : State} {c : StartControl} (hs : Settled s) (hq : silent s = true)
    (hopen : s.pp.path = .opened) (hc : silentCause cause = true) :
    let t := settle s (stopLoading cause { s with sc := c })
    (t.sc = { c with start := .done, attempt := none, forcedOff := false } ∧ t.ae.engine = .stopped ∧ t.ae.cause = cause)
      ∧ PortAfter (flagWord .fault) s t
      ∧ LineAfter false s t ∧ t.sv = s.sv ∧ t.fs = s.fs ∧ t.pp.path = .opened ∧ t.held = s.held ∧ t.bp = s.bp ∧ t.rc = s.rc
      ∧ t.inp = s.inp ∧ t.freeCount = s.freeCount ∧ t.pending = s.pending := by
  intro t
  obtain ⟨hengine, hcause, -, -, hsc⟩ := stopLoading_record cause { s with sc := c }
  obtain ⟨hpath, hheld, hbp, hrc⟩ := stopLoading_of_gateOff cause (s := { s with sc := c }) (gateOn_eq_false_of_opened hopen)
  obtain ⟨hline, hport⟩ := stopLoading_settled (b := { s with sc := c }) hs hq hc rfl rfl
  exact ⟨⟨(settle_sc _ _).trans hsc, by rw [settle_ae, hengine], by rw [settle_ae, hcause]⟩, hport, hline, by simp [t], by simp [t],
    by rw [settle_pp, hpath, hopen], (settle_held _ _).trans hheld, (settle_bp _ _).trans hbp, (settle_rc _ _).trans hrc, by simp [t],
    by simp [t], by simp [t]⟩

/-- Settles O14. -/
theorem settleExpiryReadsTheAddress : Obligations.SettleExpiryReadsTheAddress := by
  intro g s hstart htimer hs hopen
  have hq : silent s = true := silent_of_not_done (by simp [hstart])
  refine ⟨settle s (enterLoading g s), execSettleExpiry_runs g hstart htimer, parityHolds_iff g, ?_⟩
  cases hp : parityHolds g with
  | false =>
    rw [enterLoading_of_bad_parity hp]
    obtain ⟨⟨hsc, hengine, hcause⟩, hport, hkept⟩ := stopLoading_of_opened hs hq hopen (cause := .gaParity) rfl
    exact ⟨nofun, nofun, fun _ => ⟨by rw [hsc], hengine, hcause, by rw [hsc], by rw [hsc]⟩,
      fun _ => ⟨by rw [hsc], by rw [hsc], hport⟩, hkept⟩
  | true =>
    cases hl : g.pmSdaLow with
    | true =>
      rw [enterLoading_of_held hp hl]
      obtain ⟨⟨hsc, hengine, hcause⟩, hport, hkept⟩ := stopLoading_of_opened hs hq hopen (cause := .profileBad) rfl
      exact ⟨nofun, fun _ _ => ⟨by rw [hsc], hengine, hcause, by rw [hsc], by rw [hsc], by rw [hsc]⟩, nofun,
        fun _ => ⟨by rw [hsc], by rw [hsc], hport⟩, hkept⟩
    | false =>
      have hattempt : settle s (enterLoading g s) = firstAttempt g s := by
        rw [enterLoading_of_parity hp hl]
        exact settle_in_silence (silent_of_not_done nofun) (hs.1 hq) hs.2 rfl
      rw [hattempt]
      exact ⟨fun _ _ => rfl, nofun, nofun, by simp, rfl, rfl, rfl, hopen, rfl, rfl, rfl, rfl, rfl, rfl⟩

/-! ## Attempts -/

section
variable {s : State}

theorem attemptRuns_of (hstart : s.sc.start = .loading) (htimer : s.sc.attempt.isSome = true) : attemptRuns s = true := by
  simp [attemptRuns, running, hstart, htimer]

theorem imageLengthOk_iff (img : List Byte) : imageLengthOk img = true ↔ img.length = 110 := by simp [imageLengthOk]

/-- A failed attempt below a count of 3, PM_SDA free, begins the next (R162). -/
theorem failLoad_again {sub : LoadSubcause} (h : s.sc.attempts < 3) :
    failLoad sub false s = { s with sc := { s.sc with attempts := s.sc.attempts + 1, attempt := some attemptMs, loadSub := sub } } := by
  simp [failLoad, beginAttempt, Nat.not_le.2 h]

/-- The station with its three attempts spent, and the subcause of the last (R162): the failing one's own, or that of the attempts
which PM_SDA fails in its event. -/
def attemptsSpent (sub : LoadSubcause) (s : State) : State :=
  { s with sc := { s.sc with attempts := 3, loadSub := if 3 ≤ s.sc.attempts then sub else .noResponse } }

/-- At a count of 3, or with PM_SDA held low, it stops the part with the subcause of the last attempt (R162, R164). -/
theorem failLoad_stops {sub : LoadSubcause} {sda : Bool} (h : 3 ≤ s.sc.attempts ∨ sda = true) :
    failLoad sub sda s = stopLoading .profileBad (attemptsSpent sub s) := by
  unfold failLoad attemptsSpent
  by_cases hcount : 3 ≤ s.sc.attempts
  · rw [if_pos hcount, if_pos hcount, stopProfileBad]
  · simp [hcount, h.resolve_left hcount, beginAttempt, stopProfileBad]

/-- The three commands by which an attempt fails. -/
theorem exec_failedAttempt {c : Instr} {sub : LoadSubcause} {sda : Bool} (hstart : s.sc.start = .loading)
    (htimer : s.sc.attempt.isSome = true)
    (hc : c = .profileNoResponse sda ∧ sub = .noResponse ∨ c = .attemptTimerExpiry sda ∧ sub = .noResponse
      ∨ ∃ img, c = .profileAttemptComplete img sda ∧ img.length = 110 ∧ loadImage img = .error sub) :
    exec c s = answer s (failLoad sub sda s) := by
  have hruns := attemptRuns_of hstart htimer
  rcases hc with ⟨rfl, rfl⟩ | ⟨rfl, rfl⟩ | ⟨img, rfl, hlen, himg⟩
  · exact congrArg (answer s) (if_pos hruns)
  · exact congrArg (answer s) (if_pos hruns)
  · refine (if_pos ((imageLengthOk_iff img).2 hlen)).trans (congrArg (answer s) ((if_pos hruns).trans ?_))
    rw [himg]

end

/-- Settles O15. -/
theorem failedAttempts : Obligations.FailedAttempts := by
  refine ⟨fun img sda s hlen => if_neg (by simpa [imageLengthOk_iff] using hlen), fun c sub sda s hstart htimer hs hc => ?_⟩
  have hq : silent s = true := silent_of_not_done (by simp [hstart])
  rw [exec_failedAttempt hstart htimer hc]
  refine ⟨fun hcount hsda => ?again, fun hlast => ?stop⟩
  case again =>
    rw [hsda, failLoad_again hcount]
    exact congrArg Host.Outcome.next (settle_in_silence (silent_of_not_done (by simp [hstart])) (hs.1 hq) hs.2 rfl)
  case stop =>
    rw [failLoad_stops hlast]
    obtain ⟨hengine, hcause, hretry, hsource, hsc⟩ := stopLoading_record .profileBad (attemptsSpent sub s)
    obtain ⟨hline, hport⟩ := stopLoading_settled hs hq (cause := .profileBad)
      (b := attemptsSpent sub s) rfl rfl rfl
    refine ⟨_, rfl, (settle_sc _ _).trans hsc, by rw [settle_ae, hengine], by rw [settle_ae, hcause], by rw [settle_ae, hretry]; rfl,
      by rw [settle_ae, hsource]; rfl, hport, hline, ?_, by rw [settle_pp]; rfl, fun hg => ?_, fun hg => ?_,
      by simp [attemptsSpent], by simp [attemptsSpent], by simp [attemptsSpent], by simp [attemptsSpent], by simp [attemptsSpent]⟩
    · have hoff := gateOn_stopLoading .profileBad (attemptsSpent sub s)
      unfold gateOn at *
      rwa [settle_pp]
    · rw [settle_held, settle_pp]
      exact stopLoading_of_gateOn .profileBad (s := attemptsSpent sub s) hg
    · rw [settle_held, settle_pp]
      obtain ⟨hpath, hheld, -⟩ := stopLoading_of_gateOff .profileBad (s := attemptsSpent sub s) hg
      exact ⟨hheld, hpath⟩

/-! ## The end of LOADING -/

theorem levelFromStrobe_eq (p : ProfileData) (full : Bool) :
    levelFromStrobe p full = if full = true ∨ p.pRed = none then .full else .reduced := by
  unfold levelFromStrobe
  cases full <;> cases p.pRed <;> rfl

/-- Settles O17: RELEARN is silent, so that the event's end adds nothing but the lamp. -/
theorem loadingCompletes : Obligations.LoadingCompletes := by
  intro img sda p clamped s hlen hstart htimer hs himg
  have hq : silent s = true := silent_of_not_done (by simp [hstart])
  have hu : silent (completeLoading p clamped s) = true := silent_of_not_done (by simp [completeLoading])
  have hsli : (completeLoading p clamped s).sli = s.sli := by simp [completeLoading]
  have hraised : Raised (if clamped then flagWord .profileClamped else 0) s (completeLoading p clamped s) := by
    cases clamped
    · exact .of_lpi rfl
    · exact rfl
  obtain ⟨hport, hflags, -⟩ := portAfter_settle hraised (hsli ▸ hs.2)
  have hexec : exec (.profileAttemptComplete img sda) s = answer s (completeLoading p clamped s) := by
    refine (if_pos ((imageLengthOk_iff img).2 hlen)).trans (congrArg (answer s) ((if_pos (attemptRuns_of hstart htimer)).trans ?_))
    rw [himg]
  refine ⟨_, hexec, by simp [completeLoading, relearnMs], by simp [completeLoading], ?record, by simp [completeLoading], hflags, hport,
    lineAfter_settle_silent hs hq hu hsli, by simp [completeLoading], by simp [completeLoading], by simp [completeLoading],
    by simp [completeLoading], by simp [completeLoading], by simp [completeLoading], by simp [completeLoading]⟩
  case record =>
    rw [settle_ae]
    simp [completeLoading, claimVoltage, mainClosed, levelFromStrobe_eq]

end Sys2Proof.Machine

/-! The port and its flags through an event: what each shared operation of the Admission Engine can raise, and that nothing else of the
port but the lamp's phase moves. -/

namespace Sys2Proof.Machine

/-- Of the port, only the lamp's phase and flags of a mask have changed, and no flag has been cleared. -/
def PortWithin (mask : BitVec 16) (s t : State) : Prop := PortKept s t ∧ FlagsWithin mask s t

theorem portKept_iff (s t : State) : PortKept s t ↔ t.lpi.mask = s.lpi.mask ∧ t.lpi.lastCmd = s.lpi.lastCmd
    ∧ t.lpi.result = s.lpi.result ∧ t.lpi.offset = s.lpi.offset ∧ t.lpi.viewSel = s.lpi.viewSel ∧ t.lpi.buffers = s.lpi.buffers
    ∧ t.lpi.readByte = s.lpi.readByte ∧ t.lpi.transaction = s.lpi.transaction ∧ t.lpi.address = s.lpi.address := by
  unfold PortKept
  rcases hs : s.lpi with ⟨⟩
  simp

theorem PortKept.trans {s t u : State} (h : PortKept s t) (k : PortKept t u) : PortKept s u := by
  rw [portKept_iff] at *
  simp_all

theorem FlagsWithin.trans {m : BitVec 16} {s t u : State} (h : FlagsWithin m s t) (k : FlagsWithin m t u) : FlagsWithin m s u := by
  obtain ⟨hm, hs⟩ := h
  obtain ⟨km, ks⟩ := k
  refine ⟨km.trans hm, ?_⟩
  calc u.lpi.flags &&& s.lpi.flags = u.lpi.flags &&& t.lpi.flags &&& s.lpi.flags := by rw [BitVec.and_assoc, hs]
    _ = s.lpi.flags := by rw [ks, hs]

theorem PortWithin.trans {m : BitVec 16} {s t u : State} (h : PortWithin m s t) (k : PortWithin m t u) : PortWithin m s u :=
  ⟨h.1.trans k.1, h.2.trans k.2⟩

theorem PortWithin.of_lpi {m : BitVec 16} {s t : State} (h : t.lpi = s.lpi) : PortWithin m s t := by
  simp [PortWithin, PortKept, FlagsWithin, h]

theorem PortWithin.refl {m : BitVec 16} (s : State) : PortWithin m s s := .of_lpi rfl

/-- A state with the same port may take the second state's place. -/
theorem PortWithin.of_eq {m : BitVec 16} {s t u : State} (h : PortWithin m s t) (k : u.lpi = t.lpi) : PortWithin m s u := h.trans (.of_lpi k)

/-- A wider mask. -/
theorem PortWithin.mono {m m' : BitVec 16} {s t : State} (h : PortWithin m s t) (hm : m ||| m' = m') : PortWithin m' s t := by
  obtain ⟨hk, hw, hf⟩ := h
  refine ⟨hk, ?_, hf⟩
  rw [← hm, ← BitVec.or_assoc, ← BitVec.or_assoc, hw]

/-- Only flags of the word are new. -/
theorem Raised.within {w m : BitVec 16} {s t : State} (h : Raised w s t) (hm : w ||| m = m) : PortWithin m s t := by
  refine PortWithin.mono (m := w) ⟨?_, ?_, ?_⟩ hm
  · simp [PortKept, show t.lpi = _ from h]
  · rw [show t.lpi = _ from h]
    simp [BitVec.or_assoc]
  · rw [show t.lpi = _ from h]
    refine BitVec.eq_of_getLsbD_eq (fun i _ => ?_)
    simp only [BitVec.getLsbD_and, BitVec.getLsbD_or]
    cases s.lpi.flags.getLsbD i <;> simp

theorem raise_within {m : BitVec 16} {f : EventFlag} (h : flagWord f ||| m = m) (s : State) : PortWithin m s (raise f s) :=
  (raised_raise f s).within h

theorem raiseIf_within {m : BitVec 16} {f : EventFlag} (h : flagWord f ||| m = m) (c : Bool) (s : State) :
    PortWithin m s (raiseIf c f s) := by
  cases c
  · exact .refl s
  · exact raise_within h s

/-! ## Flags set and unset -/

/-- A flag stays set. -/
theorem PortWithin.flagSet_of_set {m : BitVec 16} {s t : State} {f : EventFlag} (h : PortWithin m s t) (hs : flagSet f s = true) :
    flagSet f t = true := by
  have hbit := congrArg (BitVec.getLsbD · (flagBit f)) h.2.2
  simp only [BitVec.getLsbD_and] at hbit
  unfold flagSet at *
  rw [hs, Bool.and_true] at hbit
  exact hbit

/-- A flag outside the mask stands. -/
theorem PortWithin.flag_eq {m : BitVec 16} {s t : State} {f : EventFlag} (h : PortWithin m s t) (hm : m.getLsbD (flagBit f) = false) :
    flagSet f t = flagSet f s := by
  have hbit := congrArg (BitVec.getLsbD · (flagBit f)) h.2.1
  simp only [BitVec.getLsbD_or, hm, Bool.or_false] at hbit
  exact hbit

theorem flagSet_of_raised {m : BitVec 16} {f : EventFlag} {s t : State} (h : PortWithin m (raise f s) t) : flagSet f t = true :=
  h.flagSet_of_set (flagSet_raise_self f s)

/-! ## The end of an event -/

theorem settleLamp_within (m : BitVec 16) (s u : State) : PortWithin m u (settleLamp s u) := by
  unfold settleLamp
  split
  · exact .refl u
  · simp [PortWithin, PortKept, FlagsWithin]

theorem settleCongestion_within {m : BitVec 16} (h : flagWord .line ||| m = m) (u : State) : PortWithin m u (settleCongestion u) := by
  unfold settleCongestion
  split
  · next x rest hq =>
    split
    · exact raise_within h { u with sli := { u.sli with queue := { x with congested := true } :: rest } }
    · exact .refl u
  · exact .refl u

theorem settle_lpi_before (s u : State) :
    (settlePeriodic s (if standingDue s u then requestNotice .standing u else u)).lpi = u.lpi := by
  split <;> simp

/-- An event's end raises LINE at most, for a head notice that has waited (R38). -/
theorem settle_within {m : BitVec 16} (h : flagWord .line ||| m = m) (s u : State) : PortWithin m u (settle s u) :=
  (PortWithin.of_lpi (settle_lpi_before s u)).trans ((settleCongestion_within h _).trans (settleLamp_within m s _))

/-- With no head notice due its LINE event, it raises nothing. -/
theorem settle_within_of_not_due (m : BitVec 16) (s u : State) (hc : congestionDue u.sli.queue = false) : PortWithin m u (settle s u) := by
  have hlpi := settle_lpi s u hc
  split at hlpi
  · exact .of_lpi hlpi
  · simp [PortWithin, PortKept, FlagsWithin, hlpi]

/-- Only flags raised before the end of an event, and LINE, are new after it. -/
theorem flagSet_settle_of_ne {f : EventFlag} (hf : (flagWord .line).getLsbD (flagBit f) = false) (s u : State) :
    flagSet f (settle s u) = flagSet f u := (settle_within (m := flagWord .line) (by simp) s u).flag_eq hf

theorem flagSet_settle {f : EventFlag} {s u : State} (h : flagSet f u = true) : flagSet f (settle s u) = true :=
  (settle_within (m := flagWord .line) (by simp) s u).flagSet_of_set h

/-! ## The Admission Engine -/

section
variable {m : BitVec 16}

theorem announceFrom_within (h : flagWord .phase ||| m = m) (b u : State) : PortWithin m u (announceFrom b u) := by
  rcases announceFrom_cases b u with hc | hc <;> rw [hc]
  · exact .refl u
  · exact (raise_within h u).of_eq (by simp)

theorem setReason_within (h : flagWord .denied ||| m = m) (r : WaitReason) (s : State) : PortWithin m s (setReason r s) :=
  raiseIf_within h _ { s with ae := { s.ae with reason := r } }

theorem evaluateWaiting_within (h : flagWord .denied ||| m = m) (s : State) : PortWithin m s (evaluateWaiting s) := by
  unfold evaluateWaiting
  split
  · split
    · split
      · exact .of_lpi (by simp)
      · exact setReason_within h _ s
    · exact .refl s
  · exact .refl s

theorem enterWaiting_within (hp : flagWord .phase ||| m = m) (hd : flagWord .denied ||| m = m) (s : State) :
    PortWithin m s (enterWaiting s) :=
  (announceFrom_within hp s { s with ae := { s.ae with engine := .waiting, reason := .none, exit := .none, reservation := none } }).trans
    (evaluateWaiting_within hd _)

theorem enterBackoff_within (hp : flagWord .phase ||| m = m) (s : State) : PortWithin m s (enterBackoff s) :=
  announceFrom_within hp s { s with ae := { s.ae with engine := .backoff, reservation := none, backoff := some (backoffMs s) } }

theorem closeBid_within (s : State) : PortWithin m s (closeBid s) := .of_lpi (by simp)

theorem beginDischarging_within (hp : flagWord .phase ||| m = m) (exit : DischargeExit) (s : State) :
    PortWithin m s (beginDischarging exit s) := by
  rw [beginDischarging_eq]
  exact (closeBid_within s).trans (announceFrom_within hp _ { closeBid s with ae := discharged exit s })

/-- The completion of a discharge raises DENIED only at the return to WAITING. -/
theorem completeDischarge_within_of_exit (hp : flagWord .phase ||| m = m) (s : State) (hx : s.ae.exit ≠ .waiting) :
    PortWithin m s (completeDischarge s) := by
  unfold completeDischarge
  split
  · split
    · exact .refl s
    · next h => exact absurd h hx
    · exact announceFrom_within hp s { s with ae := { s.ae with engine := .cooldown, exit := .none, cooldown := some cooldownMs } }
    · exact announceFrom_within hp s { s with ae := { s.ae with engine := .released, exit := .none } }
    · exact announceFrom_within hp s { s with ae := { s.ae with engine := .stopped, exit := .none } }
  · exact .refl s

theorem completeDischarge_within (hp : flagWord .phase ||| m = m) (hd : flagWord .denied ||| m = m) (s : State) :
    PortWithin m s (completeDischarge s) := by
  by_cases hx : s.ae.exit = .waiting
  · unfold completeDischarge
    rw [hx]
    split
    · exact enterWaiting_within hp hd s
    · exact .refl s
  · exact completeDischarge_within_of_exit hp s hx

theorem openGates_within (target : PathState) (s : State) : PortWithin m s (openGates target s) := .of_lpi (by simp)

end

end Sys2Proof.Machine

/-! The transmit queue and the line (chapter 02): beginnings, losses, clashes and loopbacks of the own notice, and the frames that do
not reach the view. -/

namespace Sys2Proof.Machine

theorem bids_iff (e : Engine) : bids e = true ↔ e = .bidding ∨ e = .admitted .upgradeBid := by
  unfold bids
  split <;> simp_all

/-! ## A transmission begins -/

section
variable {h : Queued} {rest : List Queued} {s : State}

theorem mayTransmit_of (hline : s.sli.line = .idle) (hgap : 12 ≤ s.sli.gap) (hflight : s.sli.inFlight = none)
    (hwait : s.sli.clashWait = .stopped) (hbar : ¬ (s.ae.engine = .stopped ∧ silentCause s.ae.cause = true)) :
    mayTransmit s = true := by
  have hbar' : (decide (s.ae.engine = .stopped) && silentCause s.ae.cause) = false := by simpa using hbar
  simp [mayTransmit, gapBits, hline, hgap, hflight, hwait, hbar']

/-- The line with the head notice in flight, composed with contents `n` (R26). -/
def transmitting (h : Queued) (rest : List Queued) (n : Notice) (s : State) : State :=
  { s with sli := { s.sli with
      line := .busy, gap := 0, deaf := false, queue := rest
      inFlight := some { kind := h.kind, waited := h.waited, congested := h.congested, contents := n,
                         bits := encodeFrame h.kind n, dropped := false, voided := false,
                         afterUpgrade := s.ae.profFullPending } } }

theorem exec_transmissionBegin {n : Notice} (hq : s.sli.queue = h :: rest) (hs : Settled s) (hc : congestionDue rest = false)
    (hmay : mayTransmit s = true) (hn : composeNotice h.kind s = some n) :
    exec .transmissionBegin s = .next (transmitting h rest n s) := by
  have hsame : SameRecord s (transmitting h rest n s) := ⟨rfl, rfl, rfl, .rfl, .rfl, rfl, rfl⟩
  show execTransmissionBegin s = _
  unfold execTransmissionBegin
  rw [hq]
  dsimp only
  rw [hn]
  dsimp only
  rw [if_pos hmay]
  exact answer_of_sameRecord hsame (fun hu => hs.1 (hsame.silent ▸ hu)) hc

theorem composeNotice_of_not_leave {k : NoticeKind} (hk : k ≠ .leave) (s : State) : composeNotice k s = composeOwn s := by
  cases k <;> first | rfl | exact absurd rfl hk

end

/-- Settles O21. -/
theorem transmissionComposesTheHeadNotice : Obligations.TransmissionComposesTheHeadNotice := by
  intro h rest s hq hs hc hline hgap hflight hwait hbar
  have hmay := mayTransmit_of hline hgap hflight hwait hbar
  refine ⟨fun p hp sl hsl ph hph hk => ?own, fun c hcopy hk => ?leave⟩
  case own =>
    refine exec_transmissionBegin hq hs hc hmay ?_
    have hamount : announcedAmount s = (match s.ae.bid, s.ae.engine with
        | some b, _ => b | none, .powering => s.ae.iSet.getD 0 | none, _ => 0) := by
      unfold announcedAmount
      cases s.ae.bid
      · cases s.ae.engine <;> rfl
      · rfl
    rw [composeNotice_of_not_leave hk, composeOwn, hp, hsl, hph]
    dsimp only
    rw [hamount]
    rfl
  case leave =>
    refine ⟨_, exec_transmissionBegin (n := composeLeave c) hq hs hc hmay ?_, ?_, rfl, rfl, rfl⟩
    · rw [hk, composeNotice, hcopy]
      rfl
    · simp [transmitting, hk, composeLeave]

/-! ## Losses and clashes -/

section
variable {f : InFlight} {s : State}

/-- The line after a loss, with the notice returned (R27). -/
theorem exec_lostArbitration (hf : s.sli.inFlight = some f) (hs : Settled s) (hc : congestionDue (queueAfterReturn f s.sli.queue) = false) :
    exec .lostArbitration s = .next { s with sli := { returnNotice f s.sli with deaf := false } } := by
  show execLostArbitration s = _
  unfold execLostArbitration
  rw [hf]
  exact answer_of_sameRecord ⟨rfl, rfl, rfl, .rfl, .rfl, rfl, rfl⟩ hs.1 hc

theorem exec_loopback_failed (hf : s.sli.inFlight = some f) (hs : Settled s)
    (hc : congestionDue (queueAfterReturn f s.sli.queue) = false) :
    exec (.loopback false) s = .next { s with sli := countError (returnNotice f (endFrame s.sli)) } := by
  show execLoopback false s = _
  unfold execLoopback
  rw [hf]
  exact answer_of_sameRecord ⟨rfl, rfl, rfl, .rfl, .rfl, rfl, rfl⟩ hs.1 hc

/-- The station after a clash (R28), before a second one is taken as a slot clash. -/
def clashed (f : InFlight) (s : State) : State :=
  { s with sli := { returnNotice f s.sli with
                      deaf := true, clashCount := s.sli.clashCount + 1
                      clashWait := .awaitingGap (clashWaitMs (clashChecksum s)) },
           freeCount := freeCountAfterClash s }

theorem exec_clash (hf : s.sli.inFlight = some f) :
    exec .clash s = answer s (if 1 ≤ s.sli.clashCount then slotClash (clashed f s) else clashed f s) := by
  show execClash s = _
  unfold execClash
  rw [hf]
  rfl

theorem exec_first_clash (hf : s.sli.inFlight = some f) (hs : Settled s)
    (hc : congestionDue (queueAfterReturn f s.sli.queue) = false) (hcount : s.sli.clashCount = 0) :
    exec .clash s = .next (clashed f s) := by
  rw [exec_clash hf, if_neg (by omega)]
  exact answer_of_sameRecord ⟨rfl, rfl, rfl, .rfl, .rfl, rfl, rfl⟩ hs.1 hc

theorem clashWaitMs_range (c : BitVec 16) : 1 ≤ clashWaitMs c ∧ clashWaitMs c ≤ 16 := by
  unfold clashWaitMs
  omega

/-! The returns to the queue, case by case (R35, R36). -/

theorem queueAfterReturn_of_barred {q : List Queued} (h : f.dropped = true ∨ isQueued .leave q = true) : queueAfterReturn f q = q := by
  rcases h with h | h <;> simp [queueAfterReturn, h]

theorem queueAfterReturn_of_yield {q : List Queued} (hd : f.dropped = false) (hl : isQueued .leave q = false)
    (hy : f.kind = .bid ∧ isQueued .yield q = true) : queueAfterReturn f q = dequeue .yield q := by
  simp [queueAfterReturn, hd, hl, hy]

theorem queueAfterReturn_to_head {q : List Queued} (hd : f.dropped = false) (hl : isQueued .leave q = false)
    (hy : ¬ (f.kind = .bid ∧ isQueued .yield q = true)) :
    queueAfterReturn f q = { kind := f.kind, waited := f.waited, congested := f.congested } :: dequeue f.kind q := by
  unfold queueAfterReturn
  rw [if_neg (by simp [hd, hl]), if_neg hy]

end

/-- Settles O22. -/
theorem lossesReturnTheNotice : Obligations.LossesReturnTheNotice := by
  intro f s hf hs hc
  exact ⟨queueAfterReturn_of_barred, fun hd hl hk hy => queueAfterReturn_of_yield hd hl ⟨hk, hy⟩,
    fun hd hl hy => queueAfterReturn_to_head hd hl hy, fun h0 => ⟨_, exec_first_clash hf hs hc h0, rfl, rfl⟩,
    exec_lostArbitration hf hs hc, exec_loopback_failed hf hs hc⟩

/-- Settles O23. -/
theorem firstClashStartsTheWait : Obligations.FirstClashStartsTheWait := by
  intro f s hf hs hc h0
  obtain ⟨hlow, hhigh⟩ := clashWaitMs_range (clashChecksum s)
  refine ⟨_, exec_first_clash hf hs hc h0, ⟨_, hhigh, hlow, ?_, fun c hcopy => ?_, fun p hp hcopy => ?_⟩, rfl⟩
  · simp [clashed, returnNotice, h0]
  · simp [clashWaitMs, clashChecksum, hcopy]
  · simp [clashWaitMs, clashChecksum, hcopy, hp]

/-! ## The loopback -/

/-- The line after a passed loopback (R29, R37). -/
def sentLine (f : InFlight) (l : LineInterface) : LineInterface :=
  { endFrame l with inFlight := none, clashCount := 0, leaveCopy := if f.kind = .leave then none else l.leaveCopy }

/-- A sent STANDING strobes a pending PROF_FULL where it was begun with it (R92). -/
def strobes (f : InFlight) (s : State) : Bool := decide (f.kind = .standing) && f.afterUpgrade && s.ae.profFullPending

/-- The own record after it: the BID of the open bid opens its window, and a strobe ends the pending assertion (R81, R91, R92). -/
def sentRecord (f : InFlight) (s : State) : OwnRecord :=
  { s.ae with
    window := if f.kind = .bid ∧ f.voided = false ∧ bids s.ae.engine = true ∧ s.ae.window = none then some 120 else s.ae.window
    profFullPending := s.ae.profFullPending && !strobes f s }

/-- The station after a passed loopback, less the PROFILE event of a strobe. -/
def afterSent (f : InFlight) (s : State) : State :=
  { s with sli := sentLine f s.sli, ae := sentRecord f s, held := { s.held with profFull := s.held.profFull || strobes f s } }

theorem noticeSent_eq (f : InFlight) (s : State) :
    noticeSent f { s with sli := { endFrame s.sli with inFlight := none, clashCount := 0 } } =
      raiseIf (strobes f s) .profile (afterSent f s) := by
  unfold afterSent sentRecord
  unfold noticeSent
  cases hk : f.kind with
  | bid =>
    simp only [bids_iff]
    by_cases h : f.voided = false ∧ (s.ae.engine = .bidding ∨ s.ae.engine = .admitted .upgradeBid) ∧ s.ae.window = none
    · simp [strobes, sentLine, endFrame, hk, h, raiseIf, windowMs]
    · simp [strobes, sentLine, endFrame, hk, h, raiseIf]
  | standing =>
    by_cases h : f.afterUpgrade = true ∧ s.ae.profFullPending = true
    · simp [strobes, sentLine, endFrame, hk, h, raiseIf]
    · have hno : (f.afterUpgrade && s.ae.profFullPending) = false := by simpa using h
      simp [strobes, sentLine, endFrame, hk, h, hno, raiseIf]
  | yield => simp [strobes, sentLine, endFrame, hk, raiseIf]
  | leave => simp [strobes, sentLine, endFrame, hk, raiseIf]

/-- What an event's end reads of a record that differs in the open bid's window and the pending PROF_FULL assertion alone is the same. -/
theorem settle_of_window_and_strobe {s u : State} (hs : Settled s) (window : Timer) (pending : Bool)
    (hae : u.ae = { s.ae with window := window, profFullPending := pending }) (hpp : u.pp = s.pp) (hsc : u.sc = s.sc) (hrc : u.rc = s.rc)
    (hq : u.sli.queue = s.sli.queue) (hp : u.sli.periodic = s.sli.periodic) : settle s u = u := by
  have hsilent : silent u = silent s := by simp [silent, hae, hsc]
  have hclaim : ownClaim u = ownClaim s := by simp [ownClaim, ownSteady, hae, hsc, hpp]
  refine settle_of_unannounced s u ?_ hsilent.symm (fun h => ?_) (by rw [hq]; exact hs.2) ?_
  · simp [standingDue, hclaim, hae, hrc, bidOpen]
  · rw [hp]
    exact hs.1 (hsilent ▸ h)
  · simp [lampPattern, hae, hpp]

/-- Settles O25. -/
theorem loopbackSendsTheNotice : Obligations.LoopbackSendsTheNotice := by
  intro f s hf hs
  have hexec : exec (.loopback true) s
      = answer s (noticeSent f { s with sli := { endFrame s.sli with inFlight := none, clashCount := 0 } }) := by
    show execLoopback true s = _
    unfold execLoopback
    rw [hf]
    rfl
  have hsettle : settle s (raiseIf (strobes f s) .profile (afterSent f s)) = raiseIf (strobes f s) .profile (afterSent f s) :=
    settle_of_window_and_strobe hs (sentRecord f s).window (sentRecord f s).profFullPending (by rw [raiseIf_ae]; rfl)
      (by rw [raiseIf_pp]; rfl) (by rw [raiseIf_sc]; rfl) (by rw [raiseIf_rc]; rfl) (by rw [raiseIf_sli]; rfl)
      (by rw [raiseIf_sli]; rfl)
  have hraised : Raised (if strobes f s then flagWord .profile else 0) s (raiseIf (strobes f s) .profile (afterSent f s)) := by
    cases strobes f s
    · exact .of_lpi rfl
    · exact rfl
  have hport := portAfter_settle hraised (by rw [raiseIf_sli]; exact hs.2)
  rw [hsettle] at hport
  refine ⟨raiseIf (strobes f s) .profile (afterSent f s), ?_, by rw [raiseIf_sli]; rfl, by rw [raiseIf_ae]; rfl,
    ⟨by rw [raiseIf_held]; rfl, by rw [raiseIf_ae]; rfl, hport⟩, by simp [afterSent]⟩
  rw [hexec, noticeSent_eq, answer, hsettle]

/-! ## Frames that do not reach the view -/

/-- The four notices as frames received whole and at their ends. -/
theorem exec_notice_mem {n : Notice} {c : Instr} (hc : c ∈ [Instr.standingNotice n, .bidNotice n, .yieldNotice n, .leaveNotice n])
    (s : State) : ∃ k, exec c s = answer s (receiveValid k n s) := by
  simp only [List.mem_cons, List.not_mem_nil, or_false] at hc
  rcases hc with rfl | rfl | rfl | rfl
  exacts [⟨_, rfl⟩, ⟨_, rfl⟩, ⟨_, rfl⟩, ⟨_, rfl⟩]

/-- A frame that the station does not receive, whichever command brings it, moves the line to its end at most (R23, R28). -/
theorem exec_frame_not_received {n : Notice} {bits : BitVec 64} {recessive : Bool} {c : Instr} {s : State} (hr : receives s.sli = false)
    (hc : c ∈ [Instr.standingNotice n, .bidNotice n, .yieldNotice n, .leaveNotice n, .invalidFrame bits recessive]) :
    exec c s = answer s { s with sli := frameEnds s.sli } := by
  have hnot : ¬ receives s.sli = true := by simp [hr]
  simp only [List.mem_cons, List.not_mem_nil, or_false] at hc
  rcases hc with rfl | rfl | rfl | rfl | rfl <;> exact congrArg (answer s) (if_neg hnot)

/-- Bits that form a valid frame are that notice (R31). -/
theorem exec_encoded (k : NoticeKind) (n : Notice) (s : State) :
    exec (.invalidFrame (encodeFrame k n) true) s = answer s (receiveValid k n s) := by
  show answer s (receiveBits (encodeFrame k n) true s) = _
  unfold receiveBits receiveValid
  rw [(frameDecodesAsCoded k n).1]
  rfl

theorem exec_invalidFrame_fails {bits : BitVec 64} {recessive : Bool} {s : State} (hr : receives s.sli = true)
    (hbad : decodeFrame bits = none ∨ recessive = false) :
    exec (.invalidFrame bits recessive) s = answer s { s with sli := countError (endFrame s.sli) } := by
  refine congrArg (answer s) ((if_pos hr).trans ?_)
  rw [frameEnds_of_receives _ hr]
  cases hd : decodeFrame bits with
  | none => rfl
  | some x =>
    rcases hbad with h | h
    · simp [h] at hd
    · simp [h]

/-- Settles O31: in each case the line is at its frame's end, with an error counted or not, or as it was. -/
theorem framesThatDoNotReachTheView : Obligations.FramesThatDoNotReachTheView := by
  intro bits recessive n s hs
  have hline {l : LineInterface} (hq : l.queue = s.sli.queue) (hp : l.periodic = s.sli.periodic) :
      answer s { s with sli := l } = .next { s with sli := l } :=
    answer_of_sameRecord ⟨rfl, rfl, rfl, .rfl, .rfl, rfl, rfl⟩ (fun h => hp.trans (hs.1 h)) (hq ▸ hs.2)
  refine ⟨fun hr hbad => (exec_invalidFrame_fails hr hbad).trans (hline rfl rfl), exec_encoded .standing n s, exec_encoded .leave n s,
    fun hr ho c hc => ?closed, fun hno c hc => ?silent, fun hstuck hflight hdeaf c hc => ?deaf⟩
  case closed =>
    obtain ⟨k, hk⟩ := exec_notice_mem hc s
    have hdrop : receiveValid k n s = { s with sli := endFrame s.sli } := by
      rw [receiveValid_of_receives k n s hr]
      simp [deliver, afterFrame, ho]
    rw [hk, hdrop]
    exact hline rfl rfl
  case silent =>
    have hnone : receives s.sli = false ∧ frameEnds s.sli = s.sli := by
      rcases hno with h | h | ⟨hi, hg, hd⟩
      · exact receives_stuck _ h
      · exact receives_inFlight _ h
      · exact receives_gap_incomplete _ hi hd hg
    rw [exec_frame_not_received hnone.1 hc, hnone.2]
    exact answer_self hs
  case deaf =>
    have hlistens : listens s.sli = true := by simp [listens, frameStands, hstuck, hflight, hdeaf]
    rw [exec_frame_not_received (by simp [receives, hdeaf]) hc, frameEnds, if_pos hlistens]
    exact hline rfl rfl

/-! ## Ageing -/

/-- A table in ascending slot with one slot's entry STALE. -/
def staleAt (sl : Slot) (e : Entry) : Entry := if e.slot = sl then staleEntry e else e

theorem insertEntry_staleEntry {t : List Entry} {sl : Slot} {e : Entry} (ha : ascending t = true) (he : lookup t sl = some e) :
    insertEntry (staleEntry e) t = t.map (staleAt sl) := by
  rw [ascending_iff] at ha
  induction t with
  | nil => simp [lookup_nil] at he
  | cons x xs ih =>
    obtain ⟨hx, hxs⟩ := List.pairwise_cons.1 ha
    rw [lookup_cons] at he
    split at he
    · next hslot =>
      obtain rfl : x = e := by simpa using he
      have htail : xs.map (staleAt sl) = xs := by
        refine (List.map_congr_left fun y hy => ?_).trans (List.map_id xs)
        exact if_neg (hslot ▸ (hx y hy).ne')
      rw [List.map_cons, htail]
      simp [insertEntry, staleAt, hslot]
    · next hne =>
      obtain ⟨hmem, hslot⟩ := lookup_mem he
      have hlt : x.slot < (staleEntry e).slot := hx e hmem
      unfold insertEntry
      rw [if_neg (not_lt.2 hlt.le), if_neg hlt.ne', ih hxs he, List.map_cons]
      simp [staleAt, hne]

/-- What the sums and the mismatch conditions read of an entry, staleness is no part of (R12). -/
theorem staleAt_fields (sl : Slot) (e : Entry) : (staleAt sl e).slot = e.slot ∧ (staleAt sl e).phase = e.phase
    ∧ (staleAt sl e).capValid = e.capValid ∧ (staleAt sl e).capacity = e.capacity ∧ (staleAt sl e).mate = e.mate
    ∧ loadOf (staleAt sl e) = loadOf e ∧ ∀ rank, betterBid rank (staleAt sl e) = betterBid rank e := by
  unfold staleAt
  split <;> exact ⟨rfl, rfl, rfl, rfl, rfl, rfl, fun _ => rfl⟩

theorem sums_of_staleAt (sl : Slot) (t : List Entry) : committedLoad (t.map (staleAt sl)) = committedLoad t
    ∧ prechargingCount (t.map (staleAt sl)) = prechargingCount t ∧ (∀ f, cMin f (t.map (staleAt sl)) = cMin f t)
    ∧ (∀ rank, betterBids rank (t.map (staleAt sl)) = betterBids rank t)
    ∧ (∀ rank, betterInitialBids rank (t.map (staleAt sl)) = betterInitialBids rank t) := by
  refine ⟨?_, ?_, fun f => ?_, fun rank => ?_, fun rank => ?_⟩
  · simp only [committedLoad, List.map_map, Function.comp_def, staleAt_fields]
  · simp only [prechargingCount, List.filter_map, List.length_map, Function.comp_def, staleAt_fields]
  · simp only [cMin, List.foldl_map, staleAt_fields]
  · simp only [betterBids, List.map_map, Function.comp_def, staleAt_fields]
  · simp only [betterInitialBids, List.filter_map, List.length_map, Function.comp_def, staleAt_fields]

theorem lookup_staleAt (sl x : Slot) (t : List Entry) : lookup (t.map (staleAt sl)) x = (lookup t x).map (staleAt sl) := by
  induction t with
  | nil => rfl
  | cons y ys ih =>
    rw [List.map_cons, lookup_cons, lookup_cons, ih, (staleAt_fields sl y).1]
    split <;> rfl

theorem mismatches_of_staleAt {s t : State} {sl : Slot} (hsc : t.sc = s.sc) (htable : t.sv.table = s.sv.table.map (staleAt sl)) :
    mateMismatch t = mateMismatch s ∧ capacityMismatch t = capacityMismatch s := by
  constructor
  · unfold mateMismatch
    rw [hsc, htable]
    cases s.sc.profile with
    | none => rfl
    | some p =>
      cases hm : p.mate with
      | none => simp [hm]
      | some m =>
        simp only [hm, lookup_staleAt]
        cases lookup s.sv.table m with
        | none => rfl
        | some e => simp only [Option.map_some, staleAt_fields]
  · unfold capacityMismatch
    rw [hsc, htable]
    cases s.sc.profile with
    | none => rfl
    | some p => simp only [List.any_map, Function.comp_def, staleAt_fields]

/-- The commands of ageing, where they act. -/
theorem exec_entryStale {sl : Slot} {e : Entry} {s : State} (he : lookup s.sv.table sl = some e) (hf : e.stale = false)
    (ha : 200 ≤ e.age) :
    exec (.entryStale sl) s = answer s (viewChanged s (withTable (insertEntry (staleEntry e) s.sv.table) s)) := by
  show execEntryStale sl s = _
  unfold execEntryStale
  rw [he]
  exact congrArg (answer s) (if_neg (by simp [hf, staleMs, ha]))

theorem exec_peerExpired {sl : Slot} {e : Entry} {s : State} (he : lookup s.sv.table sl = some e) (ha : 1000 ≤ e.age) :
    exec (.peerExpired sl) s = answer s (viewChanged s (raise .peerExpired (withTable (removeEntry sl s.sv.table) s))) := by
  show execPeerExpired sl s = _
  unfold execPeerExpired
  rw [he]
  exact congrArg (answer s) (if_neg (by simp [expireMs, ha]))

/-- Settles O32: the view change that follows moves no entry, and what it raises clears no flag. -/
theorem entriesAgeAndExpire : Obligations.EntriesAgeAndExpire := by
  intro sl e s hs
  refine ⟨fun he hf ha => ?stale, fun he ha => ?expired, fun h => ?youngStale, fun h => ?youngExpired⟩
  case stale =>
    obtain ⟨-, rfl⟩ := lookup_mem he
    refine ⟨_, exec_entryStale he hf ha, ?_, fun x hx => ?_, fun hasc => ?_, by simp, by simp, by simp, by simp, by simp⟩
    · rw [settle_sv, viewChanged_sv]
      exact lookup_insertEntry_self (staleEntry e) s.sv.table
    · rw [settle_sv, viewChanged_sv]
      exact lookup_insertEntry_ne _ _ _ hx
    · have htable : (settle s (viewChanged s (withTable (insertEntry (staleEntry e) s.sv.table) s))).sv.table
          = s.sv.table.map (staleAt e.slot) := by
        rw [settle_sv, viewChanged_sv]
        exact insertEntry_staleEntry hasc he
      obtain ⟨hload, hpre, hmin, hbids, hinitial⟩ := sums_of_staleAt e.slot s.sv.table
      refine ⟨htable ▸ hload, htable ▸ hpre, ?_, htable ▸ hbids _, htable ▸ hinitial _,
        mismatches_of_staleAt (by simp) htable⟩
      unfold ownCEff cEff
      rw [htable]
      simp only [settle_sc, viewChanged_sc, withTable_sc, hmin]
  case expired =>
    refine ⟨_, exec_peerExpired he ha, ?_, fun x hx => ?_, ?_, by simp, by simp, by simp, by simp, by simp⟩
    · rw [settle_sv, viewChanged_sv]
      exact lookup_removeEntry_self sl s.sv.table
    · rw [settle_sv, viewChanged_sv]
      exact lookup_removeEntry_ne _ _ _ hx
    · refine flagSet_settle ?_
      rw [flagSet_peerExpired, (viewChanged_quiet _ _).2, ← flagSet_peerExpired]
      exact flagSet_raise_self _ _
  case youngStale =>
    refine Eq.trans (congrArg (answer s) ?_) (answer_self hs)
    rcases h with hnone | ⟨he, hy⟩
    · rw [hnone]
    · rw [he]
      exact if_pos hy
  case youngExpired =>
    refine Eq.trans (congrArg (answer s) ?_) (answer_self hs)
    rcases h with hnone | ⟨he, hy⟩
    · rw [hnone]
    · rw [he]
      exact if_pos hy

end Sys2Proof.Machine

/-! The slot clash (R30, R31): with the main switch closed the line alone, with it open a stop with SLOT_CLASH. -/

namespace Sys2Proof.Machine

/-! ## The line at the end of an event that nothing is known of before -/

/-- A queue's notices with their waits. -/
def places (q : List Queued) : List (NoticeKind × Nat) := q.map (fun x => (x.kind, x.waited))

theorem places_settleCongestion (s : State) : places (settleCongestion s).sli.queue = places s.sli.queue := by
  unfold settleCongestion
  split
  · next hq => split <;> simp [places, hq]
  · rfl

theorem settleCongestion_periodic (s : State) : (settleCongestion s).sli.periodic = s.sli.periodic := by
  unfold settleCongestion
  split
  · split <;> rfl
  · rfl

/-- The queue's notices at the end of an event that calls for no STANDING. -/
theorem places_settle {s u : State} (hd : standingDue s u = false) : places (settle s u).sli.queue = places u.sli.queue := by
  unfold settle
  dsimp only
  rw [settleLamp_sli, places_settleCongestion, settlePeriodic_queue, hd]
  rfl

/-- The periodic timer at the end of an event (R40). -/
theorem periodic_settle (s u : State) :
    (settle s u).sli.periodic = if silent u then none else if silent s then some periodicMs else u.sli.periodic := by
  have hsilent : silent (if standingDue s u then requestNotice .standing u else u) = silent u := by
    split
    · simp [silent]
    · rfl
  have hperiodic : (if standingDue s u then requestNotice .standing u else u).sli.periodic = u.sli.periodic := by
    rw [standing_eq]
    split <;> rfl
  unfold settle
  dsimp only
  rw [settleLamp_sli, settleCongestion_periodic]
  unfold settlePeriodic
  rw [hsilent]
  split
  · rfl
  · split
    · rfl
    · exact hperiodic

/-- The line at the end of an event that ends in silence. -/
theorem settle_sli_in_silence {s u : State} (hu : silent u = true) (hc : congestionDue u.sli.queue = false) :
    (settle s u).sli = { u.sli with periodic := none } := by
  rw [settle_sli_eq s u hc, standing_eq, if_neg (by simp [standingAsked, hu])]
  simp [settlePeriodic, hu]

/-! ## The slot clash -/

section
variable {s : State}

theorem slotClash_of_closed (h : s.pp.path = .closed) :
    slotClash s = raise .line { s with sli := { s.sli with clashCount := 0 } } := by
  simp [slotClash, slotClashStops, mainClosed, h]

theorem slotClash_of_not_closed (h : s.pp.path ≠ .closed)
    (halive : s.sc.start = .relearn ∧ s.ae.engine = .none ∨ s.sc.start = .done ∧ s.ae.engine ≠ .none)
    (hbar : ¬ (s.ae.engine = .stopped ∧ silentCause s.ae.cause = true)) :
    slotClash s = stopSlotClash (raise .line { s with sli := { s.sli with clashCount := 0 } }) := by
  have hstops : slotClashStops (raise .line { s with sli := { s.sli with clashCount := 0 } }) = true := by
    have hmain : mainClosed s = false := by simp [mainClosed, h]
    show (!mainClosed s && _) = true
    rw [hmain]
    rcases halive with ⟨hr, he⟩ | ⟨-, he⟩
    · simp [he, hr]
    · cases hengine : s.ae.engine <;> simp_all
  unfold slotClash
  rw [if_pos hstops]

/-- What a stop with SLOT_CLASH leaves (R30, R39). -/
theorem stopSlotClash_fields (s : State) : (stopSlotClash s).ae.engine = .stopped ∧ (stopSlotClash s).ae.cause = .slotClash
    ∧ (stopSlotClash s).ae.bid = none ∧ (stopSlotClash s).ae.exit = .none ∧ (stopSlotClash s).ae.source = .none
    ∧ (stopSlotClash s).ae.retryCount = s.ae.retryCount ∧ (stopSlotClash s).sc = { s.sc with start := .done, relearn := none }
    ∧ (stopSlotClash s).sli = purgeQueue s.sli := by
  simp [stopSlotClash, slotClashRecord]

theorem stopSlotClash_pp (s : State) : (stopSlotClash s).pp = (openGates .opened s).pp := rfl

theorem stopSlotClash_within (s : State) : PortWithin (flagWord .fault) s (stopSlotClash s) :=
  (openGates_within .opened s).trans (Raised.within (w := flagWord .fault) rfl (by simp))

/-- The commands of a slot clash, with the line as they leave it before it (R28, R31). -/
theorem exec_slotClash {n : Notice} {c : Instr}
    (h : (c = .standingNotice n ∨ c = .bidNotice n ∨ c = .yieldNotice n ∨ c = .leaveNotice n)
        ∧ s.sv.opened = true ∧ s.sc.slot = some n.slot ∧ receives s.sli = true
      ∨ c = .clash ∧ s.sli.inFlight.isSome = true ∧ s.sli.clashCount = 1) :
    ∃ l k, exec c s = answer s (slotClash { s with sli := l, freeCount := k }) ∧ l.periodic = s.sli.periodic
      ∧ (c ≠ .clash → l.queue = s.sli.queue) ∧ (c = .clash → ∀ f, s.sli.inFlight = some f → l.queue = queueAfterReturn f s.sli.queue) := by
  rcases h with ⟨hc, hopen, hslot, hr⟩ | ⟨rfl, hf, hcount⟩
  · have hclash (k : NoticeKind) : receiveValid k n s = slotClash (afterFrame s) := by
      rw [receiveValid_of_receives k n s hr]
      simp [deliver, hopen, hslot]
    refine ⟨endFrame s.sli, s.freeCount, ?_, rfl, fun _ => rfl, fun h => ?_⟩
    · rcases hc with rfl | rfl | rfl | rfl <;> exact congrArg (answer s) (hclash _)
    · subst h
      simp at hc
  · obtain ⟨f, hf⟩ := Option.isSome_iff_exists.1 hf
    refine ⟨(clashed f s).sli, freeCountAfterClash s, (exec_clash hf).trans (congrArg (answer s) (if_pos hcount.ge)), rfl,
      fun h => absurd rfl h, fun _ g hg => ?_⟩
    rw [hf] at hg
    cases hg
    rfl

end

/-- Settles O24. -/
theorem slotClashStopsAnOpenStation : Obligations.SlotClashStopsAnOpenStation := by
  intro n c s hc halive hbar
  obtain ⟨l, k, hexec, hperiodic, hqueue, hreturn⟩ := exec_slotClash hc
  obtain ⟨b, hb⟩ : ∃ b : State, b = { s with sli := l, freeCount := k } := ⟨_, rfl⟩
  rw [← hb] at hexec
  by_cases hclosed : s.pp.path = .closed
  · have hclash := slotClash_of_closed (s := b) (by rw [hb]; exact hclosed)
    have hsame : SameRecord s (slotClash b) := by rw [hclash, hb]; exact ⟨rfl, rfl, rfl, .rfl, .rfl, rfl, rfl⟩
    have hplaces : places (settle s (slotClash b)).sli.queue = places l.queue := by
      rw [places_settle hsame.standingDue, hclash, hb]
      rfl
    obtain ⟨hae, hpp, hheld, hbp, hrc, hsc⟩ : (slotClash b).ae = s.ae ∧ (slotClash b).pp = s.pp ∧ (slotClash b).held = s.held
        ∧ (slotClash b).bp = s.bp ∧ (slotClash b).rc = s.rc ∧ (slotClash b).sc = s.sc := by
      rw [hclash, hb]
      exact ⟨rfl, rfl, rfl, rfl, rfl, rfl⟩
    have hframe := (settle_quiet s (slotClash b)).1
    refine ⟨_, hexec, ?count, ?line, ?_, ?_, ?_, ?_, fun _ => ⟨(settle_ae _ _).trans hae,
        (settle_pp _ _).trans hpp, (settle_held _ _).trans hheld, (settle_bp _ _).trans hbp, (settle_rc _ _).trans hrc,
        (settle_sc _ _).trans hsc, ?fault, ?periodic,
        fun hne => hplaces.trans (congrArg places (hqueue hne)), fun he f hf => hplaces.trans (congrArg places (hreturn he f hf))⟩,
      fun h => absurd hclosed h⟩
    case count => exact (congrArg LineInterface.clashCount hframe).trans (by rw [hclash]; rfl)
    case line => exact flagSet_settle (by rw [hclash]; exact flagSet_raise_self _ _)
    case fault =>
      rw [flagSet_settle_of_ne (by decide), hclash, hb]
      exact (raise_within (m := flagWord .line) (by simp) _).flag_eq (by decide)
    case periodic =>
      rw [periodic_settle, hsame.silent, hclash, hb]
      split
      · rfl
      · exact hperiodic
    all_goals simp [hb]
  · have hclash := slotClash_of_not_closed (s := b) (by rw [hb]; exact hclosed) (by rw [hb]; exact halive) (by rw [hb]; exact hbar)
    obtain ⟨hengine, hcause, hbid, hexit, hsource, hretry, hsc, hsli⟩ :=
      stopSlotClash_fields (raise .line { b with sli := { b.sli with clashCount := 0 } })
    have hwithin := stopSlotClash_within (raise .line { b with sli := { b.sli with clashCount := 0 } })
    have hpp := stopSlotClash_pp (raise .line { b with sli := { b.sli with clashCount := 0 } })
    rw [← hclash] at hengine hcause hbid hexit hsource hretry hsc hsli hwithin hpp
    have hline : (settle s (slotClash b)).sli = { (slotClash b).sli with periodic := none } :=
      settle_sli_in_silence (silent_of_stopped hengine (by rw [hcause]; rfl)) (by rw [hsli]; rfl)
    refine ⟨_, hexec, ?count, ?line, ?_, ?_, ?_, ?_, fun h => absurd h hclosed, fun _ => ⟨by rw [settle_ae, hengine],
      by rw [settle_ae, hcause], by rw [settle_ae, hbid], by rw [settle_ae, hexit], by rw [settle_ae, hsource], ?retry, ?gate,
      fun hg => ?path, by rw [hline, hsli]; rfl, by rw [hline], fun f hf => ?dropped, ?start, ?fault⟩⟩
    case count => rw [hline, hsli]; rfl
    case line => exact flagSet_settle (flagSet_of_raised hwithin)
    case retry => rw [settle_ae, hretry, hb]; rfl
    case gate =>
      have hoff := gateOn_openGates .opened (raise .line { b with sli := { b.sli with clashCount := 0 } }) (.inl rfl)
      unfold gateOn at *
      rwa [settle_pp, hpp]
    case path =>
      rw [settle_pp, hpp, openGates_of_gateOff _ _ (by rw [hb]; exact hg), hb]
      rfl
    case dropped =>
      rw [hline, hsli] at hf
      obtain ⟨g, -, rfl⟩ := Option.map_eq_some_iff.1 hf
      rfl
    case start => rw [settle_sc, hsc, hb]; rfl
    case fault => exact flagSet_settle (by rw [hclash]; exact flagSet_raise_self .fault _)
    all_goals simp [hb]

end Sys2Proof.Machine

/-! The Admission Engine's shared operations as equations: what is announced, the evaluation of WAITING, bids opened and closed, and
what they leave queued at an event's end. -/

namespace Sys2Proof.Machine

/-! ## What is announced stands -/

/-- Every part of the own record and the path that an event's end reads stands. -/
structure SameShown (s u : State) : Prop where
  engine : u.ae.engine = s.ae.engine
  level : u.ae.profile = s.ae.profile
  bid : u.ae.bid.isSome = s.ae.bid.isSome
  reservation : u.ae.reservation = s.ae.reservation
  carrying : u.ae.carrying = s.ae.carrying
  vC : u.ae.vC = s.ae.vC
  keptClaim : u.ae.keptClaim = s.ae.keptClaim
  cause : u.ae.cause = s.ae.cause
  exit : u.ae.exit = s.ae.exit
  pp : u.pp.path = s.pp.path ∧ u.pp.discharged = s.pp.discharged
  sc : u.sc = s.sc
  request : u.rc.handoverReq = s.rc.handoverReq

theorem SameShown.silent {s u : State} (h : SameShown s u) : silent u = silent s := by
  unfold Machine.silent
  rw [h.sc, h.engine, h.cause]

theorem SameShown.standingDue {s u : State} (h : SameShown s u) : standingDue s u = false := by
  have hsteady : ownSteady u = ownSteady s := by unfold ownSteady; rw [h.sc, h.vC, h.level]
  have hclaim : ownClaim u = ownClaim s := by
    unfold ownClaim
    rw [h.engine, h.pp.1, h.sc, h.keptClaim, h.reservation, hsteady]
  unfold Machine.standingDue bidOpen
  rw [hclaim, h.level, h.bid, h.carrying, h.request]
  simp

theorem SameShown.lampPattern {s u : State} (h : SameShown s u) : lampPattern u = lampPattern s := by
  unfold Machine.lampPattern
  rw [h.engine, h.level, h.exit, h.pp.2]

/-- An event after which nothing else is announced ends as its body left it. -/
theorem SameShown.settle {s u : State} (h : SameShown s u) (hs : Settled s) (hq : u.sli.queue = s.sli.queue)
    (hp : u.sli.periodic = s.sli.periodic) : settle s u = u :=
  settle_of_unannounced s u h.standingDue h.silent.symm (fun hu => hp.trans (hs.1 (h.silent ▸ hu))) (by rw [hq]; exact hs.2)
    h.lampPattern.symm

/-! ## Announcements -/

theorem announceFrom_same {b u : State} (h : announcedPhase u = announcedPhase b) : announceFrom b u = u := by
  unfold announceFrom
  rw [h]
  split
  · next hp => rw [if_pos hp]
  · rfl

/-- Outside STOPPED what is announced is the engine's phase, from DONE on. -/
theorem announcedPhase_of_not_stopped {s : State} (h : s.ae.engine ≠ .stopped) :
    announcedPhase s = if s.sc.start = .done then phaseOf s.ae.engine else none := by
  unfold announcedPhase silent
  cases s.sc.start <;> simp [h]

theorem announceFrom_samePhase {b u : State} (hb : b.ae.engine ≠ .stopped) (hu : u.ae.engine ≠ .stopped)
    (hstart : u.sc.start = b.sc.start) (hphase : phaseOf u.ae.engine = phaseOf b.ae.engine) : announceFrom b u = u :=
  announceFrom_same (by rw [announcedPhase_of_not_stopped hb, announcedPhase_of_not_stopped hu, hstart, hphase])

/-! ## Requests -/

theorem Requests.start {s : State} (h : Requests s) : s.sc.start = .done := by
  by_contra hne
  have hsilent := h.1
  simp [silent_of_not_done hne] at hsilent

theorem silent_eq_false_of {s : State} (hstart : s.sc.start = .done) (he : s.ae.engine ≠ .stopped) : silent s = false := by
  simp [silent, hstart, he]

/-- Requests are taken on in any state but STOPPED, the LEAVE's state unchanged. -/
theorem Requests.of_engine {s u : State} (h : Requests s) (hstart : u.sc.start = s.sc.start) (he : u.ae.engine ≠ .stopped)
    (hl : leaveUnderway u.sli = leaveUnderway s.sli) : Requests u :=
  ⟨silent_eq_false_of (hstart.trans h.start) he, hl.trans h.2⟩

theorem isQueued_joinTail (k j : NoticeKind) (q : List Queued) : isQueued k (joinTail j q) = (isQueued k q || decide (j = k)) := by
  unfold joinTail
  split
  · next hj =>
    by_cases h : j = k
    · subst h
      simp [hj]
    · simp [h]
  · simp [isQueued]

theorem isQueued_dequeue_ne {k j : NoticeKind} (h : k ≠ j) (q : List Queued) : isQueued k (dequeue j q) = isQueued k q := by
  unfold isQueued dequeue
  rw [List.any_filter]
  congr 1
  funext x
  by_cases hx : x.kind = k <;> simp [hx, h]

theorem isQueued_leave_queueAfter {k : NoticeKind} (hk : k ≠ .leave) (q : List Queued) :
    isQueued .leave (queueAfter k q) = isQueued .leave q := by
  cases k with
  | standing | bid => simp [queueAfter, isQueued_joinTail]
  | yield =>
    show isQueued .leave (if isQueued .bid q then dequeue .bid q else joinTail .yield q) = _
    split
    · exact isQueued_dequeue_ne (by decide) q
    · simp [isQueued_joinTail]
  | leave => exact absurd rfl hk

theorem leaveUnderway_voidBidInFlight (l : LineInterface) : leaveUnderway (voidBidInFlight l) = leaveUnderway l := by
  unfold voidBidInFlight
  split
  · next f hf =>
    split
    · simp [leaveUnderway, hf]
    · rfl
  · rfl

/-- The queue after a YIELD's request holds no BID, and the YIELD unless it cancelled a BID (R35). -/
theorem isQueued_bid_queueAfter_yield (q : List Queued) : isQueued .bid (queueAfter .yield q) = false := by
  show isQueued .bid (if isQueued .bid q then dequeue .bid q else joinTail .yield q) = _
  split
  · exact isQueued_dequeue_self _ _
  · next h => simpa [isQueued_joinTail] using h

theorem isQueued_yield_queueAfter {q : List Queued} (h : isQueued .bid q = false) : isQueued .yield (queueAfter .yield q) = true := by
  simp [queueAfter, h, isQueued_joinTail]

/-- An event's end queues a STANDING at most. -/
theorem isQueued_settle_ne {k : NoticeKind} (hk : k ≠ .standing) (s u : State) :
    isQueued k (settle s u).sli.queue = isQueued k u.sli.queue := by
  rw [Bool.eq_iff_iff, isQueued_iff_queuedKinds, isQueued_iff_queuedKinds, queuedKinds_settle, standing_eq]
  split
  · rw [← isQueued_iff_queuedKinds, ← isQueued_iff_queuedKinds]
    show isQueued k (joinTail .standing u.sli.queue) = true ↔ _
    rw [isQueued_joinTail, decide_eq_false hk.symm, Bool.or_false]
  · rfl

/-! ## Bids closed -/

section
variable {s : State}

/-- The station with its open bid removed and the YIELD requested (R81, R84). -/
def bidClosed (s : State) : State :=
  { s with ae := { s.ae with bid := none, window := none },
           sli := { voidBidInFlight s.sli with queue := queueAfter .yield s.sli.queue } }

theorem closeBid_taken (hb : s.ae.bid.isSome = true) (hr : Requests s) : closeBid s = bidClosed s := by
  have hdrop : Requests (dropBid s) := by
    refine ⟨hr.1, ?_⟩
    show leaveUnderway (voidBidInFlight s.sli) = false
    rw [leaveUnderway_voidBidInFlight]
    exact hr.2
  rw [closeBid_of_some s hb, requestNotice_taken _ _ hdrop]
  unfold bidClosed dropBid
  simp only [voidBidInFlight_queue]

theorem leaveUnderway_bidClosed (s : State) : leaveUnderway (bidClosed s).sli = leaveUnderway s.sli := by
  have hqueue : isQueued .leave (queueAfter .yield s.sli.queue) = isQueued .leave s.sli.queue := isQueued_leave_queueAfter (by decide) _
  have hvoid := leaveUnderway_voidBidInFlight s.sli
  unfold leaveUnderway bidClosed at *
  rw [voidBidInFlight_queue] at hvoid
  dsimp only
  rw [hqueue]
  exact hvoid

/-- A bid closed within an event that goes on to a state other than STOPPED: at its end no BID is queued, a STANDING is, and a YIELD
unless it cancelled a BID (R35, R41). -/
theorem notices_after_closing {b u : State} (hb : b.ae.bid.isSome = true) (hr : Requests b) (hs : s.ae.bid.isSome = true)
    (hsli : u.sli = (closeBid b).sli) (hbid : u.ae.bid = none) (hstart : u.sc.start = b.sc.start) (he : u.ae.engine ≠ .stopped) :
    isQueued .bid (settle s u).sli.queue = false ∧ isQueued .standing (settle s u).sli.queue = true
      ∧ (isQueued .bid b.sli.queue = false → isQueued .yield (settle s u).sli.queue = true) := by
  rw [closeBid_taken hb hr] at hsli
  have hru : Requests u := hr.of_engine hstart he (by rw [hsli, leaveUnderway_bidClosed])
  have hqueue : u.sli.queue = queueAfter .yield b.sli.queue := by rw [hsli]; rfl
  refine ⟨?_, standing_queued_settle s u ?_ hru, fun hnone => ?_⟩
  · rw [isQueued_settle_ne (by decide), hqueue, isQueued_bid_queueAfter_yield]
  · simp [standingDue, bidOpen, hs, hbid]
  · rw [isQueued_settle_ne (by decide), hqueue, isQueued_yield_queueAfter hnone]

end

/-! ## The evaluation of WAITING -/

section
variable {p : ProfileData} {v : Nat} {s : State}

/-- The bid conditions read the feeds, the view's table, the line's fitness and the profile alone (R78). -/
theorem bidConditions_congr {u : State} (hfs : u.fs = s.fs) (hsv : u.sv.table = s.sv.table) (hl : lineFine u = lineFine s) :
    bidConditions p v u = bidConditions p v s := by
  unfold bidConditions bidEvaluation headroomAtBid feedGate vMin8
  rw [hfs, hsv, hl]

theorem lineFine_congr {u : State} (hline : u.sli.line = .stuck ↔ s.sli.line = .stuck) (himp : u.sli.impaired = s.sli.impaired) :
    lineFine u = lineFine s := by simp [lineFine, hline, himp]

theorem evaluateWaiting_ok {x : PowerLevel × Nat × Nat} (hp : s.sc.profile = some p) (hv : s.ae.vC = some v)
    (he : s.ae.engine = .waiting) (h : bidConditions p v s = .ok x) : evaluateWaiting s = enterBidding x.1 x.2.2 s := by
  unfold evaluateWaiting
  rw [if_pos he, hp, hv]
  dsimp only
  rw [h]

theorem evaluateWaiting_error {r : WaitReason} (hp : s.sc.profile = some p) (hv : s.ae.vC = some v) (he : s.ae.engine = .waiting)
    (h : bidConditions p v s = .error r) : evaluateWaiting s = setReason r s := by
  unfold evaluateWaiting
  rw [if_pos he, hp, hv]
  dsimp only
  rw [h]

theorem evaluateWaiting_other (he : s.ae.engine ≠ .waiting) : evaluateWaiting s = s := if_neg he

/-- The record of a bid opened in WAITING (R80). -/
def biddingRecord (level : PowerLevel) (resv : Nat) (ae : OwnRecord) : OwnRecord :=
  { ae with engine := .bidding, reason := .none, profile := level, reservation := some resv, bid := some resv, window := none }

theorem enterBidding_ae (level : PowerLevel) (resv : Nat) (s : State) :
    (enterBidding level resv s).ae = biddingRecord level resv s.ae := requestNotice_ae _ _

theorem enterBidding_taken {level : PowerLevel} {resv : Nat} (hr : Requests s) :
    enterBidding level resv s =
      { s with ae := biddingRecord level resv s.ae, sli := { s.sli with queue := joinTail .bid s.sli.queue } } := by
  unfold enterBidding
  rw [requestNotice_taken]
  · rfl
  · exact hr.of_engine rfl nofun rfl

theorem leaveUnderway_joinTail_bid (l : LineInterface) : leaveUnderway { l with queue := joinTail .bid l.queue } = leaveUnderway l := by
  simp [leaveUnderway, isQueued_joinTail]

/-- A bid opened within an event: at its end its BID and the STANDING of BID_OPEN are queued (R41, R80). -/
theorem notices_after_bidding {b u : State} {level : PowerLevel} {resv : Nat} (hr : Requests b) (hnone : s.ae.bid = none)
    (hsli : u.sli = (enterBidding level resv b).sli) (hae : u.ae = biddingRecord level resv b.ae) (hsc : u.sc = b.sc) :
    isQueued .bid (settle s u).sli.queue = true ∧ isQueued .standing (settle s u).sli.queue = true := by
  rw [enterBidding_taken hr] at hsli
  refine ⟨?_, standing_queued_settle _ _ ?_ ?_⟩
  · rw [isQueued_settle_ne (by decide), hsli]
    exact isQueued_joinTail_self _ _
  · simp [standingDue, bidOpen, hae, biddingRecord, hnone]
  · refine hr.of_engine (by rw [hsc]) (by rw [hae]; exact nofun) ?_
    rw [hsli]
    exact leaveUnderway_joinTail_bid _

theorem setReason_ae (r : WaitReason) (s : State) : (setReason r s).ae = { s.ae with reason := r } := raiseIf_ae _ _ _

/-- DENIED is raised where the reason becomes DENIED (R79). -/
theorem setReason_denied {r : WaitReason} (hr : r = .denied) (hs : s.ae.reason ≠ .denied) : flagSet .denied (setReason r s) = true := by
  have hc : decide (r = .denied ∧ s.ae.reason ≠ .denied) = true := by simp [hr, hs]
  unfold setReason
  rw [hc]
  exact flagSet_raise_self _ _

/-- A waiting reason is read by nothing at an event's end. -/
theorem setReason_sameShown {b : State} (r : WaitReason) (h : SameShown s b) : SameShown s (setReason r b) := by
  obtain ⟨h1, h2, h3, h4, h5, h6, h7, h8, h9, h10, h11, h12⟩ := h
  refine ⟨?_, ?_, ?_, ?_, ?_, ?_, ?_, ?_, ?_, ?_, ?_, ?_⟩ <;> simp only [setReason, raiseIf_ae, raiseIf_pp, raiseIf_sc, raiseIf_rc] <;>
    assumption

end

end Sys2Proof.Machine

/-! A change of the line's status or quality presented to the engine (R25, R32, R77, R81, R91). -/

namespace Sys2Proof.Machine

/-! ## The presentation of a line change -/

/-- The station as a line change is presented to the engine: the line changed and LINE raised. -/
def lineChanged (l : LineInterface) (s : State) : State := raise .line { s with sli := l }

section
variable {s : State} {l : LineInterface} {worse : Bool}

theorem takeLineChange_kept {b : State} (he : b.ae.engine ≠ .waiting)
    (h : bids b.ae.engine = false ∨ b.ae.window.isSome = true ∨ worse = false) : takeLineChange worse b = b := by
  have hno : bids b.ae.engine = true → (worse && !running b.ae.window) = false := by
    intro hbids
    rcases h with h | h | h
    · simp [hbids] at h
    · simp [running, h]
    · simp [h]
  unfold takeLineChange
  split
  · next h => exact absurd h he
  · next h => rw [hno (by rw [h]; rfl)]; rfl
  · next h => rw [hno (by rw [h]; rfl)]; rfl
  · rfl

theorem takeLineChange_bidding {b : State} (he : b.ae.engine = .bidding) (hw : b.ae.window = none) :
    takeLineChange true b = enterBackoff (closeBid b) := by simp [takeLineChange, he, hw, running]

theorem takeLineChange_upgrade {b : State} (he : b.ae.engine = .admitted .upgradeBid) (hw : b.ae.window = none) :
    takeLineChange true b = failUpgrade b := by simp [takeLineChange, he, hw, running]

theorem takeLineChange_waiting {b : State} (he : b.ae.engine = .waiting) : takeLineChange worse b = evaluateWaiting b := by
  simp [takeLineChange, he]

theorem takeLineChange_within {m : BitVec 16} (hp : flagWord .phase ||| m = m) (hd : flagWord .denied ||| m = m) (b : State) :
    PortWithin m b (takeLineChange worse b) := by
  unfold takeLineChange
  split
  · exact evaluateWaiting_within hd b
  · split
    · exact (closeBid_within b).trans (enterBackoff_within hp _)
    · exact .refl b
  · split
    · exact .of_lpi (by simp)
    · exact .refl b
  · exact .refl b

theorem takeLineChange_line (b : State) : lineFrame (takeLineChange worse b).sli = lineFrame b.sli := by
  unfold takeLineChange
  (repeat' split) <;> simp [enterBackoff]

theorem enterBackoff_ae (s : State) : (enterBackoff s).ae
    = { s.ae with engine := .backoff, reservation := none, backoff := some (backoffMs s) } := announceFrom_ae _ _

/-- A bid closed by the station's own act backs off (R84, R85), with nothing new announced. -/
theorem enterBackoff_of_bidding {b : State} (he : b.ae.engine = .bidding) :
    enterBackoff b = { b with ae := { b.ae with engine := .backoff, reservation := none, backoff := some (backoffMs b) } } :=
  announceFrom_samePhase (by simp [he]) (by simp) rfl (by simp [he, phaseOf])

theorem closeBid_engine_eq (b : State) : (closeBid b).ae.engine = b.ae.engine := by
  rw [closeBid_ae]
  split <;> rfl

theorem backoffMs_closeBid (b : State) : backoffMs (closeBid b) = backoffMs b := by simp [backoffMs, ownRank]

theorem closedBackoff_ae {b : State} (hb : b.ae.bid.isSome = true) : (enterBackoff (closeBid b)).ae
    = { b.ae with engine := .backoff, bid := none, window := none, reservation := none, backoff := some (200 + 10 * ownRank b) } := by
  rw [enterBackoff_ae, backoffMs_closeBid, closeBid_ae, if_pos hb]
  rfl

theorem failUpgrade_ae {b : State} (hb : b.ae.bid.isSome = true) : (failUpgrade b).ae
    = { b.ae with engine := .admitted .steady, bid := none, window := none, retryHold := some (200 + 10 * ownRank b) } := by
  show { (closeBid b).ae with engine := .admitted .steady, retryHold := some (backoffMs b) } = _
  rw [closeBid_ae, if_pos hb]
  rfl

theorem settle_bladeKept {b u : State} (h : BladeKept b u) : BladeKept b (settle s u) := by
  obtain ⟨hpp, hheld, hbp, hrc⟩ := h
  exact ⟨(settle_pp _ _).trans hpp, (settle_held _ _).trans hheld, (settle_bp _ _).trans hbp, (settle_rc _ _).trans hrc⟩

theorem takeLineChange_bladeKept (b : State) : BladeKept b (takeLineChange worse b) := by
  unfold takeLineChange
  (repeat' split) <;> simp [BladeKept, enterBackoff]

variable (hq : l.queue = s.sli.queue) (hp : l.periodic = s.sli.periodic) (hs : Settled s)
include hq hp hs

/-- With no bid that waits for the line and outside WAITING, the change is the line's alone. -/
theorem settle_lineChanged : settle s (lineChanged l s) = lineChanged l s ∧ PortAfter (flagWord .line) s (lineChanged l s) := by
  have hsettle : settle s (lineChanged l s) = lineChanged l s :=
    settle_of_sameRecord ⟨rfl, rfl, rfl, .rfl, .rfl, rfl, rfl⟩ (fun h => hp.trans (hs.1 h)) (hq ▸ hs.2)
  have hport := portAfter_settle (s := s) (u := lineChanged l s) (w := flagWord .line) rfl (hq ▸ hs.2)
  rw [hsettle] at hport
  exact ⟨hsettle, hport⟩

/-- A reason found in WAITING (R78): nothing else is announced. -/
theorem settle_lineChanged_error (r : WaitReason) : settle s (setReason r (lineChanged l s)) = setReason r (lineChanged l s) := by
  have hshown : SameShown s (lineChanged l s) := ⟨rfl, rfl, rfl, rfl, rfl, rfl, rfl, rfl, rfl, ⟨rfl, rfl⟩, rfl, rfl⟩
  exact (setReason_sameShown r hshown).settle hs (by rw [setReason_sli]; exact hq) (by rw [setReason_sli]; exact hp)

end

/-! ## The notices of a line change -/

section
variable {s : State} {l : LineInterface}

/-- What a bid that waits for the line leaves queued where the line worsens (R35, R41, R81, R91). -/
theorem notices_after_worsening (hbids : bids s.ae.engine = true) (hb : s.ae.bid.isSome = true) (hw : s.ae.window = none)
    (hr : Requests s) (hq : l.queue = s.sli.queue) (hf : l.inFlight = s.sli.inFlight) :
    let t := settle s (takeLineChange true (lineChanged l s))
    isQueued .bid t.sli.queue = false ∧ isQueued .standing t.sli.queue = true
      ∧ (isQueued .bid s.sli.queue = false → isQueued .yield t.sli.queue = true) := by
  have hrb : Requests (lineChanged l s) := by
    refine ⟨hr.1, ?_⟩
    show leaveUnderway l = false
    unfold leaveUnderway
    rw [hq, hf]
    exact hr.2
  have hqb : (lineChanged l s).sli.queue = s.sli.queue := hq
  rw [← hqb]
  rcases (bids_iff _).1 hbids with he | he
  · rw [takeLineChange_bidding (b := lineChanged l s) he hw]
    refine notices_after_closing (b := lineChanged l s) hb hrb hb ?_ ?_ ?_ ?_
    · rw [enterBackoff_of_bidding (by rw [closeBid_engine_eq]; exact he)]
    · rw [closedBackoff_ae (b := lineChanged l s) hb]
    · simp [enterBackoff]
    · rw [enterBackoff_ae]
      exact nofun
  · rw [takeLineChange_upgrade (b := lineChanged l s) he hw]
    refine notices_after_closing (b := lineChanged l s) hb hrb hb rfl ?_ ?_ ?_
    · rw [failUpgrade_ae (b := lineChanged l s) hb]
    · simp
    · exact nofun

/-- What WAITING makes of a line change (R77, R78, R80), by the bid conditions as they stand with the line changed. -/
theorem waiting_after_lineChange {p : ProfileData} {v : Nat} {worse : Bool} {seen : State} (hs : Settled s) (hq : l.queue = s.sli.queue)
    (hp : l.periodic = s.sli.periodic) (hf : l.inFlight = s.sli.inFlight) (hprof : s.sc.profile = some p) (hv : s.ae.vC = some v)
    (he : s.ae.engine = .waiting) (hseen : bidConditions p v (lineChanged l s) = bidConditions p v seen) :
    let t := settle s (takeLineChange worse (lineChanged l s))
    (∀ x, bidConditions p v seen = .ok x →
        t.ae = { s.ae with engine := .bidding, reason := .none, profile := x.1, bid := some x.2.2, window := none,
                           reservation := some x.2.2 }
          ∧ (s.ae.bid = none → Requests s → isQueued .bid t.sli.queue = true ∧ isQueued .standing t.sli.queue = true))
      ∧ (∀ r, bidConditions p v seen = .error r →
          t.ae = { s.ae with reason := r } ∧ t.sli.queue = s.sli.queue
            ∧ (r = .denied → s.ae.reason ≠ .denied → flagSet .denied t = true)) := by
  rw [takeLineChange_waiting (b := lineChanged l s) he]
  refine ⟨fun x hx => ?_, fun r hr => ?_⟩
  · rw [evaluateWaiting_ok (s := lineChanged l s) hprof hv he (hseen.trans hx)]
    refine ⟨?_, fun hnone hreq => notices_after_bidding ?_ hnone rfl (enterBidding_ae _ _ _) (enterBidding_sc _ _ _)⟩
    · rw [settle_ae, enterBidding_ae]
      rfl
    · refine hreq.of_engine rfl ?_ ?_
      · rw [show (lineChanged l s).ae = s.ae from rfl, he]
        exact nofun
      · show leaveUnderway l = leaveUnderway s.sli
        unfold leaveUnderway
        rw [hq, hf]
  · rw [evaluateWaiting_error (s := lineChanged l s) hprof hv he (hseen.trans hr), settle_lineChanged_error hq hp hs]
    refine ⟨?_, ?_, fun hden hne => setReason_denied hden hne⟩
    · rw [setReason_ae]
      rfl
    · rw [setReason_sli]
      exact hq

end

/-! ## STUCK -/

/-- The line at its entry into STUCK (R25). -/
def stuckLine (l : LineInterface) : LineInterface := { l with line := .stuck, deaf := false, clashCount := 0 }

theorem exec_lineStuck {s : State} (h : s.sli.line ≠ .stuck) :
    exec .lineStuck s = answer s (takeLineChange true (lineChanged (stuckLine s.sli) s)) := congrArg (answer s) (if_neg h)

theorem exec_lineFreed {s : State} (h : s.sli.line = .stuck) :
    exec .lineFreed s = answer s (takeLineChange false (lineChanged (completedGap s.sli) s)) := congrArg (answer s) (if_pos h)

theorem bidConditions_stuck {p : ProfileData} {v : Nat} {s : State} :
    bidConditions p v (lineChanged (stuckLine s.sli) s) = .error (if feedGate p s then .line else .feed) := by
  have hgate : feedGate p (lineChanged (stuckLine s.sli) s) = feedGate p s := rfl
  have hfine : lineFine (lineChanged (stuckLine s.sli) s) = false := rfl
  unfold bidConditions
  rw [hgate, hfine]
  cases feedGate p s <;> rfl

/-- Settles O26. -/
theorem stuckAndFreed : Obligations.StuckAndFreed := by
  intro s hs
  refine ⟨fun hline => ?stuck, fun hline => ?freed⟩
  case stuck =>
    have hframe := (settle_quiet s (takeLineChange true (lineChanged (stuckLine s.sli) s))).1.trans (takeLineChange_line _)
    obtain ⟨hsettle, hport⟩ := settle_lineChanged (l := stuckLine s.sli) rfl rfl hs
    refine ⟨_, exec_lineStuck hline, (congrArg LineInterface.line hframe :), (congrArg LineInterface.clashCount hframe :),
      (congrArg LineInterface.gap hframe :), (congrArg LineInterface.errors hframe :), ?flag, fun hw hb => ?other, fun he hb hd hw => ?bidding,
      fun he hb hw => ?upgrade, fun hbids hb hw hr => ?notices, fun hbids hw => ?window, fun p hp v hv he => ?waiting⟩
    case flag =>
      exact flagSet_settle (flagSet_of_raised (takeLineChange_within (m := flagWord .phase ||| flagWord .denied) (by decide) (by decide) _))
    case other =>
      rw [takeLineChange_kept (b := lineChanged (stuckLine s.sli) s) hw (.inl hb), hsettle]
      exact ⟨hport, rfl, rfl⟩
    case bidding =>
      rw [takeLineChange_bidding (b := lineChanged (stuckLine s.sli) s) he hw]
      refine ⟨?_, by simp [enterBackoff, lineChanged]⟩
      rw [settle_ae, closedBackoff_ae (b := lineChanged (stuckLine s.sli) s) hb]
      simp [lineChanged, ownRank, hw]
    case upgrade =>
      refine ⟨?_, settle_bladeKept (takeLineChange_bladeKept (lineChanged (stuckLine s.sli) s))⟩
      rw [takeLineChange_upgrade (b := lineChanged (stuckLine s.sli) s) he hw, settle_ae,
        failUpgrade_ae (b := lineChanged (stuckLine s.sli) s) hb]
      simp [lineChanged, ownRank, hw]
    case notices => exact notices_after_worsening hbids hb hw hr rfl rfl
    case window =>
      have he : s.ae.engine ≠ .waiting := by rintro he; simp [he, bids] at hbids
      rw [takeLineChange_kept (b := lineChanged (stuckLine s.sli) s) he (.inr (.inl hw)), hsettle]
      exact ⟨rfl, ⟨rfl, rfl, rfl, rfl⟩, rfl⟩
    case waiting =>
      obtain ⟨hae, hqueue, -⟩ := (waiting_after_lineChange (l := stuckLine s.sli) (worse := true) hs rfl rfl rfl hp hv he rfl).2 _
        bidConditions_stuck
      exact ⟨hae, hqueue, settle_bladeKept (takeLineChange_bladeKept (lineChanged (stuckLine s.sli) s))⟩
  case freed =>
    have hframe := (settle_quiet s (takeLineChange false (lineChanged (completedGap s.sli) s))).1.trans (takeLineChange_line _)
    obtain ⟨hsettle, hport⟩ := settle_lineChanged (l := completedGap s.sli) rfl rfl hs
    refine ⟨_, exec_lineFreed hline, (congrArg LineInterface.line hframe :), (congrArg LineInterface.gap hframe :), ?flag, ?wait,
      fun hw => ?other, fun p hp v hv he => ⟨settle_bladeKept (takeLineChange_bladeKept (lineChanged (completedGap s.sli) s)), ?waiting⟩⟩
    case flag =>
      exact flagSet_settle (flagSet_of_raised (takeLineChange_within (m := flagWord .phase ||| flagWord .denied) (by decide) (by decide) _))
    case wait =>
      refine (congrArg LineInterface.clashWait hframe :).trans ?_
      show (completedGap s.sli).clashWait = _
      unfold completedGap
      cases s.sli.clashWait <;> rfl
    case other =>
      rw [takeLineChange_kept (b := lineChanged (completedGap s.sli) s) hw (.inr (.inr rfl)), hsettle]
      exact ⟨rfl, rfl, hport, rfl⟩
    case waiting =>
      refine waiting_after_lineChange hs rfl rfl rfl hp hv he (bidConditions_congr rfl rfl (lineFine_congr ?_ rfl))
      simp [lineChanged, completedGap]

/-! ## The quality interval -/

/-- The line as a quality interval's end leaves it (R32). -/
def nextInterval (l : LineInterface) : LineInterface :=
  { l with errors := 0, quality := some 1000, impaired := impairedAfter l.impaired l.errors }

theorem exec_qualityIntervalEnd (s : State) : exec .qualityIntervalEnd s = answer s
    (if impairedAfter s.sli.impaired s.sli.errors = s.sli.impaired then { s with sli := nextInterval s.sli }
     else takeLineChange (impairedAfter s.sli.impaired s.sli.errors) (lineChanged (nextInterval s.sli) s)) := rfl

theorem impairedAfter_cases (impaired : Bool) (n : Nat) : (8 ≤ n → impairedAfter impaired n = true)
    ∧ (n ≤ 1 → impairedAfter impaired n = false) ∧ (2 ≤ n → n ≤ 7 → impairedAfter impaired n = impaired) := by
  unfold impairedAfter
  refine ⟨fun h => if_pos h, fun h => ?_, fun h2 h7 => ?_⟩
  · rw [if_neg (by omega), if_pos h]
  · rw [if_neg (by omega), if_neg (by omega)]

/-- The end of an interval that changes IMPAIRED (R32). -/
theorem qualityIntervalChanges {s : State} (hs : Settled s) :
    let now := impairedAfter s.sli.impaired s.sli.errors
    let t := settle s (takeLineChange now (lineChanged (nextInterval s.sli) s))
    (s.ae.engine ≠ .waiting ∧ bids s.ae.engine = false →
        PortAfter (flagWord .line) s t ∧ t.sli = nextInterval s.sli ∧ t = { s with sli := t.sli, lpi := t.lpi })
      ∧ (now = true → s.ae.engine = .bidding → s.ae.bid.isSome = true → s.ae.window = none →
          t.ae = { s.ae with engine := .backoff, bid := none, reservation := none, backoff := some (200 + 10 * ownRank s) })
      ∧ (now = true → s.ae.engine = .admitted .upgradeBid → s.ae.bid.isSome = true → s.ae.window = none →
          t.ae = { s.ae with engine := .admitted .steady, bid := none, retryHold := some (200 + 10 * ownRank s) })
      ∧ (bids s.ae.engine = true → (s.ae.window.isSome = true ∨ now = false) → t.ae = s.ae ∧ t.sli.queue = s.sli.queue) := by
  intro now t
  obtain ⟨hsettle, hport⟩ := settle_lineChanged (l := nextInterval s.sli) rfl rfl hs
  refine ⟨fun ⟨hw, hb⟩ => ?_, fun hnow he hb hw => ?_, fun hnow he hb hw => ?_, fun hbids hw => ?_⟩
  · simp only [t]
    rw [takeLineChange_kept (b := lineChanged (nextInterval s.sli) s) hw (.inl hb), hsettle]
    exact ⟨hport, rfl, rfl⟩
  · simp only [t, hnow]
    rw [takeLineChange_bidding (b := lineChanged (nextInterval s.sli) s) he hw, settle_ae,
      closedBackoff_ae (b := lineChanged (nextInterval s.sli) s) hb]
    simp [lineChanged, ownRank, hw]
  · simp only [t, hnow]
    rw [takeLineChange_upgrade (b := lineChanged (nextInterval s.sli) s) he hw, settle_ae,
      failUpgrade_ae (b := lineChanged (nextInterval s.sli) s) hb]
    simp [lineChanged, ownRank, hw]
  · have he : s.ae.engine ≠ .waiting := by
      rintro he
      simp [he, bids] at hbids
    simp only [t]
    rw [takeLineChange_kept (b := lineChanged (nextInterval s.sli) s) he (.inr hw), hsettle]
    exact ⟨rfl, rfl⟩

/-- Settles O27. -/
theorem qualityIntervalSetsImpaired : Obligations.QualityIntervalSetsImpaired := by
  intro s hs
  obtain ⟨hhigh, hlow, hmid⟩ := impairedAfter_cases s.sli.impaired s.sli.errors
  by_cases hsame : impairedAfter s.sli.impaired s.sli.errors = s.sli.impaired
  · have hrecord : SameRecord s { s with sli := nextInterval s.sli } := ⟨rfl, rfl, rfl, .rfl, .rfl, rfl, rfl⟩
    have hsettle := settle_of_sameRecord hrecord hs.1 hs.2
    have hport := portAfter_settle (Raised.of_lpi (s := s) (u := { s with sli := nextInterval s.sli }) rfl) hs.2
    rw [hsettle] at hport
    refine ⟨{ s with sli := nextInterval s.sli }, ?_, rfl, rfl, hhigh, hlow, hmid, rfl, rfl, rfl, rfl, rfl, rfl, fun h => absurd hsame h,
      fun _ => ⟨?_, rfl, rfl⟩, fun h => absurd hsame h⟩
    · rw [exec_qualityIntervalEnd, if_pos hsame]
      exact congrArg Host.Outcome.next hsettle
    · rw [if_pos (show (nextInterval s.sli).impaired = s.sli.impaired from hsame)]
      exact hport
  · obtain ⟨hother, hbidding, hupgrade, hwindow⟩ := qualityIntervalChanges hs
    have hframe := (settle_quiet s (takeLineChange (impairedAfter s.sli.impaired s.sli.errors)
      (lineChanged (nextInterval s.sli) s))).1.trans (takeLineChange_line _)
    have hexec : exec .qualityIntervalEnd s
        = answer s (takeLineChange (impairedAfter s.sli.impaired s.sli.errors) (lineChanged (nextInterval s.sli) s)) := by
      rw [exec_qualityIntervalEnd, if_neg hsame]
    have himp : (settle s (takeLineChange (impairedAfter s.sli.impaired s.sli.errors) (lineChanged (nextInterval s.sli) s))).sli.impaired
        = impairedAfter s.sli.impaired s.sli.errors := (congrArg LineInterface.impaired hframe :)
    refine ⟨_, hexec, (congrArg LineInterface.errors hframe :), (congrArg LineInterface.quality hframe :), ?_⟩
    rw [himp]
    refine ⟨hhigh, hlow, hmid, (congrArg LineInterface.line hframe :), by simp [lineChanged], by simp [lineChanged], by simp [lineChanged],
      by simp [lineChanged], by simp [lineChanged], fun _ => ?flag, fun h => ?other, fun _ => ⟨fun hnow he hb _ hw => hbidding hnow he hb hw,
      hupgrade, fun hnow hbids hb hw hr => ?notices, hwindow, fun p hp v hv he => ?waiting,
      settle_bladeKept (takeLineChange_bladeKept (lineChanged (nextInterval s.sli) s))⟩⟩
    case flag =>
      exact flagSet_settle (flagSet_of_raised (takeLineChange_within (m := flagWord .phase ||| flagWord .denied) (by decide) (by decide) _))
    case other =>
      rw [if_neg hsame]
      exact hother (h.resolve_left hsame)
    case notices =>
      rw [hnow]
      exact notices_after_worsening hbids hb hw hr rfl rfl
    case waiting => exact waiting_after_lineChange hs rfl rfl rfl hp hv he (bidConditions_congr rfl rfl rfl)

end Sys2Proof.Machine

/-! Waiting, bids and their resolution (R77 to R85, R96): the bid window's end, and the ends of BACKOFF and COOLDOWN. -/

namespace Sys2Proof.Machine

/-! ## An announcement made -/

/-- The station with a new phase announced: PHASE raised and a prompt STANDING requested (R41, R76). -/
def announced (u : State) : State := raise .phase { u with sli := { u.sli with queue := joinTail .standing u.sli.queue } }

theorem announceFrom_new {b u : State} {ph : Phase} (hr : Requests u) (hphase : phaseOf u.ae.engine = some ph)
    (hnew : announcedPhase b ≠ some ph) : announceFrom b u = announced u := by
  have hafter : announcedPhase u = some ph := by simp [announcedPhase, hr.1, hphase]
  have hrp : Requests (raise .phase u) := hr
  unfold announceFrom
  rw [hafter]
  dsimp only
  rw [if_neg hnew, requestNotice_taken _ _ hrp]
  rfl

/-- Outside the silence, where a STANDING is queued already, the event's end leaves the line. -/
theorem settle_sli_of_standing_queued {s u : State} (hs : silent s = false) (hu : silent u = false)
    (hc : congestionDue u.sli.queue = false) (hq : isQueued .standing u.sli.queue = true) : (settle s u).sli = u.sli := by
  rw [settle_sli s u hc (by simp [hu]) (by simp [hs]), joinTail_of_queued _ _ hq, ite_self]

/-- Outside the silence, with the STANDING of a change due, the event's end queues it. -/
theorem settle_sli_of_due {s u : State} (hs : silent s = false) (hr : Requests u) (hc : congestionDue u.sli.queue = false)
    (hd : standingDue s u = true) : (settle s u).sli = { u.sli with queue := joinTail .standing u.sli.queue } := by
  rw [settle_sli s u hc (by simp [hr.1]) (by simp [hs]), standingAsked_of_requests s u hr, if_pos hd]

theorem outerKept_of_frame {s t : State} (hline : lineFrame t.sli = lineFrame s.sli)
    (hrest : t.fs = s.fs ∧ t.sv = s.sv ∧ t.inp = s.inp ∧ t.sc = s.sc ∧ t.freeCount = s.freeCount ∧ t.pending = s.pending) : OuterKept s t :=
  ⟨(lineFrame_eq_iff s t).1 hline, hrest⟩

theorem settle_outerKept {s u : State} (hline : lineFrame u.sli = lineFrame s.sli)
    (hrest : u.fs = s.fs ∧ u.sv = s.sv ∧ u.inp = s.inp ∧ u.sc = s.sc ∧ u.freeCount = s.freeCount ∧ u.pending = s.pending) :
    OuterKept s (settle s u) :=
  outerKept_of_frame ((settle_quiet s u).1.trans hline) (by simpa using hrest)

/-! ## The resolution -/

section
variable {p : ProfileData} {v : Nat} {s : State}

theorem exec_bidWindowExpiry (he : s.ae.engine = .bidding) (hw : s.ae.window.isSome = true) :
    exec .bidWindowExpiry s = answer s (resolveBid s) := congrArg (answer s) (if_pos ⟨he, hw⟩)

theorem resolution_some {level : PowerLevel} {iSet resv : Nat} (hfine : lineFine s = true)
    (heval : resolutionEvaluation p v s = .setpoint level iSet resv)
    (hcount : prechargingCount s.sv.table + betterInitialBids (ownRank s) s.sv.table < p.k) :
    resolution p v s = some (level, iSet, resv) := by simp [resolution, hfine, heval, hcount]

theorem resolution_none
    (h : lineFine s = false ∨ (∀ level iSet resv, resolutionEvaluation p v s ≠ .setpoint level iSet resv)
      ∨ p.k ≤ prechargingCount s.sv.table + betterInitialBids (ownRank s) s.sv.table) : resolution p v s = none := by
  unfold resolution
  split
  · rfl
  · next hfine =>
    split
    · next heval =>
      rcases h with h | h | h
      · simp [h] at hfine
      · exact absurd heval (h _ _ _)
      · rw [if_neg (Nat.not_lt.2 h)]
    · rfl

/-- The station with its bid won (R83, R102): POWERING announced, and the precharge at its first ramp step. -/
def bidWon (p : ProfileData) (level : PowerLevel) (iSet resv : Nat) (s : State) : State :=
  announced
    { s with
      ae := poweringRecord level iSet resv (prechargeDeadline p.cB s.fs.vF iSet) s.ae
      pp := { s.pp with path := .precharge, iSet := iSet, deadline := prechargeDeadline p.cB s.fs.vF iSet, ramp := 1,
                        limit := max (iSet / 8) s.pp.iMin, elapsed := 0, half := false, foldback := false,
                        discharge := none, discharged := false } }

theorem winBid_eq {level : PowerLevel} {iSet resv : Nat} (he : s.ae.engine = .bidding) (hr : Requests s) (hpath : s.pp.path = .opened) :
    winBid p level iSet resv s = bidWon p level iSet resv s := by
  have hannounce : announceFrom s { s with ae := poweringRecord level iSet resv (prechargeDeadline p.cB s.fs.vF iSet) s.ae }
      = announced { s with ae := poweringRecord level iSet resv (prechargeDeadline p.cB s.fs.vF iSet) s.ae } := by
    refine announceFrom_new (ph := .precharging) (hr.of_engine rfl nofun rfl) rfl ?_
    rw [announcedPhase_of_not_stopped (by simp [he]), hr.start, he]
    exact nofun
  unfold winBid
  dsimp only
  rw [hannounce, commandPrecharge_taken]
  · rfl
  · exact hpath

end

/-- Settles O39. -/
theorem bidWindowExpiryWins : Obligations.BidWindowExpiryWins := by
  intro p v level iSet resv s hp hv hstart he hw hr hs hpath hline himp heval hcount
  have hfine : lineFine s = true := by simp [lineFine, hline, himp]
  have hresolve : resolveBid s = bidWon p level iSet resv s := by
    unfold resolveBid
    rw [hp, hv]
    dsimp only
    rw [resolution_some hfine heval hcount]
    exact winBid_eq he hr hpath
  have hru : silent (bidWon p level iSet resv s) = false := silent_eq_false_of hstart nofun
  have hcong : congestionDue (bidWon p level iSet resv s).sli.queue = false := congestionDue_joinTail _ _ hs.2
  have hsli : (settle s (bidWon p level iSet resv s)).sli = (bidWon p level iSet resv s).sli :=
    settle_sli_of_standing_queued hr.1 hru hcong (isQueued_joinTail_self _ _)
  refine ⟨_, (exec_bidWindowExpiry he hw).trans (congrArg (answer s) hresolve), settle_ae _ _, settle_pp _ _, hsli, portAfter_settle rfl hcong,
    settle_held _ _, settle_bp _ _, settle_rc _ _, settle_outerKept rfl ⟨rfl, rfl, rfl, rfl, rfl, rfl⟩⟩

/-! ## A bid that fails -/

/-- The station with its bid closed and BACKOFF running (R84, R85). -/
def backedOff (s : State) : State :=
  { bidClosed s with ae := { s.ae with engine := .backoff, bid := none, window := none, reservation := none,
                                       backoff := some (200 + 10 * ownRank s) } }

theorem enterBackoff_closeBid_eq {s : State} (he : s.ae.engine = .bidding) (hb : s.ae.bid.isSome = true) (hr : Requests s) :
    enterBackoff (closeBid s) = backedOff s := by
  rw [closeBid_taken hb hr, enterBackoff_of_bidding (b := bidClosed s) he]
  rfl

theorem voidBidInFlight_inFlight (l : LineInterface) : (voidBidInFlight l).inFlight
    = l.inFlight.map (fun f => { f with voided := f.voided || decide (f.kind = .bid) }) := by
  unfold voidBidInFlight
  split
  · next f hf =>
    by_cases hk : f.kind = .bid
    · simp [hf, hk]
    · simp [hf, hk]
  · next hf => simp [hf]

theorem congestionDue_queueAfter_yield {q : List Queued} (h : congestionDue q = false) (hd : congestionDue (dequeue .bid q) = false) :
    congestionDue (queueAfter .yield q) = false := by
  show congestionDue (if isQueued .bid q then dequeue .bid q else joinTail .yield q) = false
  split
  · exact hd
  · exact congestionDue_joinTail _ _ h

/-- Settles O40. -/
theorem bidWindowExpiryFails : Obligations.BidWindowExpiryFails := by
  intro p v s hp hv hstart he hb hw hr hs hbidCong htests
  have hfails : resolution p v s = none := by
    refine resolution_none ?_
    rcases htests with h | h | h | h
    · exact .inl (by simp [lineFine, h])
    · exact .inl (by simp [lineFine, h])
    · exact .inr (.inl h)
    · exact .inr (.inr h)
  have hresolve : resolveBid s = backedOff s := by
    unfold resolveBid
    rw [hp, hv]
    dsimp only
    rw [hfails]
    exact enterBackoff_closeBid_eq he hb hr
  have hru : Requests (backedOff s) := hr.of_engine rfl nofun (leaveUnderway_bidClosed s)
  have hcong : congestionDue (backedOff s).sli.queue = false := congestionDue_queueAfter_yield hs.2 hbidCong
  have hdue : standingDue s (backedOff s) = true := by simp [standingDue, bidOpen, backedOff, hb]
  have hsli : (settle s (backedOff s)).sli
      = { (backedOff s).sli with queue := joinTail .standing (queueAfter .yield s.sli.queue) } := settle_sli_of_due hr.1 hru hcong hdue
  refine ⟨_, (exec_bidWindowExpiry he hw).trans (congrArg (answer s) hresolve), settle_ae _ _, ?_, fun hq => ?_, fun hq => ?_,
    portAfter_settle (.of_lpi rfl) hcong, settle_bladeKept ⟨rfl, rfl, rfl, rfl⟩,
    settle_outerKept ?_ ⟨rfl, rfl, rfl, rfl, rfl, rfl⟩⟩
  · rw [hsli]
    exact voidBidInFlight_inFlight s.sli
  · rw [hsli]
    simp [queueAfter, hq, dequeue]
  · rw [hsli]
    simp [queueAfter, hq]
  · exact (lineFrame_queue _ _).trans (lineFrame_voidBidInFlight _)

end Sys2Proof.Machine

/-! The returns to WAITING (R85, R96) and the view change in WAITING (R10, R77). -/

namespace Sys2Proof.Machine

section
variable {p : ProfileData} {v : Nat} {s : State}

/-! ## The bid conditions in their order (R78) -/

theorem bidConditions_feed (h : feedGate p s = false) : bidConditions p v s = .error .feed := by simp [bidConditions, h]

theorem bidConditions_line (h : feedGate p s = true) (hl : lineFine s = false) : bidConditions p v s = .error .line := by
  simp [bidConditions, h, hl]

theorem bidConditions_busy (h : feedGate p s = true) (hl : lineFine s = true)
    (hd : deniedBy p v s.fs.vF (cEff p s.sv.table) = false) (hk : p.k ≤ prechargingCount s.sv.table) :
    bidConditions p v s = .error .busy := by simp [bidConditions, h, hl, hd, hk]

/-! ## BACKOFF and COOLDOWN over -/

/-- The station back in WAITING, its entry evaluation to come (R77, R85, R96). -/
def backInWaiting (bk cd : Timer) (s : State) : State :=
  { s with ae := { s.ae with engine := .waiting, reason := .none, exit := .none, reservation := none, backoff := bk, cooldown := cd } }

/-- BACKOFF or COOLDOWN: WAITING is announced in both, the own claim is 0 and the lamp blinks in amber. -/
def idles (e : Engine) : Prop := e = .backoff ∨ e = .cooldown

theorem enterWaiting_of_idle {b : State} (h : idles b.ae.engine) :
    enterWaiting b = evaluateWaiting { b with ae := waitingRecord b.ae } := by
  rw [enterWaiting_eq, announceFrom_samePhase]
  · rcases h with h | h <;> simp [h]
  · exact nofun
  · rfl
  · rcases h with h | h <;> rw [h] <;> rfl

theorem exec_backoffExpiry (he : s.ae.engine = .backoff) (ht : s.ae.backoff.isSome = true) :
    exec .backoffExpiry s = answer s (evaluateWaiting (backInWaiting none s.ae.cooldown s)) :=
  congrArg (answer s) ((if_pos ⟨he, ht⟩).trans (enterWaiting_of_idle (.inl he)))

theorem exec_cooldownExpiry (he : s.ae.engine = .cooldown) (ht : s.ae.cooldown.isSome = true) :
    exec .cooldownExpiry s = answer s (evaluateWaiting (backInWaiting s.ae.backoff none s)) :=
  congrArg (answer s) ((if_pos ⟨he, ht⟩).trans (enterWaiting_of_idle (.inr he)))

theorem ownClaim_of_idle (h : idles s.ae.engine) : ownClaim s = 0 := by rcases h with h | h <;> simp [ownClaim, h]

theorem lampPattern_of_idle (h : idles s.ae.engine) : lampPattern s = .amberBlink1 := by rcases h with h | h <;> simp [lampPattern, h]

/-- The entry evaluation of WAITING after BACKOFF or COOLDOWN, from no open bid (R77, R78, R80). -/
theorem entryEvaluation (bk cd : Timer) (hp : s.sc.profile = some p) (hv : s.ae.vC = some v) (hi : idles s.ae.engine)
    (hnone : s.ae.bid = none) (hr : Requests s) (hs : Settled s) :
    let t := settle s (evaluateWaiting (backInWaiting bk cd s))
    (∀ x, bidConditions p v s = .ok x →
        t.ae = biddingRecord x.1 x.2.2 (backInWaiting bk cd s).ae ∧ isQueued .bid t.sli.queue = true
          ∧ isQueued .standing t.sli.queue = true ∧ PortAfter 0 s t)
      ∧ (∀ r, bidConditions p v s = .error r →
          t.ae = { (backInWaiting bk cd s).ae with reason := r } ∧ t.sli = s.sli
            ∧ PortAfter (if r = .denied then flagWord .denied else 0) s t) := by
  have hb : Requests (backInWaiting bk cd s) := hr.of_engine rfl nofun rfl
  refine ⟨fun x hx => ?_, fun r hx => ?_⟩
  · rw [evaluateWaiting_ok (s := backInWaiting bk cd s) hp hv rfl hx]
    obtain ⟨hbid, hstanding⟩ := notices_after_bidding (s := s) hb hnone rfl (enterBidding_ae x.1 x.2.2 (backInWaiting bk cd s))
      (enterBidding_sc _ _ _)
    refine ⟨(settle_ae _ _).trans (enterBidding_ae _ _ _), hbid, hstanding, portAfter_settle (.of_lpi (by simp [backInWaiting])) ?_⟩
    rw [enterBidding_taken hb]
    exact congestionDue_joinTail _ _ hs.2
  · rw [evaluateWaiting_error (s := backInWaiting bk cd s) hp hv rfl hx]
    have hsli : (setReason r (backInWaiting bk cd s)).sli = s.sli := setReason_sli _ _
    have hpp : (setReason r (backInWaiting bk cd s)).pp = s.pp := setReason_pp _ _
    have hrc : (setReason r (backInWaiting bk cd s)).rc = s.rc := setReason_rc _ _
    have hsc : (setReason r (backInWaiting bk cd s)).sc = s.sc := setReason_sc _ _
    have hsilent : silent (setReason r (backInWaiting bk cd s)) = false :=
      silent_eq_false_of (by rw [hsc]; exact hr.start) (by rw [setReason_ae]; exact nofun)
    have hsettle : settle s (setReason r (backInWaiting bk cd s)) = setReason r (backInWaiting bk cd s) := by
      refine settle_of_unannounced _ _ ?_ (hr.1.trans hsilent.symm) (by simp [hsilent]) (hsli ▸ hs.2) ?_
      · unfold standingDue bidOpen
        rw [ownClaim_of_idle hi, setReason_ae, hrc]
        simp [ownClaim, setReason_ae, backInWaiting]
      · rw [lampPattern_of_idle hi]
        simp [lampPattern, setReason_ae, backInWaiting]
    have hraised : Raised (if r = .denied then flagWord .denied else 0) s (setReason r (backInWaiting bk cd s)) := by
      by_cases hd : r = .denied
      · subst hd
        exact rfl
      · have hno : decide (r = .denied ∧ (backInWaiting bk cd s).ae.reason ≠ .denied) = false := by simp [hd]
        rw [if_neg hd]
        unfold setReason
        rw [hno]
        exact .of_lpi rfl
    exact ⟨by rw [settle_ae, setReason_ae], by rw [hsettle]; exact hsli, portAfter_settle hraised (hsli ▸ hs.2)⟩

theorem evaluateWaiting_bladeKept (s : State) : BladeKept s (evaluateWaiting s) := by simp [BladeKept]

/-- The evaluation leaves the retry count and the two timers alone. -/
theorem evaluateWaiting_record (s : State) : (evaluateWaiting s).ae.retryCount = s.ae.retryCount
    ∧ (evaluateWaiting s).ae.backoff = s.ae.backoff ∧ (evaluateWaiting s).ae.cooldown = s.ae.cooldown := by
  unfold evaluateWaiting
  split
  · split
    · split
      · rw [enterBidding_ae]
        exact ⟨rfl, rfl, rfl⟩
      · rw [setReason_ae]
        exact ⟨rfl, rfl, rfl⟩
    · exact ⟨rfl, rfl, rfl⟩
  · exact ⟨rfl, rfl, rfl⟩

/-! ## The view change in WAITING -/

theorem evaluateWaiting_engine {b : State} (he : b.ae.engine = .waiting) :
    (evaluateWaiting b).ae.engine = .waiting ∨ (evaluateWaiting b).ae.engine = .bidding := by
  unfold evaluateWaiting
  rw [if_pos he]
  split
  · split
    · rw [enterBidding_ae]
      exact .inr rfl
    · rw [setReason_ae]
      exact .inl he
  · exact .inl he

theorem evaluateAdmitted_other {b : State} (h : ∀ sub, b.ae.engine ≠ .admitted sub) : evaluateAdmitted b = b := by
  unfold evaluateAdmitted
  split
  · next sub he => exact absurd he (h sub)
  · rfl

theorem evaluateTakeover_other {b : State} (h : ∀ sub, b.ae.engine ≠ .admitted sub) : evaluateTakeover b = b := by
  have hno : takeoverWanted b = false := by
    unfold takeoverWanted
    split
    · next sub _ he _ => exact absurd he (h sub)
    · rfl
  simp [evaluateTakeover, hno]

theorem evaluateHandover_other {b : State} (h : ∀ sub, b.ae.engine ≠ .retiring sub) : evaluateHandover b = b :=
  if_neg (fun hc => hc.1.elim (h _) (h _))

/-- A view change in WAITING is the evaluation of R77, and what the mate's entry ends of a TAKEOVER (R10). -/
theorem viewChanged_of_waiting {before b : State} (he : b.ae.engine = .waiting) :
    viewChanged before b = maintainTakeover before (evaluateWaiting (viewEvents before b)) := by
  have hev : (viewEvents before b).ae.engine = .waiting := by rw [viewEvents_ae]; exact he
  have hengine := evaluateWaiting_engine hev
  have hadmitted (u : State) (h : u.ae.engine = .waiting ∨ u.ae.engine = .bidding) (sub : AdmittedSub) : u.ae.engine ≠ .admitted sub := by
    rcases h with h | h <;> simp [h]
  have hretiring (u : State) (h : u.ae.engine = .waiting ∨ u.ae.engine = .bidding) (sub : RetiringSub) : u.ae.engine ≠ .retiring sub := by
    rcases h with h | h <;> simp [h]
  have hmaintained := hengine
  rw [← maintainTakeover_ae before] at hmaintained
  unfold viewChanged
  rw [evaluateAdmitted_other (hadmitted _ hengine), evaluateTakeover_other (hadmitted _ hmaintained),
    evaluateHandover_other (hretiring _ hmaintained)]

theorem maintainTakeover_handoverReq (before b : State) : (maintainTakeover before b).rc.handoverReq = b.rc.handoverReq := by
  unfold maintainTakeover
  dsimp only
  (repeat' split) <;> rfl

theorem viewEvents_within {m : BitVec 16} (hc : flagWord .capacityMismatch ||| m = m) (hmm : flagWord .mateMismatch ||| m = m)
    (before b : State) : PortWithin m b (viewEvents before b) := (raiseIf_within hc _ b).trans (raiseIf_within hmm _ _)

/-- A frame that rewrites more than the age of its slot's entry is a view change (R10). -/
theorem entryArrives_changes {n : Notice} {k : NoticeKind} {b : State}
    (h : ∀ e, lookup b.sv.table n.slot = some e → { e with age := 0 } ≠ entryOf k n) :
    entryArrives (entryOf k n) b = viewChanged b (withTable (insertEntry (entryOf k n) b.sv.table) b) := by
  refine if_neg ?_
  unfold onlyRefreshes
  show ¬ (match lookup b.sv.table n.slot with | some x => _ | none => _) = true
  split
  · next x hx =>
    have hne := h x hx
    rw [decide_eq_true_iff]
    intro hx'
    refine hne ?_
    rw [hx']
    rfl
  · exact Bool.false_ne_true

theorem lineFine_afterFrame (hr : receives s.sli = true) : lineFine (afterFrame s) = lineFine s := by
  refine lineFine_congr ?_ rfl
  have hline : s.sli.line ≠ .stuck := by
    intro h
    simp [(receives_stuck _ h).1] at hr
  simp [afterFrame, endFrame, hline]

end

/-- Settles O41. -/
theorem backoffAndCooldownEndInWaiting : Obligations.BackoffAndCooldownEndInWaiting := by
  intro p v c n s hp hv hstart hnone hr hs
  refine ⟨fun hc => ?timers, fun he ho hrec hsl hnew => ?view⟩
  case timers =>
    obtain ⟨bk, cd, hexec, hi, htimers⟩ : ∃ bk cd, exec c s = answer s (evaluateWaiting (backInWaiting bk cd s)) ∧ idles s.ae.engine
        ∧ (if s.ae.engine = .backoff then bk = none ∧ cd = s.ae.cooldown else cd = none ∧ bk = s.ae.backoff) := by
      rcases hc with ⟨rfl, he, ht⟩ | ⟨rfl, he, ht⟩
      · exact ⟨_, _, exec_backoffExpiry he ht, .inl he, by simp [he]⟩
      · exact ⟨_, _, exec_cooldownExpiry he ht, .inr he, by simp [he]⟩
    obtain ⟨hok, herror⟩ := entryEvaluation bk cd hp hv hi hnone hr hs
    obtain ⟨hretry, hbk, hcd⟩ := evaluateWaiting_record (backInWaiting bk cd s)
    refine ⟨_, hexec, ?_, fun x hx => ?_, fun r hx => ?_, bidConditions_feed, bidConditions_line, bidConditions_busy,
      settle_bladeKept (evaluateWaiting_bladeKept (backInWaiting bk cd s)),
      settle_outerKept (evaluateWaiting_quiet (backInWaiting bk cd s)).1 (by simp [backInWaiting]), ?_⟩
    · rw [settle_ae, hbk, hcd]
      exact htimers
    · obtain ⟨hae, hbid, hstanding, hport⟩ := hok x hx
      rw [hae]
      exact ⟨rfl, rfl, rfl, rfl, rfl, rfl, hbid, hstanding, hport⟩
    · obtain ⟨hae, hsli, hport⟩ := herror r hx
      rw [hae]
      exact ⟨rfl, hnone, rfl, rfl, hsli, hport⟩
    · rw [settle_ae, hretry]
      rfl
  case view =>
    obtain ⟨b, hb⟩ : ∃ b, b = viewEvents (afterFrame s) (withTable (insertEntry (entryOf .standing n) s.sv.table) (afterFrame s)) := ⟨_, rfl⟩
    have hexec : exec (.standingNotice n) s = answer s (maintainTakeover (afterFrame s) (evaluateWaiting b)) := by
      refine congrArg (answer s) ((receiveValid_arrival .standing n s (by decide) ho hsl hrec).trans ?_)
      rw [entryArrives_changes (b := afterFrame s) hnew, viewChanged_of_waiting (b := withTable _ (afterFrame s)) he, hb]
      rfl
    have hsc : b.sc = s.sc := by simp [hb]
    have hae : b.ae = s.ae := by rw [hb, viewEvents_ae]; rfl
    have hsli : b.sli = endFrame s.sli := by rw [hb, viewEvents_sli]; rfl
    have hpp : b.pp = s.pp := by rw [hb, viewEvents_pp]; rfl
    have hsv : b.sv = { s.sv with table := insertEntry (entryOf .standing n) s.sv.table } := by rw [hb, viewEvents_sv]; rfl
    have htsv : (settle s (maintainTakeover (afterFrame s) (evaluateWaiting b))).sv = b.sv := by simp
    have hwithin : PortWithin (flagWord .capacityMismatch ||| flagWord .mateMismatch) s b :=
      hb ▸ viewEvents_within (by decide) (by decide) (afterFrame s) (withTable _ (afterFrame s))
    have hseen : bidConditions p v b = bidConditions p v { s with sv := b.sv } := by
      refine bidConditions_congr (by simp [hb, afterFrame]) rfl ?_
      rw [show lineFine { s with sv := b.sv } = lineFine s from rfl, ← lineFine_afterFrame hrec]
      unfold lineFine
      rw [hsli]
      rfl
    have hwaiting : b.ae.engine = .waiting := by rw [hae]; exact he
    have hreq : Requests b := by
      refine hr.of_engine (by rw [hsc]) (by rw [hwaiting]; exact nofun) ?_
      rw [hsli]
      rfl
    refine ⟨_, hexec, htsv.trans hsv, ?_⟩
    rw [htsv]
    refine ⟨fun x hx => ?ok, fun r hx => ?error, by simp [hb, afterFrame], by simp [hb, afterFrame], by simp [hb, afterFrame], by simp [hb],
      by simp [hb, afterFrame]⟩
    case ok =>
      rw [evaluateWaiting_ok (by rw [hsc]; exact hp) (by rw [hae]; exact hv) hwaiting (hseen.trans hx)]
      obtain ⟨hbid, hstanding⟩ := notices_after_bidding (s := s) (b := b) (level := x.1) (resv := x.2.2)
        (u := maintainTakeover (afterFrame s) (enterBidding x.1 x.2.2 b)) hreq hnone (maintainTakeover_sli _ _)
        ((maintainTakeover_ae _ _).trans (enterBidding_ae _ _ _)) ((maintainTakeover_sc _ _).trans (enterBidding_sc _ _ _))
      refine ⟨?_, hbid, hstanding⟩
      rw [settle_ae, maintainTakeover_ae, enterBidding_ae, hae]
      rfl
    case error =>
      rw [evaluateWaiting_error (by rw [hsc]; exact hp) (by rw [hae]; exact hv) hwaiting (hseen.trans hx)]
      obtain ⟨u, hu⟩ : ∃ u, u = maintainTakeover (afterFrame s) (setReason r b) := ⟨_, rfl⟩
      have huae : u.ae = { s.ae with reason := r } := by rw [hu, maintainTakeover_ae, setReason_ae, hae]
      have hupp : u.pp = s.pp := by rw [hu, maintainTakeover_pp, setReason_pp, hpp]
      have husc : u.sc = s.sc := by rw [hu, maintainTakeover_sc, setReason_sc, hsc]
      have husli : u.sli = endFrame s.sli := by rw [hu, maintainTakeover_sli, setReason_sli, hsli]
      have hurc : u.rc.handoverReq = s.rc.handoverReq := by rw [hu, maintainTakeover_handoverReq, setReason_rc, hb, viewEvents_rc]; rfl
      have hulpi : u.lpi = (setReason r b).lpi := by rw [hu, maintainTakeover_lpi]
      have hshown : SameShown s u := by
        refine ⟨?_, ?_, ?_, ?_, ?_, ?_, ?_, ?_, ?_, ⟨by rw [hupp], by rw [hupp]⟩, husc, hurc⟩ <;> rw [huae]
      have hsettle : settle s u = u := hshown.settle hs (by rw [husli]; rfl) (by rw [husli]; rfl)
      rw [← hu, hsettle]
      refine ⟨huae, by rw [husli]; rfl, fun hd hne => ?_, fun hno => ?_⟩
      · unfold flagSet
        rw [hulpi]
        exact setReason_denied hd (by rw [hae]; exact hne)
      · have hreason : (setReason r b).lpi = b.lpi := by
          have hc : decide (r = .denied ∧ b.ae.reason ≠ .denied) = false := by
            rw [hae]
            rcases hno with h | h <;> simp [h]
          unfold setReason
          rw [hc]
          rfl
        unfold flagSet
        rw [hulpi, hreason]
        exact hwithin.flag_eq (by decide)

end Sys2Proof.Machine

/-! The Power Path's samples (R101, R105, R106, R109, R111, R117, R118), and the entries that notices write (R4 to R9). -/

namespace Sys2Proof.Machine

/-! ## Events of the path that nothing announces -/

section
variable {s u : State}

/-- The own claim reads of the path whether the main switch is closed (R60, R168). -/
theorem ownClaim_of_closed_iff (hae : u.ae = s.ae) (hclosed : u.pp.path = .closed ↔ s.pp.path = .closed) (hsc : u.sc = s.sc) :
    ownClaim u = ownClaim s := by
  have hsteady : ownSteady u = ownSteady s := by unfold ownSteady; rw [hae, hsc]
  unfold ownClaim
  rw [hae, hsc, hsteady]
  cases hs : s.pp.path <;> cases hu : u.pp.path <;> simp_all

theorem standingDue_of_path (hae : u.ae = s.ae) (hclosed : u.pp.path = .closed ↔ s.pp.path = .closed) (hsc : u.sc = s.sc)
    (hrc : u.rc = s.rc) : standingDue s u = false := by
  unfold standingDue bidOpen
  rw [ownClaim_of_closed_iff hae hclosed hsc, hae, hrc]
  simp

/-- An event of the Power Path alone, short of the discharged condition and of the main switch, ends as its body left it. -/
theorem settle_of_path (hs : Settled s) (hae : u.ae = s.ae) (hclosed : u.pp.path = .closed ↔ s.pp.path = .closed)
    (hd : u.pp.discharged = s.pp.discharged) (hsc : u.sc = s.sc) (hrc : u.rc = s.rc) (hsli : u.sli = s.sli) : settle s u = u := by
  have hsilent : silent u = silent s := by unfold silent; rw [hae, hsc]
  refine settle_of_unannounced s u (standingDue_of_path hae hclosed hsc hrc) hsilent.symm (fun h => ?_) (hsli ▸ hs.2) ?_
  · rw [hsli]
    exact hs.1 (hsilent ▸ h)
  · unfold lampPattern
    rw [hae, hd]

/-- The same with the discharged condition changed: the lamp may follow it (R182). -/
theorem settle_of_discharged (hs : Settled s) (hae : u.ae = s.ae) (hclosed : u.pp.path = .closed ↔ s.pp.path = .closed)
    (hsc : u.sc = s.sc) (hrc : u.rc = s.rc) (hsli : u.sli = s.sli) : settle s u = settleLamp s u := by
  have hsilent : silent u = silent s := by unfold silent; rw [hae, hsc]
  unfold settle
  dsimp only
  rw [standingDue_of_path hae hclosed hsc hrc, if_neg Bool.false_ne_true, settlePeriodic_same, settleCongestion_of_not_due]
  · exact hsli ▸ hs.2
  · intro h
    rw [hsli]
    exact hs.1 (hsilent ▸ h)
  · intro h
    rwa [hsilent]

theorem settleLamp_eq (s u : State) : settleLamp s u = { u with lpi := (settleLamp s u).lpi } := by
  unfold settleLamp
  split <;> rfl

end

/-! ## Samples in PRECHARGE -/

section
variable {s : State}

/-- The readings of a path sample taken (R101). -/
def sampledPath (v i : Nat) (s : State) : State := { s with pp := { s.pp with vBulk := reading v, iLoad := reading i } }

theorem updateDischarged_of_gateOn (h : gateOn s = true) : updateDischarged s = { s with pp := { s.pp with discharged := false } } :=
  if_pos h

theorem exec_pathSample (v i : Nat) (s : State) : exec (.pathSample v i) s = answer s (pathSampleEvent v i s) := rfl

/-- A path sample event by the path state (R101). -/
theorem pathSampleEvent_eq (v i : Nat) (s : State) : pathSampleEvent v i s = updateDischarged (match s.pp.path with
    | .opened => sampledPath v i s
    | .precharge => prechargeSample (sampledPath v i s)
    | .closing => sampledPath v i s
    | .closed => closedSample (sampledPath v i s)
    | .tripped => sampledPath v i s) := rfl

theorem pathSampleEvent_precharge {v i : Nat} (h : s.pp.path = .precharge) :
    pathSampleEvent v i s = updateDischarged (prechargeSample (sampledPath v i s)) := by rw [pathSampleEvent_eq, h]

theorem pathSampleEvent_closed {v i : Nat} (h : s.pp.path = .closed) :
    pathSampleEvent v i s = updateDischarged (closedSample (sampledPath v i s)) := by rw [pathSampleEvent_eq, h]

theorem pathSampleEvent_off {v i : Nat} (h : s.pp.path = .opened ∨ s.pp.path = .tripped) :
    pathSampleEvent v i s = updateDischarged (sampledPath v i s) := by
  rcases h with h | h <;> rw [pathSampleEvent_eq, h]

theorem elapsed_after_advance {vF : Nat} {pp : PowerPath} (h : pp.elapsed < pp.deadline) : (prechargeAdvance vF pp).elapsed
    = if foldbackAfter pp.foldback vF pp.vSag = true ∧ pp.half = false then pp.elapsed else pp.elapsed + 1 := by
  unfold prechargeAdvance
  dsimp only
  rw [Nat.min_eq_left h]
  cases foldbackAfter pp.foldback vF pp.vSag <;> cases pp.half <;> rfl

end

/-- Settles O45. -/
theorem prechargeSampleTakesItsSteps : Obligations.PrechargeSampleTakesItsSteps := by
  intro v i s hpath hdis hs hel fold k base elapsed advanced
  have hadvance : prechargeAdvance s.fs.vF (sampledPath v i s).pp = advanced := by
    have helapsed : (prechargeAdvance s.fs.vF (sampledPath v i s).pp).elapsed = elapsed := elapsed_after_advance hel
    rw [show advanced = { prechargeAdvance s.fs.vF (sampledPath v i s).pp with elapsed := elapsed, discharged := false } from rfl, ← helapsed,
      ← hdis]
    rfl
  have hgate (q : PathState) (hq : q = .precharge ∨ q = .closing) (t : Timer) :
      updateDischarged { s with pp := { advanced with path := q, closing := t } } = { s with pp := { advanced with path := q, closing := t } } := by
    refine (updateDischarged_of_gateOn ?_).trans rfl
    rcases hq with rfl | rfl <;> rfl
  have hsettle (q : PathState) (hq : q = .precharge ∨ q = .closing) (t : Timer) :
      settle s { s with pp := { advanced with path := q, closing := t } } = { s with pp := { advanced with path := q, closing := t } } := by
    refine settle_of_path hs rfl ?_ hdis.symm rfl rfl rfl
    rcases hq with rfl | rfl <;> simp [hpath]
  refine ⟨fun hv hfit => ?complete, fun hno hel' => ?goesOn⟩
  case complete =>
    have hsample : prechargeSample (sampledPath v i s) = { s with pp := { advanced with path := .closing, closing := some 5 } } := by
      have hdone : prechargeComplete { sampledPath v i s with pp := advanced } = true := by
        simp [prechargeComplete, advanced, sampledPath, hv, hfit]
      unfold prechargeSample
      rw [show (sampledPath v i s).fs.vF = s.fs.vF from rfl, hadvance]
      dsimp only
      rw [if_pos hdone]
      rfl
    rw [exec_pathSample, pathSampleEvent_precharge hpath, hsample, hgate .closing (.inr rfl)]
    exact congrArg Host.Outcome.next (hsettle .closing (.inr rfl) (some 5))
  case goesOn =>
    have hsample : prechargeSample (sampledPath v i s) = { s with pp := { advanced with path := .precharge, closing := s.pp.closing } } := by
      have hnot : ¬ prechargeComplete { sampledPath v i s with pp := advanced } = true := by
        rcases hno with h | h
        · have hlt : ¬ s.fs.vF ≤ min v 1023 + 20 := by omega
          simp [prechargeComplete, advanced, sampledPath, hlt]
        · simp [prechargeComplete, sampledPath, h]
      unfold prechargeSample
      rw [show (sampledPath v i s).fs.vF = s.fs.vF from rfl, hadvance]
      dsimp only
      rw [if_neg hnot, if_neg (Nat.not_le.2 hel'), ← hpath]
      rfl
    rw [exec_pathSample, pathSampleEvent_precharge hpath, hsample, hgate .precharge (.inl rfl)]
    refine congrArg Host.Outcome.next ((hsettle .precharge (.inl rfl) s.pp.closing).trans ?_)
    rw [← hpath]

/-! ## Samples in CLOSED -/

section
variable {v i : Nat} {s : State}

/-- The station after a sample in CLOSED that trips nothing, before the overclaim monitor (R109). -/
def slowCounted (v i : Nat) (s : State) : State :=
  { s with pp := { s.pp with vBulk := reading v, iLoad := reading i, discharged := false,
                             slowCount := if s.pp.iTrip < reading i then s.pp.slowCount + 1 else 0 } }

/-- A sample at or below the fast threshold, and no fourth one over I_trip, trips nothing (R109). -/
theorem closedSample_untripped (hdis : s.pp.discharged = false) (hfast : reading i ≤ fastThreshold s.pp.iTrip)
    (hslow : s.pp.iTrip < reading i → s.pp.slowCount < 3) : closedSample (sampledPath v i s) = overclaimSample (slowCounted v i s) := by
  have hcount : slowCountAfter (sampledPath v i s).pp = if s.pp.iTrip < reading i then s.pp.slowCount + 1 else 0 := rfl
  have hno : sampleTrips (sampledPath v i s).pp = false := by
    have hlt : ¬ fastThreshold s.pp.iTrip < reading i := Nat.not_lt.2 hfast
    have hfour : ¬ 4 ≤ slowCountAfter (sampledPath v i s).pp := by
      rw [hcount]
      split
      · next h => have := hslow h; omega
      · omega
    unfold sampleTrips
    rw [decide_eq_false hfour, Bool.or_false]
    exact decide_eq_false hlt
  unfold closedSample slowCounted
  rw [if_neg (by rw [hno]; exact Bool.false_ne_true), hcount, ← hdis]
  rfl

theorem overclaimSample_within (h : s.pp.iLoad ≤ ownClaim s) :
    overclaimSample s = { s with pp := { s.pp with overCount := 0, overclaim := false } } := if_neg (Nat.not_lt.2 h)

theorem overclaimSample_excursion (h : ownClaim s < s.pp.iLoad) (ho : s.pp.overclaim = true) : overclaimSample s = s :=
  (if_pos h).trans (if_pos ho)

theorem overclaimSample_counts (h : ownClaim s < s.pp.iLoad) (ho : s.pp.overclaim = false) (hc : s.pp.overCount < 999) :
    overclaimSample s = { s with pp := { s.pp with overCount := s.pp.overCount + 1 } } := by
  unfold overclaimSample
  rw [if_pos h, if_neg (by simp [ho]), if_neg (by omega)]

theorem overclaimSample_begins (h : ownClaim s < s.pp.iLoad) (ho : s.pp.overclaim = false) (hc : s.pp.overCount = 999) :
    overclaimSample s = raise .overclaim { s with pp := { s.pp with overCount := 1000, overclaim := true } } := by
  unfold overclaimSample
  rw [if_pos h, if_neg (by simp [ho]), if_pos (by omega)]

/-- In CLOSED the discharged condition does not hold, and a sample's event ends as its counts leave it. -/
theorem answer_of_closed {u : State} (hs : Settled s) (hpath : s.pp.path = .closed) (hdis : s.pp.discharged = false)
    (hu : u = { s with pp := u.pp, lpi := u.lpi }) (hupath : u.pp.path = .closed) (hudis : u.pp.discharged = false) :
    answer s (updateDischarged u) = .next u := by
  have hsame : updateDischarged u = u := by
    rw [updateDischarged_of_gateOn (by simp [gateOn, hupath]), ← hudis]
  rw [hsame]
  refine congrArg Host.Outcome.next (settle_of_path hs ?_ (by simp [hpath, hupath]) (hudis.trans hdis.symm) ?_ ?_ ?_) <;> rw [hu]

end

/-- Settles O48. -/
theorem closedSamplesCount : Obligations.ClosedSamplesCount := by
  intro v i s hpath hdis hs hfast hslow sampled
  have hclaim : ownClaim (slowCounted v i s) = ownClaim s := ownClaim_of_closed_iff rfl .rfl rfl
  have hexec : exec (.pathSample v i) s = answer s (updateDischarged (overclaimSample (slowCounted v i s))) := by
    rw [exec_pathSample, pathSampleEvent_closed hpath, closedSample_untripped hdis hfast hslow]
  refine ⟨fun h => ?within, fun h ho => ?excursion, fun h ho hc => ?counts, fun h ho => ?begins⟩
  case within =>
    rw [hexec, overclaimSample_within (s := slowCounted v i s) (hclaim.symm ▸ h)]
    exact answer_of_closed hs hpath hdis rfl hpath rfl
  case excursion =>
    rw [hexec, overclaimSample_excursion (s := slowCounted v i s) (hclaim.symm ▸ h) ho]
    exact answer_of_closed hs hpath hdis rfl hpath rfl
  case counts =>
    rw [hexec, overclaimSample_counts (s := slowCounted v i s) (hclaim.symm ▸ h) ho hc]
    exact answer_of_closed hs hpath hdis rfl hpath rfl
  case begins =>
    obtain ⟨b, hb⟩ : ∃ b : State, b = { s with pp := { s.pp with overCount := 999 } } := ⟨_, rfl⟩
    have hover : exec (.overclaim v i) s = answer s (updateDischarged (overclaimSample (slowCounted v i b))) := by
      refine (congrArg (fun x => answer s (pathSampleEvent v i x)) ((if_pos ⟨hpath, ho⟩).trans hb.symm)).trans ?_
      rw [pathSampleEvent_closed (by rw [hb]; exact hpath),
        closedSample_untripped (by rw [hb]; exact hdis) (by rw [hb]; exact hfast) (by rw [hb]; exact hslow)]
    refine ⟨?_, fun hc => ?_⟩
    · have hclaimb : ownClaim (slowCounted v i b) = ownClaim s := by rw [hb]; exact ownClaim_of_closed_iff rfl .rfl rfl
      rw [hover, overclaimSample_begins (s := slowCounted v i b) (hclaimb.symm ▸ hb ▸ h) (hb ▸ ho) (by rw [hb]; rfl), hb]
      exact answer_of_closed hs hpath hdis rfl hpath rfl
    · rw [hexec, hover, hb, ← hc]

/-! ## The discharge -/

section
variable {v i : Nat} {s : State}

theorem gateOn_off (h : s.pp.path = .opened ∨ s.pp.path = .tripped) : gateOn s = false := by
  rcases h with h | h <;> simp [gateOn, h]

theorem updateDischarged_above (hg : gateOn s = false) (h : 50 ≤ s.pp.vBulk) :
    updateDischarged s = { s with pp := { s.pp with discharged := false } } := by
  unfold updateDischarged
  rw [if_neg (by simp [hg]), if_neg (by simp [bulkDischarged, h])]

theorem updateDischarged_begins (hg : gateOn s = false) (h : s.pp.vBulk < 50) (hd : s.pp.discharged = false) :
    updateDischarged s
      = completeDischarge { s with pp := { s.pp with discharged := true, discharge := none, path := .opened } } := by
  unfold updateDischarged
  rw [if_neg (by simp [hg]), if_pos (by simp [bulkDischarged, h]), if_neg (by simp [hd])]

/-- The record in which a completed discharge ends, by its exit (R95, R96), where that is not WAITING. -/
theorem completeDischarge_ae (hd : s.pp.discharged = true) :
    (s.ae.engine ≠ .discharging → (completeDischarge s).ae = s.ae)
      ∧ (s.ae.engine = .discharging → s.ae.exit = .cooldown →
          (completeDischarge s).ae = { s.ae with engine := .cooldown, exit := .none, cooldown := some 5000 })
      ∧ (s.ae.engine = .discharging → s.ae.exit = .released →
          (completeDischarge s).ae = { s.ae with engine := .released, exit := .none })
      ∧ (s.ae.engine = .discharging → s.ae.exit = .stopped →
          (completeDischarge s).ae = { s.ae with engine := .stopped, exit := .none })
      ∧ (s.ae.engine = .discharging → s.ae.exit = .waiting → completeDischarge s = enterWaiting s) := by
  unfold completeDischarge
  refine ⟨fun he => ?_, fun he hx => ?_, fun he hx => ?_, fun he hx => ?_, fun he hx => ?_⟩
  · rw [if_neg (fun h => he h.1)]
  all_goals rw [if_pos ⟨he, hd⟩, hx]
  all_goals exact announceFrom_ae _ _

theorem evaluateWaiting_exit (s : State) : (evaluateWaiting s).ae.exit = s.ae.exit := by
  unfold evaluateWaiting
  split
  · split
    · split
      · rw [enterBidding_ae]
        rfl
      · rw [setReason_ae]
    · rfl
  · rfl

/-- The entry into WAITING ends there or, its conditions holding, in BIDDING, with no exit left (R77, R80). -/
theorem enterWaiting_engine (s : State) : (enterWaiting s).ae.exit = .none
    ∧ ((enterWaiting s).ae.engine = .waiting ∨ (enterWaiting s).ae.engine = .bidding) := by
  rw [enterWaiting_eq]
  refine ⟨?_, evaluateWaiting_engine (by rw [announceFrom_ae]; rfl)⟩
  rw [evaluateWaiting_exit, announceFrom_ae]
  rfl

end

/-- Settles O49. -/
theorem dischargeCompletesBelowFifty : Obligations.DischargeCompletesBelowFifty := by
  intro v i s hs hoff
  have hgate : gateOn (sampledPath v i s) = false := gateOn_off hoff
  have hexec : exec (.pathSample v i) s = answer s (updateDischarged (sampledPath v i s)) := by
    rw [exec_pathSample, pathSampleEvent_off hoff]
  refine ⟨fun hv => ?above, fun hv hdis => ?below, fun ht hdis hmark => ?slow⟩
  case above =>
    have hreading : 50 ≤ reading v := Nat.le_min.2 ⟨hv, by decide⟩
    rw [hexec, updateDischarged_above hgate hreading]
    obtain ⟨u, hu⟩ : ∃ u : State, u = { sampledPath v i s with pp := { (sampledPath v i s).pp with discharged := false } } := ⟨_, rfl⟩
    have hsettle : settle s u = settleLamp s u := by rw [hu]; exact settle_of_discharged hs rfl .rfl rfl rfl rfl
    have hport := portAfter_settle (Raised.of_lpi (s := s) (u := u) (by rw [hu]; rfl)) (by rw [hu]; exact hs.2)
    rw [← hu]
    refine ⟨_, rfl, ?_, hport, ?_⟩
    · rw [hsettle, settleLamp_eq]
      rw [hu]
      rfl
    · unfold safeLamp
      rw [settle_pp, hu]
      exact Bool.and_false _
  case below =>
    have hreading : reading v = v := reading_of_le (by omega)
    rw [hexec, updateDischarged_begins hgate (by rw [show (sampledPath v i s).pp.vBulk = reading v from rfl, hreading]; exact hv) hdis]
    obtain ⟨u, hu⟩ : ∃ u : State, u = { sampledPath v i s with
        pp := { (sampledPath v i s).pp with discharged := true, discharge := none, path := .opened } } := ⟨_, rfl⟩
    have huae : u.ae = s.ae := by rw [hu]; rfl
    have hdone : u.pp.discharged = true := by rw [hu]
    obtain ⟨hother, hcooldown, hreleased, hstopped, hwaiting⟩ := completeDischarge_ae (s := u) hdone
    rw [huae] at hother hcooldown hreleased hstopped hwaiting
    rw [← hu]
    refine ⟨_, rfl, ?_, fun he => ?_, fun he hx => ?_, fun he hx => ?_, fun he hx => ?_, fun he hx _ _ => ?_, ?_, ?_, ?_,
      settle_outerKept (s := s) ?_ (by simp [hu, sampledPath])⟩
    · rw [settle_pp, completeDischarge_pp, hu, ← hreading]
      simp [sampledPath, reading]
    · exact (settle_ae _ _).trans (hother he)
    · exact (settle_ae _ _).trans (hcooldown he hx)
    · refine ⟨(settle_ae _ _).trans (hreleased he hx), ?_⟩
      unfold safeLamp
      rw [settle_ae, settle_pp, hreleased he hx, completeDischarge_pp, hdone]
      rfl
    · refine ⟨(settle_ae _ _).trans (hstopped he hx), ?_⟩
      unfold faultPin
      rw [settle_ae, hstopped he hx]
      rfl
    · rw [settle_ae, hwaiting he hx]
      exact enterWaiting_engine u
    · simp [hu, sampledPath]
    · simp [hu, sampledPath]
    · simp [hu, sampledPath]
    · rw [(completeDischarge_quiet u).1, hu]
      rfl
  case slow =>
    obtain ⟨u, hu⟩ : ∃ u : State, u = raise .dischargeSlow { s with pp := { s.pp with discharge := none, slowMark := true } } := ⟨_, rfl⟩
    have hbody : exec .dischargeSlow s = answer s u := by
      refine congrArg (answer s) ((if_pos ht).trans ?_)
      rw [hu]
      simp [hdis, hmark, raiseIf]
    rw [hbody, hu]
    exact answer_of_kept hs ⟨rfl, rfl, rfl, .rfl, .rfl, rfl, rfl⟩ rfl

end Sys2Proof.Machine

/-! No shared operation of the engine clears a flag or moves another register of the port. -/

namespace Sys2Proof.Machine

/-- Every flag. -/
def allFlags : BitVec 16 := 0xFFFF

theorem or_allFlags (w : BitVec 16) : w ||| allFlags = allFlags := by
  refine BitVec.eq_of_getLsbD_eq (fun i hi => ?_)
  have hone : allFlags.getLsbD i = true := by
    revert i
    decide
  rw [BitVec.getLsbD_or, hone, Bool.or_true]

/-- Of the port, only the lamp's phase and flags have changed, and no flag has been cleared. -/
abbrev PortGrows (s t : State) : Prop := PortWithin allFlags s t

theorem portGrows_of_lpi {s t : State} (h : t.lpi = s.lpi) : PortGrows s t := .of_lpi h

/-- An operation on a state with the same port. -/
theorem PortGrows.from {s t u : State} (h : PortGrows t u) (k : t.lpi = s.lpi) : PortGrows s u := (portGrows_of_lpi k).trans h

theorem raise_grows (f : EventFlag) (s : State) : PortGrows s (raise f s) := raise_within (or_allFlags _) s

theorem announceFrom_grows (b u : State) : PortGrows u (announceFrom b u) := announceFrom_within (or_allFlags _) b u

theorem evaluateWaiting_grows (s : State) : PortGrows s (evaluateWaiting s) := evaluateWaiting_within (or_allFlags _) s

theorem settle_grows (s u : State) : PortGrows u (settle s u) := settle_within (or_allFlags _) s u

theorem beginDischarging_grows (exit : DischargeExit) (s : State) : PortGrows s (beginDischarging exit s) :=
  beginDischarging_within (or_allFlags _) exit s

theorem completeDischarge_grows (s : State) : PortGrows s (completeDischarge s) :=
  completeDischarge_within (or_allFlags _) (or_allFlags _) s

theorem enterDischarging_grows (exit : DischargeExit) (s : State) : PortGrows s (enterDischarging exit s) :=
  (beginDischarging_grows exit s).trans (completeDischarge_grows _)

theorem beginRetry_grows (c : CountedFault) (s : State) : PortGrows s (beginRetry c s) :=
  PortGrows.from (t := { s with ae := retryRecord (retryLimit s) c s.ae })
    ((raise_grows .fault _).trans (beginDischarging_grows _ _)) rfl

theorem retryRule_grows (c : CountedFault) (s : State) : PortGrows s (retryRule c s) :=
  (beginRetry_grows c s).trans (completeDischarge_grows _)

theorem openGates_grows (target : PathState) (s : State) : PortGrows s (openGates target s) := openGates_within target s

/-! ## The teardown -/

theorem teardownComplete_grows (s : State) : PortGrows s (teardownComplete s) := by
  unfold teardownComplete
  dsimp only
  split
  · split
    · split
      · exact (openGates_grows _ s).trans (retryRule_grows _ _)
      · exact (openGates_grows _ s).trans (enterDischarging_grows _ _)
    · exact openGates_grows _ s
  · exact .refl s

theorem undoFrom_grows (n : Nat) (s : State) : PortGrows s (undoFrom n s) := by
  induction n generalizing s with
  | zero => exact teardownComplete_grows s
  | succ n ih =>
    unfold undoFrom
    split
    · exact ih s
    · dsimp only
      split
      · exact (ih _).from rfl
      · exact portGrows_of_lpi rfl

theorem teardownCommand_grows (s : State) : PortGrows s (teardownCommand s) := by
  unfold teardownCommand
  split
  · exact teardownComplete_grows s
  · exact (undoFrom_grows _ _).from rfl
  · exact (undoFrom_grows _ _).from rfl
  · exact .refl s

theorem enterTeardown_grows (s : State) : PortGrows s (enterTeardown s) := by
  unfold enterTeardown
  exact PortGrows.from ((announceFrom_grows _ _).trans (teardownCommand_grows _)) rfl

/-! ## The substates of RETIRING -/

theorem enterDraining_grows (s : State) : PortGrows s (enterDraining s) := by
  unfold enterDraining
  dsimp only
  split
  · exact (enterTeardown_grows _).from rfl
  · exact portGrows_of_lpi rfl

theorem enterHandover_grows (s : State) : PortGrows s (enterHandover s) := by
  unfold enterHandover
  dsimp only
  split
  · exact (enterDraining_grows _).from rfl
  · exact portGrows_of_lpi rfl

theorem enterRetiring_grows (s : State) : PortGrows s (enterRetiring s) := by
  unfold enterRetiring
  dsimp only
  split
  · exact PortGrows.from ((announceFrom_grows _ _).trans (enterHandover_grows _)) rfl
  · exact PortGrows.from ((announceFrom_grows _ _).trans (enterDraining_grows _)) rfl

theorem evaluateHandover_grows (s : State) : PortGrows s (evaluateHandover s) := by
  unfold evaluateHandover
  split
  · exact enterDraining_grows s
  · exact .refl s

/-! ## ADMITTED -/

theorem completeShed_grows (s : State) : PortGrows s (completeShed s) := by
  unfold completeShed
  dsimp only
  split
  · refine PortWithin.trans ?_ (enterRetiring_grows _)
    exact PortGrows.from ((raise_grows .profile _).trans (PortGrows.from (raiseIf_within (or_allFlags _) _ _) rfl)) rfl
  · exact PortGrows.from ((raise_grows .profile _).trans (PortGrows.from (raiseIf_within (or_allFlags _) _ _) rfl)) rfl

theorem enterShedding_grows (s : State) : PortGrows s (enterShedding s) := by
  unfold enterShedding
  dsimp only
  split
  · exact portGrows_of_lpi rfl
  · exact (completeShed_grows _).from rfl

theorem beginExcursion_grows (sub : AdmittedSub) (s : State) : PortGrows s (beginExcursion sub s) := by
  cases sub with
  | steady =>
    unfold beginExcursion
    dsimp only
    split
    · exact (enterShedding_grows _).from rfl
    · exact (raise_grows .overcommit _).from rfl
  | upgradeBid => exact (raise_grows .overcommit _).from (by simp)
  | shedding => exact portGrows_of_lpi rfl

theorem evaluateAdmitted_grows (s : State) : PortGrows s (evaluateAdmitted s) := by
  unfold evaluateAdmitted
  split
  · split
    · split
      · exact .refl s
      · exact beginExcursion_grows _ s
    · exact portGrows_of_lpi (by simp)
  · exact .refl s

theorem evaluateTakeover_grows (s : State) : PortGrows s (evaluateTakeover s) := portGrows_of_lpi (by simp)

/-! ## The view change -/

/-- What follows the events of a view change clears no flag. -/
theorem viewChanged_grows (before s : State) : PortGrows (viewEvents before s) (viewChanged before s) :=
  (evaluateWaiting_grows _).trans ((evaluateAdmitted_grows _).trans
    ((portGrows_of_lpi (maintainTakeover_lpi before _)).trans ((evaluateTakeover_grows _).trans (evaluateHandover_grows _))))

theorem flagSet_viewEvents_capacity {before s : State} (hb : capacityMismatch before = false) (hs : capacityMismatch s = true) :
    flagSet .capacityMismatch (viewEvents before s) = true := by
  refine (raiseIf_within (or_allFlags _) _ _).flagSet_of_set ?_
  rw [hb, hs]
  exact flagSet_raise_self _ _

theorem flagSet_viewEvents_mate {before s : State} (hb : mateMismatch before = false) (hs : mateMismatch s = true) :
    flagSet .mateMismatch (viewEvents before s) = true := by
  unfold viewEvents
  rw [hb, hs]
  exact flagSet_raise_self _ _

end Sys2Proof.Machine

/-! A received STANDING, BID or YIELD writes its slot's entry (R3–R10, R18, R20, O29). -/

namespace Sys2Proof.Machine

/-! ## What an arrival changes -/

/-- The table's entry of an arrival's slot, where the arrival rewrites every field with the value it holds. -/
theorem lookup_of_onlyRefreshes {t : List Entry} {e : Entry} (h : onlyRefreshes t e = true) :
    ∃ x, lookup t e.slot = some x ∧ x = { e with age := x.age } := by
  unfold onlyRefreshes at h
  split at h
  · next x hx => exact ⟨x, hx, of_decide_eq_true h⟩
  · exact absurd h Bool.false_ne_true

/-- An arrival that only refreshes an entry makes no capacity mismatch (R18). -/
theorem capacityMismatch_refreshed {e : Entry} {s u : State} (h : onlyRefreshes s.sv.table e = true)
    (hu : u.sv.table = insertEntry e s.sv.table) (hsc : u.sc = s.sc) (hs : capacityMismatch s = false) : capacityMismatch u = false := by
  obtain ⟨x, hx, hxe⟩ := lookup_of_onlyRefreshes h
  unfold capacityMismatch at *
  rw [hu, hsc]
  cases hp : s.sc.profile with
  | none => rfl
  | some p =>
    simp only [hp, List.any_eq_false] at hs ⊢
    intro y hy
    rcases mem_insertEntry e y _ hy with rfl | hy
    · have hold := hs x (lookup_mem hx).1
      rw [hxe] at hold
      exact hold
    · exact hs y hy

/-- Nor a mate mismatch (R20). -/
theorem mateMismatch_refreshed {e : Entry} {s u : State} (h : onlyRefreshes s.sv.table e = true)
    (hu : u.sv.table = insertEntry e s.sv.table) (hsc : u.sc = s.sc) : mateMismatch u = mateMismatch s := by
  obtain ⟨x, hx, hxe⟩ := lookup_of_onlyRefreshes h
  unfold mateMismatch
  rw [hu, hsc]
  cases s.sc.profile with
  | none => rfl
  | some p =>
    cases hm : p.mate with
    | none => simp [hm]
    | some m =>
      simp only [hm]
      by_cases hme : m = e.slot
      · rw [hme, lookup_insertEntry_self, hx, hxe]
      · rw [lookup_insertEntry_ne _ _ _ hme]

theorem capacityMismatch_congr {s u : State} (hsv : u.sv = s.sv) (hsc : u.sc = s.sc) : capacityMismatch u = capacityMismatch s := by
  unfold capacityMismatch
  rw [hsv, hsc]

theorem mateMismatch_congr {s u : State} (hsv : u.sv = s.sv) (hsc : u.sc = s.sc) : mateMismatch u = mateMismatch s := by
  unfold mateMismatch
  rw [hsv, hsc]

/-- An arrival that begins a mismatch is a view change, and its event raises the flag (R18, R20). -/
theorem flagSet_entryArrives (e : Entry) (b : State) :
    (capacityMismatch b = false → capacityMismatch (entryArrives e b) = true → flagSet .capacityMismatch (entryArrives e b) = true)
      ∧ (mateMismatch b = false → mateMismatch (entryArrives e b) = true → flagSet .mateMismatch (entryArrives e b) = true) := by
  by_cases hr : onlyRefreshes b.sv.table e = true
  · have hsame : entryArrives e b = withTable (insertEntry e b.sv.table) b := if_pos hr
    refine ⟨fun hb ht => ?_, fun hb ht => ?_⟩
    · rw [hsame, capacityMismatch_refreshed (s := b) (u := withTable (insertEntry e b.sv.table) b) hr rfl rfl hb] at ht
      exact absurd ht Bool.false_ne_true
    · rw [hsame, mateMismatch_refreshed (s := b) (u := withTable (insertEntry e b.sv.table) b) hr rfl rfl, hb] at ht
      exact absurd ht Bool.false_ne_true
  · obtain ⟨w, hw⟩ : ∃ w, w = withTable (insertEntry e b.sv.table) b := ⟨_, rfl⟩
    have hchanged : entryArrives e b = viewChanged b w := hw ▸ if_neg hr
    have hsv : (viewChanged b w).sv = w.sv := by simp
    have hsc : (viewChanged b w).sc = w.sc := by simp
    rw [hchanged, capacityMismatch_congr hsv hsc, mateMismatch_congr hsv hsc]
    exact ⟨fun hb ht => (viewChanged_grows b w).flagSet_of_set (flagSet_viewEvents_capacity hb ht),
      fun hb ht => (viewChanged_grows b w).flagSet_of_set (flagSet_viewEvents_mate hb ht)⟩

/-! ## With nothing that evaluates a view change -/

theorem raised_raiseIf (c : Bool) (f : EventFlag) (s : State) : Raised (if c then flagWord f else 0) s (raiseIf c f s) := by
  cases c
  · exact .refl s
  · exact raised_raise f s

/-- The flags of the mismatch conditions that hold after an event and did not before it. -/
def mismatchFlags (before after : State) : BitVec 16 :=
  (if capacityMismatch before = false ∧ capacityMismatch after = true then flagWord .capacityMismatch else 0)
    ||| (if mateMismatch before = false ∧ mateMismatch after = true then flagWord .mateMismatch else 0)

/-- The events of a view change move the port alone. -/
theorem viewEvents_frame (before u : State) : viewEvents before u = { u with lpi := (viewEvents before u).lpi } := by
  unfold viewEvents raiseIf
  split <;> split <;> rfl

theorem raised_viewEvents (before u : State) : Raised (mismatchFlags before u) u (viewEvents before u) := by
  have h := (raised_raiseIf (!capacityMismatch before && capacityMismatch u) .capacityMismatch u).trans
    (raised_raiseIf (!mateMismatch before && mateMismatch u) .mateMismatch _)
  simpa [mismatchFlags, viewEvents] using h

theorem viewChanged_idle {before b : State} (hw : b.ae.engine ≠ .waiting) (ha : ∀ sub, b.ae.engine ≠ .admitted sub)
    (hh : b.ae.engine ≠ .retiring .handover) (hd : b.ae.engine ≠ .retiring .held) (ht : b.held.takeover = false) :
    viewChanged before b = viewEvents before b := by
  obtain ⟨v, hv⟩ : ∃ v, v = viewEvents before b := ⟨_, rfl⟩
  have hvae : v.ae = b.ae := by rw [hv, viewEvents_ae]
  have hvheld : v.held = b.held := by rw [hv]; simp
  have hmaintain : maintainTakeover before v = v := by
    unfold maintainTakeover
    rw [hvheld, ht]
    rfl
  unfold viewChanged
  rw [← hv, evaluateWaiting_other (by rw [hvae]; exact hw), evaluateAdmitted_other (by rw [hvae]; exact ha), hmaintain,
    evaluateTakeover_other (by rw [hvae]; exact ha)]
  refine if_neg ?_
  rw [hvae]
  exact fun hc => hc.1.elim hh hd

/-- An arrival with nothing that evaluates a view change writes the table and raises the mismatches that begin. -/
theorem entryArrives_idle {e : Entry} {b : State} (hw : b.ae.engine ≠ .waiting) (ha : ∀ sub, b.ae.engine ≠ .admitted sub)
    (hh : b.ae.engine ≠ .retiring .handover) (hd : b.ae.engine ≠ .retiring .held) (ht : b.held.takeover = false) :
    ∃ lpi, entryArrives e b = { withTable (insertEntry e b.sv.table) b with lpi := lpi }
      ∧ Raised (mismatchFlags b (entryArrives e b)) b (entryArrives e b) := by
  obtain ⟨w, hwt⟩ : ∃ w, w = withTable (insertEntry e b.sv.table) b := ⟨_, rfl⟩
  by_cases hr : onlyRefreshes b.sv.table e = true
  · have hsame : entryArrives e b = w := hwt ▸ if_pos hr
    have hnone : mismatchFlags b w = 0 := by
      have hc : ¬ (capacityMismatch b = false ∧ capacityMismatch w = true) := by
        rintro ⟨hb, ht⟩
        rw [capacityMismatch_refreshed (s := b) hr (by rw [hwt]; rfl) (by rw [hwt]; rfl) hb] at ht
        exact absurd ht Bool.false_ne_true
      have hm : ¬ (mateMismatch b = false ∧ mateMismatch w = true) := by
        rintro ⟨hb, ht⟩
        rw [mateMismatch_refreshed (s := b) hr (by rw [hwt]; rfl) (by rw [hwt]; rfl), hb] at ht
        exact absurd ht Bool.false_ne_true
      simp [mismatchFlags, hc, hm]
    rw [hsame, hnone, ← hwt]
    exact ⟨w.lpi, rfl, .of_lpi (by rw [hwt]; rfl)⟩
  · have hchanged : entryArrives e b = viewEvents b w := by
      rw [hwt, ← viewChanged_idle (before := b) (b := withTable (insertEntry e b.sv.table) b) hw ha hh hd ht]
      exact if_neg hr
    have hflags : mismatchFlags b (viewEvents b w) = mismatchFlags b w := by
      unfold mismatchFlags
      rw [capacityMismatch_congr (viewEvents_sv b w) (viewEvents_sc b w), mateMismatch_congr (viewEvents_sv b w) (viewEvents_sc b w)]
    have hraised := raised_viewEvents b w
    rw [hwt] at hraised
    rw [hchanged, hflags, ← hwt]
    exact ⟨(viewEvents b w).lpi, viewEvents_frame b w, by rw [hwt]; exact hraised⟩

/-! ## The statement -/

theorem entryArrives_line (e : Entry) (b : State) : lineFrame (entryArrives e b).sli = lineFrame b.sli := by
  unfold entryArrives
  dsimp only
  split
  · rfl
  · exact (viewChanged_quiet _ _).1

/-- The fields of the entry that a frame is taken as, the validity of its capacity and its mate spelt out (R4). -/
theorem entryOf_fields (k : NoticeKind) (n : Notice) :
    entryOf k n =
      { slot := n.slot, cls := n.cls, phase := n.phase, profile := n.profile, bidOpen := n.bidOpen, carrying := n.carrying,
        handoverReq := n.handoverReq, claim := n.claim, amount := n.amount, capacity := n.capacity,
        capValid := decide (50 ≤ n.capacity.val ∧ n.capacity.val ≤ 4000),
        mate := if n.mate = some n.slot then none else n.mate, bid := bidTaken k n, age := 0, stale := false } := by
  have hmate : mateTaken n = if n.mate = some n.slot then none else n.mate := by
    cases h : n.mate <;> simp [mateTaken, h]
  simp [entryOf, capacityValid, hmate]

theorem exec_arrival {n : Notice} {c : Instr} {bid : Option (Fin 1024)} {s : State} (ho : s.sv.opened = true)
    (hsl : s.sc.slot ≠ some n.slot) (hr : receives s.sli = true)
    (hc : c = .standingNotice n ∧ bid = (if n.bidOpen then some n.amount else none) ∨ c = .bidNotice n ∧ bid = some n.amount
      ∨ c = .yieldNotice n ∧ bid = none) :
    ∃ k, bidTaken k n = bid ∧ exec c s = answer s (entryArrives (entryOf k n) (afterFrame s)) := by
  rcases hc with ⟨rfl, rfl⟩ | ⟨rfl, rfl⟩ | ⟨rfl, rfl⟩
  · exact ⟨.standing, rfl, congrArg (answer s) (receiveValid_arrival .standing n s (by decide) ho hsl hr)⟩
  · exact ⟨.bid, rfl, congrArg (answer s) (receiveValid_arrival .bid n s (by decide) ho hsl hr)⟩
  · exact ⟨.yield, rfl, congrArg (answer s) (receiveValid_arrival .yield n s (by decide) ho hsl hr)⟩

/-- Settles O29. -/
theorem noticesWriteTheirEntry : Obligations.NoticesWriteTheirEntry := by
  intro n c bid s ho hsl hr hs hc
  obtain ⟨k, hbid, hexec⟩ := exec_arrival ho hsl hr hc
  obtain ⟨u, hu⟩ : ∃ u, u = entryArrives (entryOf k n) (afterFrame s) := ⟨_, rfl⟩
  have husv : u.sv = { s.sv with table := insertEntry (entryOf k n) s.sv.table } := by rw [hu, entryArrives_sv]; rfl
  have husc : u.sc = s.sc := by rw [hu, entryArrives_sc]; rfl
  have hline : lineFrame (settle s u).sli = lineFrame (endFrame s.sli) := by
    rw [(settle_quiet s u).1, hu, entryArrives_line]
    rfl
  have htsv : (settle s u).sv = u.sv := settle_sv s u
  have htsc : (settle s u).sc = u.sc := settle_sc s u
  have hflags := flagSet_entryArrives (entryOf k n) (afterFrame s)
  rw [← hu] at hflags
  refine ⟨settle s u, by rw [hexec, hu, answer], ?entry, fun sl hne => ?others, by rw [htsv, husv]; exact ho,
    (congrArg LineInterface.line hline :), (congrArg LineInterface.gap hline :), (congrArg LineInterface.errors hline :),
    (congrArg LineInterface.clashCount hline :), by simp [hu, afterFrame], by simp [hu, afterFrame], htsc.trans husc,
    by simp [hu, afterFrame], by simp [hu, afterFrame], fun hb ht => ?capacity, fun hb ht => ?mate, fun hw ha hh hd ht => ?idle⟩
  case entry =>
    rw [htsv, husv, ← hbid]
    exact (lookup_insertEntry_self (entryOf k n) s.sv.table).trans (by rw [entryOf_fields])
  case others =>
    rw [htsv, husv]
    exact lookup_insertEntry_ne _ _ _ hne
  case capacity =>
    rw [capacityMismatch_congr htsv htsc] at ht
    exact flagSet_settle (hflags.1 hb ht)
  case mate =>
    rw [mateMismatch_congr htsv htsc] at ht
    exact flagSet_settle (hflags.2 hb ht)
  case idle =>
    obtain ⟨lpi, hframe, hraised⟩ := entryArrives_idle (e := entryOf k n) (b := afterFrame s) hw ha hh hd ht
    rw [← hu] at hframe hraised
    have hsame : SameRecord s u := by rw [hframe]; exact ⟨rfl, rfl, rfl, .rfl, .rfl, rfl, rfl⟩
    have husli : u.sli = endFrame s.sli := by rw [hframe]; rfl
    have hsettle : settle s u = u := settle_of_sameRecord hsame
      (fun hq => by rw [husli]; exact hs.1 (hsame.silent ▸ hq)) (by rw [husli]; exact hs.2)
    have hport : PortAfter (mismatchFlags s u) s (settle s u) := portAfter_settle (hraised :) (by rw [husli]; exact hs.2)
    rw [hsettle] at hport ⊢
    exact ⟨hsame.ae, by rw [hframe]; exact ⟨rfl, rfl, rfl, rfl⟩, husli, hport⟩

end Sys2Proof.Machine

/-! Notices and flags through a discharge: what is queued stays so, what closes is cancelled, and what is announced is requested. -/

namespace Sys2Proof.Machine

/-! ## What an operation leaves queued -/

/-- A STANDING queued stays queued. -/
def StandingKept (s t : State) : Prop := isQueued .standing s.sli.queue = true → isQueued .standing t.sli.queue = true

theorem StandingKept.trans {s t u : State} (h : StandingKept s t) (k : StandingKept t u) : StandingKept s u := fun q => k (h q)

theorem StandingKept.of_sli {s t : State} (h : t.sli = s.sli) : StandingKept s t := fun q => h ▸ q

theorem StandingKept.from {s t u : State} (h : StandingKept t u) (k : t.sli = s.sli) : StandingKept s u := (StandingKept.of_sli k).trans h

theorem isQueued_standing_queueAfter (k : NoticeKind) {q : List Queued} (h : isQueued .standing q = true) :
    isQueued .standing (queueAfter k q) = true := by
  cases k with
  | standing | bid | leave => simp [queueAfter, isQueued_joinTail, h]
  | yield =>
    show isQueued .standing (if isQueued .bid q then dequeue .bid q else joinTail .yield q) = true
    split
    · rw [isQueued_dequeue_ne (by decide), h]
    · simp [isQueued_joinTail, h]

theorem requestNotice_standingKept (k : NoticeKind) (s : State) : StandingKept s (requestNotice k s) := by
  unfold requestNotice
  split
  · exact id
  · exact isQueued_standing_queueAfter k

theorem announceFrom_standingKept (b u : State) : StandingKept u (announceFrom b u) := by
  rcases announceFrom_cases b u with h | h <;> rw [h]
  · exact id
  · exact (requestNotice_standingKept .standing (raise .phase u)).from rfl

theorem closeBid_standingKept (s : State) : StandingKept s (closeBid s) := by
  cases hb : s.ae.bid with
  | none => rw [closeBid_of_none s hb]; exact id
  | some x =>
    rw [closeBid_of_some s (by simp [hb])]
    refine StandingKept.trans (t := dropBid s) ?_ (requestNotice_standingKept .yield _)
    intro q
    rwa [show (dropBid s).sli.queue = s.sli.queue from voidBidInFlight_queue _]

theorem evaluateWaiting_standingKept (s : State) : StandingKept s (evaluateWaiting s) := by
  unfold evaluateWaiting
  split
  · split
    · split
      · unfold enterBidding
        exact (requestNotice_standingKept .bid _).from rfl
      · exact .of_sli (by simp)
    · exact id
  · exact id

theorem enterWaiting_standingKept (s : State) : StandingKept s (enterWaiting s) := by
  unfold enterWaiting
  exact StandingKept.from ((announceFrom_standingKept _ _).trans (evaluateWaiting_standingKept _)) rfl

theorem beginDischarging_standingKept (exit : DischargeExit) (s : State) : StandingKept s (beginDischarging exit s) := by
  rw [beginDischarging_eq]
  refine (closeBid_standingKept s).trans ?_
  exact (announceFrom_standingKept _ _).from rfl

theorem completeDischarge_standingKept (s : State) : StandingKept s (completeDischarge s) := by
  unfold completeDischarge
  split
  · split
    · exact id
    · exact enterWaiting_standingKept s
    all_goals exact (announceFrom_standingKept _ _).from rfl
  · exact id

theorem settle_standingKept (s u : State) : StandingKept u (settle s u) := isQueued_settle .standing s u

theorem isQueued_requestNotice_standing {k : NoticeKind} (hk : k ≠ .standing) (s : State) :
    isQueued k (requestNotice .standing s).sli.queue = isQueued k s.sli.queue := by
  unfold requestNotice
  split
  · rfl
  · show isQueued k (joinTail .standing s.sli.queue) = _
    rw [isQueued_joinTail, decide_eq_false hk.symm, Bool.or_false]

theorem isQueued_announceFrom {k : NoticeKind} (hk : k ≠ .standing) (b u : State) :
    isQueued k (announceFrom b u).sli.queue = isQueued k u.sli.queue := by
  rcases announceFrom_cases b u with h | h <;> rw [h]
  rw [isQueued_requestNotice_standing hk]
  rfl

/-! ## What leaves no head notice due its LINE event -/

/-- The head of the queue is not due its LINE event (R38). -/
def NotDue (s : State) : Prop := congestionDue s.sli.queue = false

theorem requestNotice_notDue {k : NoticeKind} (hk : k ≠ .yield) {s : State} (h : NotDue s) : NotDue (requestNotice k s) := by
  unfold requestNotice
  split
  · exact h
  · show congestionDue (queueAfter k s.sli.queue) = false
    cases k with
    | yield => exact absurd rfl hk
    | standing | bid | leave => exact congestionDue_joinTail _ _ h

theorem announceFrom_notDue (b : State) {u : State} (h : NotDue u) : NotDue (announceFrom b u) := by
  rcases announceFrom_cases b u with hc | hc <;> rw [hc]
  · exact h
  · exact requestNotice_notDue (by decide) (s := raise .phase u) h

theorem evaluateWaiting_notDue {s : State} (h : NotDue s) : NotDue (evaluateWaiting s) := by
  unfold evaluateWaiting
  split
  · split
    · split
      · unfold enterBidding
        exact requestNotice_notDue (by decide) (s := { s with ae := _ }) h
      · unfold NotDue
        rw [setReason_sli]
        exact h
    · exact h
  · exact h

theorem enterWaiting_notDue {s : State} (h : NotDue s) : NotDue (enterWaiting s) := by
  rw [enterWaiting_eq]
  exact evaluateWaiting_notDue (announceFrom_notDue s (u := { s with ae := waitingRecord s.ae }) h)

theorem completeDischarge_notDue {s : State} (h : NotDue s) : NotDue (completeDischarge s) := by
  unfold completeDischarge
  split
  · split
    · exact h
    · exact enterWaiting_notDue h
    all_goals exact announceFrom_notDue s (u := { s with ae := _ }) h
  · exact h

/-- A bid that closes leaves no head notice due where the removal of its queued BID does not. -/
theorem closeBid_notDue {s : State} (h : NotDue s) (hb : s.ae.bid.isSome = true → congestionDue (dequeue .bid s.sli.queue) = false) :
    NotDue (closeBid s) := by
  cases hbid : s.ae.bid with
  | none => rw [closeBid_of_none s hbid]; exact h
  | some x =>
    rw [closeBid_of_some s (by simp [hbid])]
    have hqueue : (dropBid s).sli.queue = s.sli.queue := voidBidInFlight_queue _
    unfold NotDue at *
    unfold requestNotice
    split
    · rw [hqueue]
      exact h
    · show congestionDue (queueAfter .yield (dropBid s).sli.queue) = false
      rw [hqueue]
      exact congestionDue_queueAfter_yield h (hb (by simp [hbid]))

theorem beginDischarging_notDue (exit : DischargeExit) {s : State} (h : NotDue s)
    (hb : s.ae.bid.isSome = true → congestionDue (dequeue .bid s.sli.queue) = false) : NotDue (beginDischarging exit s) := by
  rw [beginDischarging_eq]
  exact announceFrom_notDue _ (u := { closeBid s with ae := discharged exit s }) (closeBid_notDue h hb)

/-! ## Requests through an operation -/

theorem Requests.announceFrom {u : State} (b : State) (h : Requests u) : Requests (announceFrom b u) := by
  refine ⟨by simpa [Machine.silent] using h.1, ?_⟩
  have hleave : isQueued .leave (Machine.announceFrom b u).sli.queue = isQueued .leave u.sli.queue := isQueued_announceFrom (by decide) b u
  have hflight : (Machine.announceFrom b u).sli.inFlight = u.sli.inFlight := by
    rcases announceFrom_cases b u with hc | hc <;> rw [hc]
    unfold requestNotice
    split <;> rfl
  have hu := h.2
  unfold leaveUnderway at *
  rw [hleave, hflight]
  exact hu

theorem leaveUnderway_requestNotice {k : NoticeKind} (hk : k ≠ .leave) (u : State) :
    leaveUnderway (requestNotice k u).sli = leaveUnderway u.sli := by
  unfold requestNotice
  split
  · rfl
  · unfold leaveUnderway
    show (isQueued .leave (queueAfter k u.sli.queue) || _) = _
    rw [isQueued_leave_queueAfter hk]

/-- The evaluation of WAITING takes requests on. -/
theorem Requests.evaluateWaiting {u : State} (h : Requests u) : Requests (evaluateWaiting u) := by
  by_cases he : u.ae.engine = .waiting
  · refine h.of_engine (by simp) ?_ ?_
    · rcases evaluateWaiting_engine he with hw | hw <;> simp [hw]
    · unfold Machine.evaluateWaiting
      rw [if_pos he]
      split
      · split
        · unfold enterBidding
          exact leaveUnderway_requestNotice (by decide) _
        · simp
      · rfl
  · rw [evaluateWaiting_other he]
    exact h

theorem Requests.closeBid {s : State} (h : Requests s) : Requests (closeBid s) := by
  refine ⟨by simpa using h.1, ?_⟩
  cases hb : s.ae.bid with
  | none => rw [closeBid_of_none s hb]; exact h.2
  | some x =>
    rw [closeBid_taken (by simp [hb]) h, leaveUnderway_bidClosed]
    exact h.2

/-- Closing the open bid, if any, cancels a queued BID or leaves its YIELD queued (R35). -/
theorem isQueued_bid_closeBid {s : State} (h : Requests s) :
    isQueued .bid (closeBid s).sli.queue = (decide (s.ae.bid = none) && isQueued .bid s.sli.queue) := by
  cases hb : s.ae.bid with
  | none => rw [closeBid_of_none s hb]; simp
  | some x =>
    rw [closeBid_taken (by simp [hb]) h]
    simpa [bidClosed] using isQueued_bid_queueAfter_yield _

theorem isQueued_yield_closeBid {s : State} (h : Requests s) (hb : s.ae.bid.isSome = true) (hq : isQueued .bid s.sli.queue = false) :
    isQueued .yield (closeBid s).sli.queue = true := by
  rw [closeBid_taken hb h]
  exact isQueued_yield_queueAfter hq

/-! ## Entries into DISCHARGING -/

section
variable {b : State} {exit : DischargeExit}

/-- No closed latch turns a latch retire's discharge back (R152). -/
theorem discharged_of_latch (h : b.ae.source = .latch → b.rc.latchOpen = true) : discharged exit b = dischargingRecord exit b.ae := by
  unfold discharged latchReturn
  refine if_neg ?_
  rintro ⟨-, hs, hl⟩
  simp [h hs] at hl

theorem discharged_of_exit (h : exit ≠ .released) : discharged exit b = dischargingRecord exit b.ae := by
  unfold discharged latchReturn
  exact if_neg (fun hc => h hc.1)

theorem isQueued_bid_beginDischarging (h : Requests b) :
    isQueued .bid (beginDischarging exit b).sli.queue = (decide (b.ae.bid = none) && isQueued .bid b.sli.queue) := by
  rw [beginDischarging_eq, isQueued_announceFrom (by decide)]
  exact isQueued_bid_closeBid h

theorem isQueued_yield_beginDischarging (h : Requests b) (hb : b.ae.bid.isSome = true) (hq : isQueued .bid b.sli.queue = false) :
    isQueued .yield (beginDischarging exit b).sli.queue = true := by
  rw [beginDischarging_eq, isQueued_announceFrom (by decide)]
  exact isQueued_yield_closeBid h hb hq

/-- The state in DISCHARGING, before it is announced. -/
theorem requests_discharging (h : Requests b) : Requests { closeBid b with ae := discharged exit b } :=
  h.closeBid.of_engine rfl (by simp) rfl

theorem Requests.beginDischarging (h : Requests b) : Requests (beginDischarging exit b) := by
  rw [beginDischarging_eq]
  exact (requests_discharging h).announceFrom _

theorem announced_flags (u : State) : flagSet .phase (announced u) = true := flagSet_raise_self _ _

theorem announced_standing (u : State) : isQueued .standing (announced u).sli.queue = true := isQueued_joinTail_self .standing _

/-- From a state announced otherwise, the entry into DISCHARGING is announced as STOPPED (R41, R76). -/
theorem beginDischarging_announced (h : Requests b) (hp : announcedPhase b ≠ some .stopped) :
    beginDischarging exit b = announced { closeBid b with ae := discharged exit b } := by
  rw [beginDischarging_eq]
  refine announceFrom_new (ph := .stopped) (requests_discharging h) (by simp [phaseOf]) ?_
  have hsame : announcedPhase (closeBid b) = announcedPhase b := by
    unfold announcedPhase
    rw [silent_closeBid, closeBid_engine_eq]
  rw [hsame]
  exact hp

/-! ## States without a claim -/

/-- The states of the engine's own that claim nothing (R60). -/
def claimless : Engine → Bool
  | .waiting | .bidding | .backoff | .discharging | .cooldown | .released | .stopped => true
  | _ => false

theorem ownClaim_claimless {u : State} (h : claimless u.ae.engine = true) : ownClaim u = 0 := by
  unfold ownClaim
  cases he : u.ae.engine <;> simp_all [claimless]

/-! ## The end of a discharge -/

/-- The state a discharge with an exit ends in (R96). -/
def endState : DischargeExit → Engine
  | .none => .discharging
  | .waiting => .waiting
  | .cooldown => .cooldown
  | .released => .released
  | .stopped => .stopped

/-- The record after a discharge by another exit than WAITING. -/
def endedRecord (ae : OwnRecord) : OwnRecord :=
  { ae with engine := endState ae.exit, exit := .none, cooldown := if ae.exit = .cooldown then some cooldownMs else ae.cooldown }

theorem completeDischarge_record (hx : b.ae.exit ≠ .waiting) : (completeDischarge b).ae
    = if b.ae.engine = .discharging ∧ b.pp.discharged = true then endedRecord b.ae else b.ae := by
  unfold completeDischarge
  split
  · next hd =>
    have he := hd.1
    cases h : b.ae.exit with
    | none =>
      show b.ae = _
      obtain ⟨ae, hae⟩ : ∃ ae, ae = b.ae := ⟨_, rfl⟩
      rw [← hae] at h he ⊢
      cases ae
      subst h he
      rfl
    | waiting => exact absurd h hx
    | cooldown | released | stopped => simp [endedRecord, endState, h]
  · rfl

theorem completeDischarge_idem (hx : b.ae.exit ≠ .waiting) : completeDischarge (completeDischarge b) = completeDischarge b := by
  by_cases hd : b.ae.engine = .discharging ∧ b.pp.discharged = true
  · have hrecord := completeDischarge_record hx
    rw [if_pos hd] at hrecord
    cases h : b.ae.exit with
    | none =>
      have hsame : completeDischarge b = b := by
        unfold completeDischarge
        rw [if_pos hd, h]
      rw [hsame, hsame]
    | waiting => exact absurd h hx
    | cooldown | released | stopped =>
      refine if_neg (fun hc => ?_)
      have he := hc.1
      simp [hrecord, endedRecord, endState, h] at he
  · have hsame : completeDischarge b = b := if_neg hd
    rw [hsame, hsame]

theorem isQueued_completeDischarge {k : NoticeKind} (hk : k ≠ .standing) (hx : b.ae.exit ≠ .waiting) :
    isQueued k (completeDischarge b).sli.queue = isQueued k b.sli.queue := by
  unfold completeDischarge
  split
  · cases h : b.ae.exit with
    | none => rfl
    | waiting => exact absurd h hx
    | cooldown | released | stopped => exact isQueued_announceFrom hk _ _
  · rfl

end

end Sys2Proof.Machine

/-! The end of RELEARN with the path OPEN (R167, O18). -/

namespace Sys2Proof.Machine

section
variable {p : ProfileData} {v : Nat} {s : State}

theorem exec_relearnExpiry (hstart : s.sc.start = .relearn) (hrun : s.sc.relearn.isSome = true) :
    exec .relearnExpiry s = answer s (completeDischarge (firstLatchRule (firstState (relearned s)))) :=
  congrArg (answer s) (if_pos ⟨hstart, hrun⟩)

/-- The premises of the statement: RELEARN with the path OPEN and nothing queued. -/
structure Relearning (p : ProfileData) (v : Nat) (s : State) : Prop where
  start : s.sc.start = .relearn
  profile : s.sc.profile = some p
  ae : s.ae = { OwnRecord.reset with vC := some v }
  path : s.pp.path = .opened
  queue : s.sli.queue = []
  inFlight : s.sli.inFlight = none

theorem Relearning.silent (h : Relearning p v s) : silent s = true := silent_of_not_done (by simp [h.start])

/-- Requests are taken from the end of RELEARN on. -/
theorem Relearning.requests (h : Relearning p v s) {u : State} (hsc : u.sc.start = .done) (he : u.ae.engine ≠ .stopped)
    (hsli : u.sli = s.sli) : Requests u := by
  refine ⟨silent_eq_false_of hsc he, ?_⟩
  rw [hsli]
  simp [leaveUnderway, h.queue, h.inFlight, isQueued]

theorem Relearning.announcedPhase_relearned (h : Relearning p v s) : announcedPhase (relearned s) = none := by
  simp [announcedPhase, relearned, h.ae, OwnRecord.reset, phaseOf]

/-! ## With nothing standing -/

/-- WAITING as RELEARN leads to it, announced, before its evaluation (R41, R167). -/
def waitingAnnounced (s : State) : State :=
  announced { relearned s with ae := waitingRecord { (relearned s).ae with profile := .reduced } }

theorem firstState_waiting (h : Relearning p v s) (htrip : s.pp.tripPending = false) (hforced : s.sc.forcedOff = false) :
    firstState (relearned s) = evaluateWaiting (waitingAnnounced s) := by
  have htrips : tripStands (relearned s) = false := by simp [tripStands, relearned, h.path, htrip]
  have hclosed : mainClosed (relearned s) = false := by simp [mainClosed, relearned, h.path]
  have hf : (relearned s).sc.forcedOff = false := hforced
  unfold firstState
  rw [htrips, hf]
  show reconcile (relearned s) = _
  unfold reconcile
  rw [hclosed]
  show enterWaiting { relearned s with ae := { (relearned s).ae with profile := .reduced } } = _
  rw [enterWaiting_eq]
  refine congrArg evaluateWaiting (announceFrom_new (ph := .waiting) ?_ rfl ?_)
  · exact h.requests rfl nofun rfl
  · rw [show announcedPhase { relearned s with ae := { (relearned s).ae with profile := .reduced } } = announcedPhase (relearned s) from rfl,
      h.announcedPhase_relearned]
    exact nofun

theorem waitingAnnounced_requests (h : Relearning p v s) : Requests (waitingAnnounced s) := by
  refine ⟨silent_eq_false_of rfl nofun, ?_⟩
  show leaveUnderway { s.sli with queue := joinTail .standing s.sli.queue } = false
  simp [leaveUnderway, h.queue, h.inFlight, joinTail, isQueued]

theorem waitingAnnounced_bid (h : Relearning p v s) : isQueued .bid (waitingAnnounced s).sli.queue = false := by
  show isQueued .bid (joinTail .standing s.sli.queue) = false
  rw [isQueued_joinTail, h.queue]
  rfl

theorem waitingAnnounced_standing : isQueued .standing (waitingAnnounced s).sli.queue = true := announced_standing _

theorem waitingAnnounced_within : PortWithin (flagWord .phase ||| flagWord .denied) s (evaluateWaiting (waitingAnnounced s)) := by
  refine PortWithin.trans (t := waitingAnnounced s) ?_ (evaluateWaiting_within (by decide) _)
  exact raise_within (by decide) { s with sli := { s.sli with queue := joinTail .standing s.sli.queue } }

/-- WAITING's entry evaluation at the end of RELEARN, by whether every bid condition holds (R78, R80). -/
theorem waitingEvaluated (h : Relearning p v s) (seen : State) (hseen : seen = { s with sc := seen.sc }) :
    (∀ x, bidConditions p v seen = .ok x →
        evaluateWaiting (waitingAnnounced s) = enterBidding x.1 x.2.2 (waitingAnnounced s))
      ∧ (∀ r, bidConditions p v seen = .error r → evaluateWaiting (waitingAnnounced s) = setReason r (waitingAnnounced s)) := by
  have hcond : bidConditions p v (waitingAnnounced s) = bidConditions p v seen := by
    rw [hseen]
    exact bidConditions_congr rfl rfl (lineFine_congr Iff.rfl rfl)
  have hv : (waitingAnnounced s).ae.vC = some v := by
    show s.ae.vC = some v
    rw [h.ae]
  exact ⟨fun x hx => evaluateWaiting_ok h.profile hv rfl (hcond.trans hx), fun r hx => evaluateWaiting_error h.profile hv rfl (hcond.trans hx)⟩

theorem waitingEvaluated_engine : (evaluateWaiting (waitingAnnounced s)).ae.engine = .waiting ∨ (evaluateWaiting (waitingAnnounced s)).ae.engine = .bidding :=
  evaluateWaiting_engine rfl

theorem waitingAnnounced_ae (h : Relearning p v s) :
    (waitingAnnounced s).ae = { OwnRecord.reset with engine := .waiting, vC := some v, carrying := s.inp.carryingLevel } := by
  show waitingRecord { s.ae with carrying := s.inp.carryingLevel, profile := .reduced } = _
  rw [h.ae]
  rfl

theorem waitingAnnounced_notDue (h : Relearning p v s) : NotDue (waitingAnnounced s) :=
  congestionDue_joinTail .standing s.sli.queue (by rw [h.queue]; rfl)

theorem waitingEvaluated_ae (h : Relearning p v s) : (evaluateWaiting (waitingAnnounced s)).ae.carrying = s.inp.carryingLevel
    ∧ (evaluateWaiting (waitingAnnounced s)).ae.source = .none := by
  obtain ⟨hok, herror⟩ := waitingEvaluated h s rfl
  cases hx : bidConditions p v s with
  | ok x =>
    rw [hok x hx, enterBidding_ae, waitingAnnounced_ae h]
    exact ⟨rfl, rfl⟩
  | error r =>
    rw [herror r hx, setReason_ae, waitingAnnounced_ae h]
    exact ⟨rfl, rfl⟩

theorem lineFrame_waitingEvaluated : lineFrame (evaluateWaiting (waitingAnnounced s)).sli = lineFrame s.sli := by
  rw [(evaluateWaiting_quiet _).1]
  rfl

theorem flagSet_waitingEvaluated : flagSet .phase (evaluateWaiting (waitingAnnounced s)) = true :=
  (evaluateWaiting_grows _).flagSet_of_set (announced_flags _)

theorem waitingEvaluated_requests (h : Relearning p v s) : Requests (evaluateWaiting (waitingAnnounced s)) :=
  (waitingAnnounced_requests h).evaluateWaiting

theorem waitingEvaluated_standing : isQueued .standing (evaluateWaiting (waitingAnnounced s)).sli.queue = true :=
  evaluateWaiting_standingKept _ waitingAnnounced_standing

/-- No BID is queued but the open bid's, and its removal leaves nothing due. -/
theorem waitingEvaluated_bid (h : Relearning p v s) :
    ((evaluateWaiting (waitingAnnounced s)).ae.bid = none → isQueued .bid (evaluateWaiting (waitingAnnounced s)).sli.queue = false)
      ∧ congestionDue (dequeue .bid (evaluateWaiting (waitingAnnounced s)).sli.queue) = false := by
  obtain ⟨hok, herror⟩ := waitingEvaluated h s rfl
  have hqueue : (waitingAnnounced s).sli.queue = joinTail .standing [] := by
    show joinTail .standing s.sli.queue = _
    rw [h.queue]
  cases hx : bidConditions p v s with
  | ok x =>
    have hbid := isQueued_joinTail_self .bid (joinTail .standing [])
    rw [hok x hx, enterBidding_ae, enterBidding_taken (waitingAnnounced_requests h), hqueue]
    exact ⟨nofun, rfl⟩
  | error r =>
    rw [herror r hx, setReason_sli, hqueue]
    exact ⟨fun _ => rfl, rfl⟩

theorem completeDischarge_idle {b : State} (h : b.ae.engine ≠ .discharging) : completeDischarge b = b := if_neg (fun hc => h hc.1)

theorem exec_relearnExpiry_waiting (h : Relearning p v s) (hrun : s.sc.relearn.isSome = true) (htrip : s.pp.tripPending = false)
    (hforced : s.sc.forcedOff = false) (hlatch : s.rc.latchOpen = false) :
    exec .relearnExpiry s = answer s
      { evaluateWaiting (waitingAnnounced s) with held := { (evaluateWaiting (waitingAnnounced s)).held with drain := false } } := by
  have hopen : (evaluateWaiting (waitingAnnounced s)).rc.latchOpen = false := by
    rw [evaluateWaiting_rc]
    exact hlatch
  rw [exec_relearnExpiry h.start hrun, firstState_waiting h htrip hforced]
  unfold firstLatchRule
  rw [hopen]
  refine congrArg (answer s) (completeDischarge_idle ?_)
  show (evaluateWaiting (waitingAnnounced s)).ae.engine ≠ .discharging
  rcases waitingEvaluated_engine (s := s) with he | he <;> simp [he]

/-- The station in WAITING or BIDDING with the retire of the open latch recorded (R141, R142). -/
def latchRecorded (s : State) : State :=
  { evaluateWaiting (waitingAnnounced s) with ae := { (evaluateWaiting (waitingAnnounced s)).ae with source := .latch } }

theorem exec_relearnExpiry_latch (h : Relearning p v s) (hrun : s.sc.relearn.isSome = true) (htrip : s.pp.tripPending = false)
    (hforced : s.sc.forcedOff = false) (hlatch : s.rc.latchOpen = true) :
    exec .relearnExpiry s = answer s (completeDischarge (beginDischarging .released (latchRecorded s))) := by
  have hopen : (evaluateWaiting (waitingAnnounced s)).rc.latchOpen = true := by
    rw [evaluateWaiting_rc]
    exact hlatch
  have hdis : discharged .released (latchRecorded s) = dischargingRecord .released (latchRecorded s).ae := discharged_of_latch (fun _ => hopen)
  have haccepted : retireAccepted (evaluateWaiting (waitingAnnounced s)) = true := by
    unfold retireAccepted
    rw [(waitingEvaluated_ae h).2]
    rcases waitingEvaluated_engine (s := s) with he | he <;> simp [he]
  have hrespond : respondRetire (latchRecorded s) = enterDischarging .released (latchRecorded s) := by
    have hengine : (latchRecorded s).ae.engine = .waiting ∨ (latchRecorded s).ae.engine = .bidding := waitingEvaluated_engine
    unfold respondRetire
    rcases hengine with he | he <;> rw [he]
  rw [exec_relearnExpiry h.start hrun, firstState_waiting h htrip hforced]
  unfold firstLatchRule requestRetire
  rw [hopen, if_pos rfl, haccepted, if_pos rfl]
  show answer s (completeDischarge (respondRetire (latchRecorded s))) = _
  rw [hrespond]
  refine congrArg (answer s) (completeDischarge_idem ?_)
  rw [beginDischarging_ae, hdis]
  exact nofun

/-! ## With a trip pending or a forced-off mark -/

/-- The record of a standing trip and a forced-off mark taken at the end of RELEARN (R94, R167, R170). -/
def faultsRecord (trip forced : Bool) (limit : Nat) (ae : OwnRecord) : OwnRecord :=
  let tripped := if trip then dischargingRecord (retryExit limit ae) (retryRecord limit .trip ae) else ae
  if forced then dischargingRecord .stopped { tripped with cause := .forcedOff, subcause := none } else tripped

/-- The station in DISCHARGING for a standing trip or a forced-off mark, announced. -/
def faultsTaken (s : State) : State :=
  announced
    (raiseIf s.pp.tripPending .fault
      { relearned s with
        ae := faultsRecord s.pp.tripPending s.sc.forcedOff (retryLimit s) (relearned s).ae
        sc := { (relearned s).sc with forcedOff := false }
        pp := { s.pp with tripPending := false } })

theorem takeStandingTrip_relearned (h : Relearning p v s) :
    takeStandingTrip (relearned s) = announced (raise .fault
      { relearned s with
        ae := faultsRecord true false (retryLimit s) (relearned s).ae, pp := { s.pp with tripPending := false } }) := by
  obtain ⟨b, hb⟩ : ∃ b, b = raise .fault { relearned s with
    ae := retryRecord (retryLimit s) .trip (relearned s).ae, pp := { s.pp with tripPending := false } } := ⟨_, rfl⟩
  have hbid : b.ae.bid = none := by
    rw [hb]
    show (retryRecord (retryLimit s) .trip { s.ae with carrying := s.inp.carryingLevel }).bid = none
    rw [h.ae]
    unfold retryRecord
    split <;> rfl
  have hengine : b.ae.engine = .none := by
    rw [hb]
    show (retryRecord (retryLimit s) .trip { s.ae with carrying := s.inp.carryingLevel }).engine = .none
    rw [h.ae]
    unfold retryRecord
    split <;> rfl
  have hreq : Requests b := h.requests (by rw [hb]; rfl) (by simp [hengine]) (by rw [hb]; rfl)
  have hexit : retryExit (retryLimit s) (relearned s).ae ≠ .released := by
    show retryExit (retryLimit s) { s.ae with carrying := s.inp.carryingLevel } ≠ .released
    rw [h.ae]
    unfold retryExit
    rw [if_neg (by simp [OwnRecord.reset])]
    split <;> nofun
  have hbegin : takeStandingTrip (relearned s) = beginDischarging (retryExit (retryLimit s) (relearned s).ae) b := by
    rw [hb]
    rfl
  rw [hbegin, beginDischarging_announced hreq (by simp [announcedPhase, hengine, phaseOf]), closeBid_of_none b hbid,
    discharged_of_exit hexit, hb]
  rfl

theorem firstState_faults (h : Relearning p v s) (hfault : s.pp.tripPending = true ∨ s.sc.forcedOff = true) :
    firstState (relearned s) = faultsTaken s := by
  have htrips : tripStands (relearned s) = s.pp.tripPending := by simp [tripStands, relearned, h.path]
  have hf : (relearned s).sc.forcedOff = s.sc.forcedOff := rfl
  unfold firstState faultsTaken
  rw [htrips, hf]
  cases htrip : s.pp.tripPending with
  | true =>
    cases hforced : s.sc.forcedOff with
    | true =>
      have hengine : (takeStandingTrip (relearned s)).ae.engine = .discharging := by simp [takeStandingTrip, beginRetry]
      show takeForcedOff (takeStandingTrip (relearned s)) = _
      unfold takeForcedOff
      dsimp only
      rw [if_pos hengine, takeStandingTrip_relearned h]
      rfl
    | false =>
      show takeStandingTrip (relearned s) = _
      rw [takeStandingTrip_relearned h]
      show _ = announced (raise .fault { relearned s with ae := _, sc := { s.sc with start := .done, relearn := none, forcedOff := false }, pp := _ })
      rw [← hforced]
      rfl
  | false =>
    have hforced : s.sc.forcedOff = true := by simpa [htrip] using hfault
    rw [hforced]
    show takeForcedOff (relearned s) = _
    have hengine : (relearned s).ae.engine = .none := by
      show s.ae.engine = .none
      rw [h.ae]
      rfl
    have hbid : (relearned s).ae.bid = none := by
      show s.ae.bid = none
      rw [h.ae]
      rfl
    obtain ⟨b, hb⟩ : ∃ b, b = { relearned s with
      sc := { (relearned s).sc with forcedOff := false }
      ae := { (relearned s).ae with cause := .forcedOff, subcause := none } } := ⟨_, rfl⟩
    have hforce : takeForcedOff (relearned s) = beginDischarging .stopped b := by
      rw [hb]
      exact if_neg (by simp [hengine])
    have hreq : Requests b := h.requests (by rw [hb]; rfl) (by rw [hb]; simp [hengine]) (by rw [hb]; rfl)
    have hpp : { s.pp with tripPending := false } = s.pp := by rw [← htrip]
    rw [hforce, beginDischarging_announced hreq (by simp [hb, announcedPhase, hengine, phaseOf]), closeBid_of_none b (by rw [hb]; exact hbid),
      discharged_of_exit (exit := .stopped) (by decide), hb, hpp]
    rfl

theorem faultsRecord_fields {trip forced : Bool} {limit : Nat} {carrying : Bool} (hfault : trip = true ∨ forced = true) :
    let ae := faultsRecord trip forced limit { OwnRecord.reset with vC := some v, carrying := carrying }
    ae.engine = .discharging ∧ ae.exit = (if forced = true ∨ limit = 0 then .stopped else .cooldown)
      ∧ ae.retryCount = (if trip = true ∧ 0 < limit then 1 else 0)
      ∧ ae.cause = (if forced then .forcedOff else if 0 < limit then .trip else .retryExhausted)
      ∧ ae.source = .none ∧ ae.bid = none ∧ ae.carrying = carrying := by
  by_cases hl : 0 < limit
  · have hne : limit ≠ 0 := by omega
    cases trip <;> cases forced <;>
      simp_all [faultsRecord, retryRecord, retryExit, dischargingRecord, OwnRecord.reset, causeOf]
  · have hz : limit = 0 := by omega
    cases trip <;> cases forced <;>
      simp_all [faultsRecord, retryRecord, retryExit, dischargingRecord, OwnRecord.reset]

theorem faultsTaken_ae (h : Relearning p v s) : (faultsTaken s).ae = faultsRecord s.pp.tripPending s.sc.forcedOff p.retryLimit
    { OwnRecord.reset with vC := some v, carrying := s.inp.carryingLevel } := by
  refine (raiseIf_ae _ _ _).trans ?_
  show faultsRecord _ _ (retryLimit s) { s.ae with carrying := s.inp.carryingLevel } = _
  rw [h.ae]
  unfold retryLimit
  rw [h.profile]

theorem faultsTaken_frame (s : State) : faultsTaken s = { s with
    ae := (faultsTaken s).ae, lpi := (faultsTaken s).lpi, sli := { s.sli with queue := joinTail .standing s.sli.queue }
    sc := { s.sc with start := .done, relearn := none, forcedOff := false }, pp := { s.pp with tripPending := false } } := by
  unfold faultsTaken raiseIf
  split <;> rfl

theorem faultsTaken_within : PortWithin (flagWord .phase ||| flagWord .fault) s (faultsTaken s) := by
  refine PortWithin.trans (t := raiseIf s.pp.tripPending .fault s) (raiseIf_within (by decide) _ _) ?_
  refine PortWithin.trans (t := raise .phase (raiseIf s.pp.tripPending .fault s)) (raise_within (by decide) _) (.of_lpi ?_)
  unfold faultsTaken raiseIf
  split <;> rfl

theorem faultsTaken_fault (htrip : s.pp.tripPending = true) : flagSet .fault (faultsTaken s) = true := by
  unfold faultsTaken
  rw [htrip]
  exact (raise_grows .phase _).flagSet_of_set (flagSet_raise_self .fault _)

theorem exec_relearnExpiry_faults (h : Relearning p v s) (hrun : s.sc.relearn.isSome = true)
    (hfault : s.pp.tripPending = true ∨ s.sc.forcedOff = true) (hlatch : s.rc.latchOpen = false) :
    exec .relearnExpiry s = answer s
      (completeDischarge { faultsTaken s with held := { (faultsTaken s).held with drain := false } }) := by
  have hopen : (faultsTaken s).rc.latchOpen = false := by
    rw [faultsTaken_frame]
    exact hlatch
  rw [exec_relearnExpiry h.start hrun, firstState_faults h hfault]
  unfold firstLatchRule
  rw [hopen]
  rfl

end

/-- Settles O18. -/
theorem relearnEndsInWaiting : Obligations.RelearnEndsInWaiting := by
  intro p v s hstart hrun hp hae hpath hqueue hflight
  have h : Relearning p v s := ⟨hstart, hp, hae, hpath, hqueue, hflight⟩
  refine ⟨fun htrip hforced hlatch => ?plain, fun htrip hforced hlatch => ?latch, fun hfault hlatch => ?faults⟩
  case plain =>
    obtain ⟨u, hu⟩ : ∃ u, u = { evaluateWaiting (waitingAnnounced s) with
      held := { (evaluateWaiting (waitingAnnounced s)).held with drain := false } } := ⟨_, rfl⟩
    have hexec := exec_relearnExpiry_waiting h hrun htrip hforced hlatch
    rw [← hu] at hexec
    have huae : u.ae = (evaluateWaiting (waitingAnnounced s)).ae := by rw [hu]
    have husli : u.sli = (evaluateWaiting (waitingAnnounced s)).sli := by rw [hu]
    have hulpi : u.lpi = (evaluateWaiting (waitingAnnounced s)).lpi := by rw [hu]
    have husc : u.sc = { s.sc with start := .done, relearn := none } := by
      rw [hu, evaluateWaiting_sc]
      rfl
    have hreq : Requests u := (waitingEvaluated_requests h).of_engine (by rw [hu]) (by
      rw [huae]
      rcases waitingEvaluated_engine (s := s) with he | he <;> simp [he]) (by rw [husli])
    have hdue : NotDue u := by
      unfold NotDue
      rw [husli]
      exact evaluateWaiting_notDue (waitingAnnounced_notDue h)
    have hport : PortWithin (flagWord .phase ||| flagWord .denied) s (settle s u) :=
      (waitingAnnounced_within.of_eq hulpi).trans (settle_within_of_not_due _ s u hdue)
    have hline : lineFrame (settle s u).sli = lineFrame s.sli := by
      rw [(settle_quiet s u).1, husli, lineFrame_waitingEvaluated]
    obtain ⟨hok, herror⟩ := waitingEvaluated h { s with sc := u.sc } rfl
    refine ⟨settle s u, hexec, (settle_sc s u).trans husc, fun x hx => ?_, fun r hx => ?_,
      settle_standingKept s u (by rw [husli]; exact waitingEvaluated_standing), ?_, ?_, ?_, ?_, ?_, ?_, ?_, ?_, ?_, ?_, ?_,
      hport.1, (lineFrame_eq_iff s _).1 hline, hport.2, by simp [hu, waitingAnnounced, announced, relearned]⟩
    · rw [settle_sc] at hx
      rw [settle_ae, isQueued_settle_ne (by decide), huae, husli, hok x hx, enterBidding_ae, enterBidding_taken (waitingAnnounced_requests h)]
      exact ⟨rfl, rfl, rfl, rfl, isQueued_joinTail_self _ _⟩
    · rw [settle_sc] at hx
      rw [settle_ae, isQueued_settle_ne (by decide), huae, husli, herror r hx, setReason_ae, setReason_sli, waitingAnnounced_ae h]
      exact ⟨rfl, rfl, rfl, rfl, waitingAnnounced_bid h⟩
    · rw [periodic_settle, hreq.1, h.silent]
      rfl
    · rw [settle_ae, huae]
      exact (waitingEvaluated_ae h).1
    · refine ownClaim_claimless ?_
      rw [settle_ae, huae]
      rcases waitingEvaluated_engine (s := s) with he | he <;> simp [he, claimless]
    · refine flagSet_settle ?_
      unfold flagSet
      rw [hulpi]
      exact flagSet_waitingEvaluated
    all_goals simp [hu, waitingAnnounced, announced, relearned]
  case latch =>
    obtain ⟨l, hl⟩ : ∃ l, l = latchRecorded s := ⟨_, rfl⟩
    obtain ⟨b, hb⟩ : ∃ b, b = beginDischarging .released l := ⟨_, rfl⟩
    have hexec := exec_relearnExpiry_latch h hrun htrip hforced hlatch
    rw [← hl, ← hb] at hexec
    have hlae : l.ae.source = .latch ∧ l.ae.carrying = s.inp.carryingLevel := by rw [hl]; exact ⟨rfl, (waitingEvaluated_ae h).1⟩
    have hreq : Requests l := (waitingEvaluated_requests h).of_engine (by rw [hl]; rfl) (by
      rw [hl]
      show (evaluateWaiting (waitingAnnounced s)).ae.engine ≠ _
      rcases waitingEvaluated_engine (s := s) with he | he <;> simp [he]) (by rw [hl]; rfl)
    have hbae : b.ae = dischargingRecord .released l.ae := by
      rw [hb, beginDischarging_ae]
      refine discharged_of_latch (fun _ => ?_)
      rw [hl]
      show (evaluateWaiting (waitingAnnounced s)).rc.latchOpen = true
      rw [evaluateWaiting_rc]
      exact hlatch
    have hbpp : b.pp = s.pp := by simp [hb, hl, latchRecorded, waitingAnnounced, announced, relearned]
    have hexit : b.ae.exit = .released := by rw [hbae]; rfl
    have hbdue : NotDue b := by
      rw [hb]
      refine beginDischarging_notDue .released ?_ (fun _ => ?_)
      · rw [hl]
        exact evaluateWaiting_notDue (waitingAnnounced_notDue h)
      · rw [hl]
        exact (waitingEvaluated_bid h).2
    have hbid : isQueued .bid b.sli.queue = false := by
      rw [hb, isQueued_bid_beginDischarging hreq]
      cases hbn : l.ae.bid with
      | none =>
        have hnone := (waitingEvaluated_bid h).1 (by rw [hl] at hbn; exact hbn)
        rw [hl]
        exact (Bool.and_eq_false_imp.2 fun _ => hnone)
      | some x => rfl
    have hstanding : StandingKept (evaluateWaiting (waitingAnnounced s)) b := by
      rw [hb, hl]
      exact (beginDischarging_standingKept _ _).from rfl
    obtain ⟨u, hu⟩ : ∃ u, u = completeDischarge b := ⟨_, rfl⟩
    rw [← hu] at hexec
    have huae : u.ae = if s.pp.discharged = true then { b.ae with engine := .released, exit := .none } else b.ae := by
      rw [hu, completeDischarge_record (by rw [hexit]; exact nofun), hbpp]
      have he : b.ae.engine = .discharging := by rw [hbae]; rfl
      simp [he, endedRecord, endState, hexit]
    have hwithin : PortWithin (flagWord .phase ||| flagWord .denied) s u := by
      rw [hu, hb, hl]
      refine (waitingAnnounced_within.of_eq ?_).trans ((beginDischarging_within (by decide) _ _).trans
        (completeDischarge_within_of_exit (by decide) _ (by rw [← hl, ← hb, hexit]; exact nofun)))
      rfl
    have hport : PortWithin (flagWord .phase ||| flagWord .denied) s (settle s u) :=
      hwithin.trans (settle_within_of_not_due _ s u (hu ▸ completeDischarge_notDue hbdue))
    have hengine : u.ae.engine = if s.pp.discharged = true then .released else .discharging := by
      rw [huae, hbae]
      split <;> rfl
    have hfields : u.ae.source = .latch ∧ u.ae.bid = none ∧ u.ae.carrying = s.inp.carryingLevel := by
      rw [huae, hbae, ← hlae.2]
      split <;> exact ⟨hlae.1, rfl, rfl⟩
    have husc : u.sc = { s.sc with start := .done, relearn := none } := by
      simp [hu, hb, hl, latchRecorded, waitingAnnounced, announced, relearned]
    have hsilent : silent u = false := silent_eq_false_of (by rw [husc]) (by rw [hengine]; split <;> simp)
    have hline : lineFrame (settle s u).sli = lineFrame s.sli := by
      rw [(settle_quiet s u).1, hu, (completeDischarge_quiet b).1, hb, (beginDischarging_quiet _ _).1, hl]
      exact lineFrame_waitingEvaluated
    refine ⟨settle s u, hexec, (settle_sc s u).trans husc, ?_, ?_, ?_, ?_, fun hd => ?_,
      settle_standingKept s u (hu ▸ completeDischarge_standingKept b (hstanding waitingEvaluated_standing)), ?_, ?_, ?_, ?_, ?_, ?_, ?_, ?_,
      ?_, ?_, ?_, hport.1, (lineFrame_eq_iff s _).1 hline, hport.2,
      by simp [hu, hb, hl, latchRecorded, waitingAnnounced, announced, relearned]⟩
    · rw [settle_ae, hfields.1]
    · rw [settle_ae, hfields.2.1]
    · rw [isQueued_settle_ne (by decide), hu, isQueued_completeDischarge (by decide) (by rw [hexit]; exact nofun), hbid]
    · rw [settle_ae, hengine]
    · rw [settle_ae, huae, if_neg (by simp [hd]), hexit]
    · rw [periodic_settle, hsilent, h.silent]
      rfl
    · rw [settle_ae, hfields.2.2]
    · refine ownClaim_claimless ?_
      rw [settle_ae, hengine]
      split <;> rfl
    · refine flagSet_settle ?_
      rw [hu, hb, hl]
      exact ((beginDischarging_grows _ _).trans (completeDischarge_grows _)).flagSet_of_set flagSet_waitingEvaluated
    all_goals simp [hu, hb, hl, latchRecorded, waitingAnnounced, announced, relearned]
  case faults =>
    obtain ⟨b, hb⟩ : ∃ b, b = { faultsTaken s with held := { (faultsTaken s).held with drain := false } } := ⟨_, rfl⟩
    have hbae : b.ae = faultsRecord s.pp.tripPending s.sc.forcedOff p.retryLimit
        { OwnRecord.reset with vC := some v, carrying := s.inp.carryingLevel } := by
      rw [hb, faultsTaken_ae h]
    obtain ⟨hengine, hexit, hcount, hcause, hsource, hbid, hcarrying⟩ :
        b.ae.engine = .discharging
          ∧ b.ae.exit = (if s.sc.forcedOff = true ∨ p.retryLimit = 0 then .stopped else .cooldown)
          ∧ b.ae.retryCount = (if s.pp.tripPending = true ∧ 0 < p.retryLimit then 1 else 0)
          ∧ b.ae.cause = (if s.sc.forcedOff then .forcedOff else if 0 < p.retryLimit then .trip else .retryExhausted)
          ∧ b.ae.source = .none ∧ b.ae.bid = none ∧ b.ae.carrying = s.inp.carryingLevel := by
      rw [hbae]
      exact faultsRecord_fields hfault
    have hexec := exec_relearnExpiry_faults h hrun hfault hlatch
    rw [← hb] at hexec
    obtain ⟨u, hu⟩ : ∃ u, u = completeDischarge b := ⟨_, rfl⟩
    rw [← hu] at hexec
    have hframe : b = { s with
        ae := b.ae, lpi := b.lpi, sli := b.sli
        sc := { s.sc with start := .done, relearn := none, forcedOff := false }, pp := { s.pp with tripPending := false }
        held := { s.held with drain := false } } := by
      rw [hb, faultsTaken_frame]
    have hbsli : b.sli = { s.sli with queue := joinTail .standing s.sli.queue } := by rw [hb, faultsTaken_frame]
    have hx : b.ae.exit ≠ .waiting := by rw [hexit]; split <;> nofun
    have huae : u.ae = if s.pp.discharged = true then endedRecord b.ae else b.ae := by
      rw [hu, completeDischarge_record hx, hframe]
      simp [hengine]
    have hfields : u.ae.retryCount = b.ae.retryCount ∧ u.ae.cause = b.ae.cause ∧ u.ae.source = b.ae.source ∧ u.ae.bid = b.ae.bid
        ∧ u.ae.carrying = b.ae.carrying := by
      rw [huae]
      split <;> exact ⟨rfl, rfl, rfl, rfl, rfl⟩
    obtain ⟨hcount', hcause', hsource', hbid', hcarrying'⟩ := hfields
    have husc : u.sc = { s.sc with start := .done, relearn := none, forcedOff := false } := by rw [hu, completeDischarge_sc, hframe]
    have hsilent : silent u = false := by
      have hloud : silentCause u.ae.cause = false := by
        rw [hcause', hcause]
        split
        · rfl
        · split <;> rfl
      simp [silent, husc, hloud]
    have hdue : NotDue u := by
      rw [hu]
      refine completeDischarge_notDue ?_
      unfold NotDue
      rw [hbsli]
      exact congestionDue_joinTail _ _ (by rw [h.queue]; rfl)
    have hwithin : PortWithin (flagWord .phase ||| flagWord .fault) s b := faultsTaken_within.of_eq (by rw [hb])
    have hgrows : PortGrows b (settle s u) := by
      rw [hu]
      exact (completeDischarge_grows b).trans (settle_grows s _)
    have hport : PortWithin (flagWord .phase ||| flagWord .fault) s (settle s u) := by
      rw [hu] at hdue ⊢
      exact (hwithin.trans (completeDischarge_within_of_exit (by decide) b hx)).trans (settle_within_of_not_due _ _ _ hdue)
    have hline : lineFrame (settle s u).sli = lineFrame s.sli := by
      rw [(settle_quiet s u).1, hu, (completeDischarge_quiet b).1, hbsli]
      rfl
    have hstanding : isQueued .standing b.sli.queue = true := by
      rw [hbsli]
      exact isQueued_joinTail_self .standing _
    have hends : u.ae.engine = if s.pp.discharged = true then endState b.ae.exit else .discharging := by
      rw [huae]
      split
      · rfl
      · exact hengine
    refine ⟨settle s u, hexec, (settle_sc s u).trans husc, ?_, ?_, ?_, ⟨fun hd => ?_, fun hd => ?_⟩, fun htrip => ?_, ?_, ?_,
      settle_standingKept s u (hu ▸ completeDischarge_standingKept b hstanding), ?_, ?_, ?_, ?_, ?_, ?_, ?_, ?_, ?_, ?_,
      hport.1, (lineFrame_eq_iff s _).1 hline, hport.2, ?_⟩
    · rw [settle_pp, hu, completeDischarge_pp, hframe]
    · rw [settle_ae, hcount', hcount]
    · rw [settle_ae, hcause', hcause]
    · rw [settle_ae, huae, if_neg (by simp [hd])]
      exact ⟨hengine, hexit⟩
    · rw [settle_ae, hends, if_pos hd, hexit]
      split <;> rfl
    · refine hgrows.flagSet_of_set ?_
      rw [hb]
      exact faultsTaken_fault htrip
    · rw [settle_ae, hsource', hsource]
    · rw [settle_ae, hbid', hbid]
    · rw [periodic_settle, hsilent, h.silent]
      rfl
    · rw [settle_ae, hcarrying', hcarrying]
    · refine ownClaim_claimless ?_
      rw [settle_ae, hends, hexit]
      (repeat' split) <;> rfl
    · refine hgrows.flagSet_of_set ?_
      rw [hb]
      exact announced_flags _
    all_goals
      simp only [settle_held, settle_fs, settle_sv, settle_bp, settle_rc, settle_inp, settle_freeCount, settle_pending, hu,
        completeDischarge_held, completeDischarge_fs, completeDischarge_sv, completeDischarge_bp, completeDischarge_rc,
        completeDischarge_inp, completeDischarge_freeCount, completeDischarge_pending]
      rw [hframe]
    exact ⟨rfl, rfl⟩

end Sys2Proof.Machine

/-! ADMITTED with no retire recorded: what its evaluations, a shed and an upgrade change (R88 to R93, R154). -/

namespace Sys2Proof.Machine

/-! ## What an operation in ADMITTED leaves -/

/-- The parts of the own record that ADMITTED's evaluations move (R88 to R93). -/
def admittedRecord (ae ae' : OwnRecord) : OwnRecord :=
  { ae with engine := ae'.engine, profile := ae'.profile, bid := ae'.bid, window := ae'.window, upgradeHold := ae'.upgradeHold,
            retryHold := ae'.retryHold, shedWait := ae'.shedWait, excursion := ae'.excursion, profFullPending := ae'.profFullPending }

/-- An operation of ADMITTED that stays there: the other parts of the record, the path, the program and the payload's latches stand,
and notices are requested at most. -/
structure AdmittedStep (m : BitVec 16) (s u : State) : Prop where
  engine : ∃ sub, u.ae.engine = .admitted sub
  ae : u.ae = admittedRecord s.ae u.ae
  pp : u.pp = s.pp
  bp : u.bp = s.bp
  held : u.held = { s.held with profFull := u.held.profFull, takeover := u.held.takeover }
  rc : u.rc = { s.rc with mateGone := u.rc.mateGone }
  port : PortWithin m s u
  line : lineFrame u.sli = lineFrame s.sli
  standing : StandingKept s u
  leave : leaveUnderway u.sli = leaveUnderway s.sli

theorem AdmittedStep.trans {m : BitVec 16} {s t u : State} (h : AdmittedStep m s t) (k : AdmittedStep m t u) : AdmittedStep m s u := by
  refine ⟨k.engine, ?_, k.pp.trans h.pp, k.bp.trans h.bp, ?_, ?_, h.port.trans k.port, k.line.trans h.line, h.standing.trans k.standing,
    k.leave.trans h.leave⟩
  · have hk := k.ae
    rw [h.ae] at hk
    exact hk
  · have hk := k.held
    rw [h.held] at hk
    exact hk
  · have hk := k.rc
    rw [h.rc] at hk
    exact hk

theorem AdmittedStep.source {m : BitVec 16} {s u : State} (h : AdmittedStep m s u) : u.ae.source = s.ae.source := by rw [h.ae]; rfl

/-- An operation that moves the record and the port alone, to a substate of ADMITTED. -/
theorem AdmittedStep.of_record {m : BitVec 16} {s u : State} (he : ∃ sub, u.ae.engine = .admitted sub) (hae : u.ae = admittedRecord s.ae u.ae)
    (hu : u = { s with ae := u.ae, lpi := u.lpi }) (hp : PortWithin m s u) : AdmittedStep m s u := by
  have hsli : u.sli = s.sli := by rw [hu]
  exact ⟨he, hae, by rw [hu], by rw [hu], by rw [hu], by rw [hu], hp, by rw [hsli], .of_sli hsli, by rw [hsli]⟩

section
variable {m : BitVec 16} {s : State}

/-! ## A shed's completion -/

/-- The record of a completed shed (R90). -/
def shedRecord (still : Bool) (ae : OwnRecord) : OwnRecord :=
  { ae with engine := .admitted .steady, profile := .reduced, shedWait := none, upgradeHold := some upgradeHoldMs, excursion := still }

/-- The station at the completion of a shed, its claim reduced (R90). -/
def shedReduced (s : State) : State := { s with ae := shedRecord s.ae.excursion s.ae }

/-- A completed shed with no retire held: the reduced profile, PROFILE raised, and OVERCOMMIT where the station is still over (R90). -/
theorem completeShed_of_source (h : s.ae.source = .none) : completeShed s =
    raiseIf (isOver (shedReduced s)) .overcommit (raise .profile { s with ae := shedRecord (isOver (shedReduced s)) s.ae }) := by
  refine (if_neg ?_).trans ?_
  · rw [raiseIf_ae]
    exact fun hne => hne h
  · rfl

theorem completeShed_step (hp : flagWord .profile ||| m = m) (ho : flagWord .overcommit ||| m = m) (h : s.ae.source = .none) :
    AdmittedStep m s (completeShed s) := by
  rw [completeShed_of_source h]
  generalize isOver (shedReduced s) = still
  refine .of_record ⟨.steady, by rw [raiseIf_ae]; rfl⟩ (by rw [raiseIf_ae]; rfl) ?_
    ((raise_within hp { s with ae := shedRecord still s.ae }).trans (raiseIf_within ho _ _))
  cases still <;> rfl

/-! ## Its parts -/

theorem enterShedding_step (hp : flagWord .profile ||| m = m) (ho : flagWord .overcommit ||| m = m) (h : s.ae.source = .none) :
    AdmittedStep m s (enterShedding s) := by
  obtain ⟨b, hb⟩ : ∃ b : State, b = { s with
    ae := { s.ae with engine := .admitted .shedding, profFullPending := false, shedWait := some shedWaitMs }
    held := { s.held with profFull := false } } := ⟨_, rfl⟩
  have hstep : AdmittedStep m s b := by
    rw [hb]
    exact ⟨⟨_, rfl⟩, rfl, rfl, rfl, rfl, rfl, .of_lpi rfl, rfl, .of_sli rfl, rfl⟩
  have hshed : enterShedding s = if b.inp.profAck then b else completeShed b := by rw [hb]; rfl
  rw [hshed]
  split
  · exact hstep
  · exact hstep.trans (completeShed_step hp ho (hstep.source.trans h))

theorem leaveUnderway_closeBid (s : State) : leaveUnderway (closeBid s).sli = leaveUnderway s.sli := by
  cases hb : s.ae.bid with
  | none => rw [closeBid_of_none s hb]
  | some x =>
    rw [closeBid_of_some s (by simp [hb]), leaveUnderway_requestNotice (by decide)]
    exact leaveUnderway_voidBidInFlight s.sli

theorem failUpgrade_step : AdmittedStep m s (failUpgrade s) := by
  have hline : lineFrame (failUpgrade s).sli = lineFrame s.sli := failUpgrade_line s
  refine ⟨⟨.steady, rfl⟩, ?_, by simp, by simp, by simp, by simp, .of_lpi (by simp), hline, closeBid_standingKept s,
    leaveUnderway_closeBid s⟩
  unfold failUpgrade
  dsimp only
  rw [closeBid_ae]
  split <;> rfl

theorem enterUpgradeBid_step (p : ProfileData) (v : Nat) : AdmittedStep m s (enterUpgradeBid p v s) := by
  refine ⟨⟨.upgradeBid, by simp [enterUpgradeBid]⟩, by simp [enterUpgradeBid, admittedRecord], by simp [enterUpgradeBid],
    by simp [enterUpgradeBid], by simp [enterUpgradeBid], by simp [enterUpgradeBid], .of_lpi (by simp [enterUpgradeBid]),
    by simp [enterUpgradeBid], ?_, ?_⟩
  · unfold enterUpgradeBid
    exact (requestNotice_standingKept .bid _).from rfl
  · unfold enterUpgradeBid
    exact leaveUnderway_requestNotice (by decide) _

theorem AdmittedStep.of_admitted (he : ∃ sub, s.ae.engine = .admitted sub) : AdmittedStep m s s :=
  .of_record he rfl rfl (.refl s)

theorem openUpgrade_step (sub : AdmittedSub) (he : ∃ sub, s.ae.engine = .admitted sub) : AdmittedStep m s (openUpgrade sub s) := by
  unfold openUpgrade
  split
  · split
    · exact enterUpgradeBid_step _ _
    · exact .of_admitted he
  · exact .of_admitted he

theorem beginExcursion_step (hp : flagWord .profile ||| m = m) (ho : flagWord .overcommit ||| m = m) (sub : AdmittedSub)
    (he : ∃ sub, s.ae.engine = .admitted sub) (h : s.ae.source = .none) : AdmittedStep m s (beginExcursion sub s) := by
  obtain ⟨b, hb⟩ : ∃ b : State, b = { s with ae := { s.ae with excursion := true } } := ⟨_, rfl⟩
  have hbe : ∃ sub, b.ae.engine = .admitted sub := by rw [hb]; exact he
  have hstep : AdmittedStep m s b := by
    rw [hb] at hbe ⊢
    exact .of_record hbe rfl rfl (.of_lpi rfl)
  have hraise (x : State) (hx : ∃ sub, x.ae.engine = .admitted sub) : AdmittedStep m x (raise .overcommit x) :=
    .of_record hx rfl rfl (raise_within ho x)
  have hexc : beginExcursion sub s = match sub with
      | .steady => if s.ae.profile = .full ∧ hasReduced s then enterShedding b else raise .overcommit b
      | .upgradeBid => raise .overcommit (failUpgrade b)
      | .shedding => b := by rw [hb]; rfl
  rw [hexc]
  cases sub with
  | steady =>
    dsimp only
    split
    · exact hstep.trans (enterShedding_step hp ho (hstep.source.trans h))
    · exact hstep.trans (hraise b hbe)
  | upgradeBid => exact (hstep.trans failUpgrade_step).trans (hraise _ ⟨.steady, rfl⟩)
  | shedding => exact hstep

theorem evaluateAdmitted_step (hp : flagWord .profile ||| m = m) (ho : flagWord .overcommit ||| m = m)
    (he : ∃ sub, s.ae.engine = .admitted sub) (h : s.ae.source = .none) : AdmittedStep m s (evaluateAdmitted s) := by
  unfold evaluateAdmitted
  split
  · next sub _ =>
    split
    · split
      · exact .of_admitted he
      · exact beginExcursion_step hp ho sub he h
    · have hb : AdmittedStep m s { s with ae := { s.ae with excursion := false } } := .of_record he rfl rfl (.of_lpi rfl)
      exact hb.trans (openUpgrade_step sub hb.engine)
  · exact .of_admitted he

theorem evaluateTakeover_step (he : ∃ sub, s.ae.engine = .admitted sub) : AdmittedStep m s (evaluateTakeover s) := by
  unfold evaluateTakeover
  split
  · exact ⟨he, rfl, rfl, rfl, rfl, rfl, .of_lpi rfl, rfl, .of_sli rfl, rfl⟩
  · exact .of_admitted he

/-! ## The entry -/

/-- The entry into ADMITTED with no retire recorded: announced, and evaluated as in ADMITTED (R87, R88, R154). -/
theorem enterAdmitted_step (hph : flagWord .phase ||| m = m) (hp : flagWord .profile ||| m = m) (ho : flagWord .overcommit ||| m = m)
    (h : s.ae.source = .none) : AdmittedStep m s (enterAdmitted s) := by
  obtain ⟨b, hb⟩ : ∃ b : State, b = { s with ae := { s.ae with engine := .admitted .steady } } := ⟨_, rfl⟩
  have hentry : enterAdmitted s = evaluateTakeover (evaluateAdmitted (announceFrom s b)) := by rw [hb]; rfl
  have hbs : AdmittedStep m s b := by
    rw [hb]
    exact .of_record ⟨_, rfl⟩ rfl rfl (.of_lpi rfl)
  have hann : AdmittedStep m b (announceFrom s b) := by
    refine ⟨by rw [announceFrom_ae]; exact hbs.engine, by rw [announceFrom_ae]; rfl, by simp, by simp, by simp, by simp,
      announceFrom_within hph s b, (announceFrom_quiet _ _).1, announceFrom_standingKept s b, ?_⟩
    rcases announceFrom_cases s b with hc | hc <;> rw [hc]
    exact leaveUnderway_requestNotice (by decide) (raise .phase b)
  have hfirst := hbs.trans hann
  have heval := hfirst.trans (evaluateAdmitted_step hp ho hfirst.engine (hfirst.source.trans h))
  rw [hentry]
  exact heval.trans (evaluateTakeover_step heval.engine)

end

end Sys2Proof.Machine

/-! The runs of the Bring-up Program with no retire recorded, and the reconcile of a closed path (R126 to R130, R138, R167, O19). -/

namespace Sys2Proof.Machine

/-! ## Announcements -/

/-- A phase newly announced raises PHASE (R41, R76). -/
theorem flagSet_announceFrom {b u : State} {ph : Phase} (hu : silent u = false) (hphase : phaseOf u.ae.engine = some ph)
    (hnew : announcedPhase b ≠ some ph) : flagSet .phase (announceFrom b u) = true := by
  have hafter : announcedPhase u = some ph := by simp [announcedPhase, hu, hphase]
  unfold announceFrom
  rw [hafter]
  dsimp only
  rw [if_neg hnew]
  unfold flagSet
  rw [requestNotice_lpi]
  exact flagSet_raise_self .phase u

/-- And where requests are taken its STANDING is queued. -/
theorem standing_announceFrom {b u : State} {ph : Phase} (hr : Requests u) (hphase : phaseOf u.ae.engine = some ph)
    (hnew : announcedPhase b ≠ some ph) : isQueued .standing (announceFrom b u).sli.queue = true := by
  rw [announceFrom_new hr hphase hnew]
  exact announced_standing u

section
variable {s : State}

theorem enterAdmitted_phase (hstart : s.sc.start = .done) (hnew : announcedPhase s ≠ some .admitted) :
    flagSet .phase (enterAdmitted s) = true := by
  unfold enterAdmitted
  refine ((evaluateAdmitted_grows _).trans (evaluateTakeover_grows _)).flagSet_of_set ?_
  exact flagSet_announceFrom (silent_eq_false_of hstart nofun) rfl hnew

theorem evaluateTakeover_standingKept (s : State) : StandingKept s (evaluateTakeover s) := .of_sli (by simp)

theorem enterAdmitted_standing (hr : Requests s) (h : s.ae.source = .none) (hnew : announcedPhase s ≠ some .admitted) :
    isQueued .standing (enterAdmitted s).sli.queue = true := by
  obtain ⟨b, hb⟩ : ∃ b : State, b = { s with ae := { s.ae with engine := .admitted .steady } } := ⟨_, rfl⟩
  have hentry : enterAdmitted s = evaluateTakeover (evaluateAdmitted (announceFrom s b)) := by rw [hb]; rfl
  have hrb : Requests b := by
    rw [hb]
    exact hr.of_engine rfl nofun rfl
  have hann : (announceFrom s b).ae = b.ae := announceFrom_ae _ _
  have he : ∃ sub, (announceFrom s b).ae.engine = .admitted sub := ⟨.steady, by rw [hann, hb]⟩
  rw [hentry]
  refine evaluateTakeover_standingKept _ ((evaluateAdmitted_step (or_allFlags _) (or_allFlags _) he ?_).standing ?_)
  · rw [hann, hb]
    exact h
  · exact standing_announceFrom hrb (by rw [hb]; rfl) hnew

/-! ## The steps of a run -/

theorem testCondition_frame (r : StepRecord) (s : State) : (testCondition r s).1 = { s with bp := (testCondition r s).1.bp } := by
  unfold testCondition
  dsimp only
  split <;> rfl

theorem performStep_frame (n : Nat) (r : StepRecord) (s : State) :
    (performStep n r s).1 = { s with held := (performStep n r s).1.held, bp := (performStep n r s).1.bp } := by
  unfold performStep
  rw [testCondition_frame]

theorem beginStep_frame (n : Nat) (r : StepRecord) (s : State) :
    (beginStep n r s).1 = { s with held := (beginStep n r s).1.held, bp := (beginStep n r s).1.bp } := by
  unfold beginStep
  dsimp only
  (repeat' split) <;> first | rfl | (rw [performStep_frame])

theorem testCondition_reconcile (r : StepRecord) (s : State) : (testCondition r s).1.bp.reconcile = s.bp.reconcile := by
  unfold testCondition
  dsimp only
  split <;> rfl

theorem beginStep_reconcile (n : Nat) (r : StepRecord) (s : State) : (beginStep n r s).1.bp.reconcile = s.bp.reconcile := by
  unfold beginStep
  dsimp only
  (repeat' split) <;> first | rfl | exact testCondition_reconcile _ _

/-- The outcome of a run of steps in BRINGUP: a step that waits, or the program in UP with the entry into ADMITTED (R130, R87). -/
def RunOutcome (s u : State) : Prop :=
  (u = { s with held := u.held, bp := u.bp } ∧ u.bp.prog = .forward ∧ u.bp.reconcile = s.bp.reconcile)
    ∨ ∃ b : State, b = { s with held := b.held, bp := b.bp } ∧ b.bp.prog = .up ∧ u = enterAdmitted b

theorem runSteps_outcome (rs : List StepRecord) (n : Nat) (s : State) (hf : s.bp.prog = .forward) (he : s.ae.engine = .bringup) :
    RunOutcome s (runSteps rs n s) := by
  induction rs generalizing n s with
  | nil => exact .inr ⟨_, rfl, rfl, if_pos he⟩
  | cons r rest ih =>
    obtain ⟨x, hx⟩ : ∃ x, x = beginStep n r s := ⟨_, rfl⟩
    have hframe : x.1 = { s with held := x.1.held, bp := x.1.bp } := by rw [hx]; exact beginStep_frame n r s
    have hprog : x.1.bp.prog = .forward := by rw [hx, beginStep_prog, hf]
    have hrec : x.1.bp.reconcile = s.bp.reconcile := by rw [hx, beginStep_reconcile]
    unfold runSteps
    dsimp only
    rw [← hx]
    split
    · have hrest := ih (n + 1) x.1 hprog (by rw [hframe]; exact he)
      generalize runSteps rest (n + 1) x.1 = u at hrest ⊢
      rcases hrest with ⟨hu, hp, hr⟩ | ⟨b, hb, hp, hu⟩
      · refine .inl ⟨?_, hp, hr.trans hrec⟩
        rw [hframe] at hu
        exact hu
      · refine .inr ⟨b, ?_, hp, hu⟩
        rw [hframe] at hb
        exact hb
    · exact .inl ⟨hframe, hprog, hrec⟩

/-! ## The end of RELEARN with the main switch closed or tripped -/

theorem firstLatchRule_closed (h : s.rc.latchOpen = false) : firstLatchRule s = { s with held := { s.held with drain := false } } := by
  unfold firstLatchRule
  rw [h]
  rfl

theorem firstState_closed (htrip : s.pp.tripPending = false) (hforced : s.sc.forcedOff = false) (hpath : s.pp.path = .closed) :
    firstState s = if allStepsUp s then enterAdmitted (commandUp s)
      else runReconcile (announceFrom s { s with ae := { s.ae with engine := .bringup } }) := by
  have htrips : tripStands s = false := by simp [tripStands, hpath, htrip]
  have hclosed : mainClosed s = true := by simp [mainClosed, hpath]
  unfold firstState
  rw [htrips, hforced]
  exact if_pos hclosed

theorem firstState_tripped (hforced : s.sc.forcedOff = false) (hpath : s.pp.path = .tripped) : firstState s = takeStandingTrip s := by
  have htrips : tripStands s = true := by simp [tripStands, hpath]
  unfold firstState
  rw [htrips, hforced]
  rfl

/-- The rest of the end of RELEARN with the latch closed, from a first state in no discharge that completes (R167). -/
theorem exec_relearnExpiry_closed {b : State} (hstart : s.sc.start = .relearn) (hrun : s.sc.relearn.isSome = true)
    (hfirst : firstState (relearned s) = b) (hlatch : b.rc.latchOpen = false)
    (hidle : b.ae.engine ≠ .discharging ∨ b.pp.discharged = false) :
    exec .relearnExpiry s = answer s { b with held := { b.held with drain := false } } := by
  rw [exec_relearnExpiry hstart hrun, hfirst, firstLatchRule_closed hlatch]
  refine congrArg (answer s) (if_neg ?_)
  rcases hidle with h | h <;> simp [h]

end

end Sys2Proof.Machine

/-! The reconcile of a closed or tripped path at the end of RELEARN (R138, R167, R168, O19). -/

namespace Sys2Proof.Machine

section
variable {p : ProfileData} {s b u : State}

/-- What the statement reads of a station reconciled into ADMITTED, from any state whose record holds no retire. -/
theorem reconciled_admitted (hb : AdmittedStep allFlags b u) (hpath : b.pp.path = .closed) :
    (∃ sub, u.ae.engine = .admitted sub) ∧ u.pp.path = .closed ∧ u.bp = b.bp ∧ u.held.rails = b.held.rails
      ∧ u.held.lanes = b.held.lanes ∧ u.held.clk = b.held.clk ∧ u.rc.latchOpen = b.rc.latchOpen := by
  refine ⟨hb.engine, by rw [hb.pp]; exact hpath, hb.bp, ?_, ?_, ?_, ?_⟩
  · rw [hb.held]
  · rw [hb.held]
  · rw [hb.held]
  · rw [hb.rc]

/-- The first step of a reconcile run, found up and waiting for its condition (R138). -/
theorem runSteps_foundUp {r : StepRecord} {rest : List StepRecord} {n : Nat} (hrec : s.bp.reconcile = true)
    (hup : stepIsUp r.action s.held = true) (hcond : conditionMet r.cond s.inp = false) :
    runSteps (r :: rest) n s = { s with
      bp := { s.bp with pointer := n, stepTimer := some r.timeout, dwell := none, foundUp := true, sub := .condition, completed := n } } := by
  simp [runSteps, beginStep, performStep, testCondition, hrec, hup, hcond]

/-- A paced step of a run that is not found up waits for its edge (R126, R138). -/
theorem runSteps_paced {r : StepRecord} {rest : List StepRecord} {n : Nat}
    (hup : (s.bp.reconcile && stepIsUp r.action s.held) = false) (hpaced : r.paced = true) (hedge : s.bp.edge = false) :
    runSteps (r :: rest) n s = { s with
      bp := { s.bp with pointer := n, stepTimer := some r.timeout, dwell := none, foundUp := false, sub := .pace } } := by
  have hbegin : beginStep n r s = ({ s with
      bp := { s.bp with pointer := n, stepTimer := some r.timeout, dwell := none, foundUp := false, sub := .pace } }, false) := by
    unfold beginStep
    rw [hup]
    simp [hpaced, hedge]
  unfold runSteps
  rw [hbegin]
  rfl

/-- A standing trip taken with no fault counted before (R94, R115, R167). -/
theorem takeStandingTrip_first (hsource : s.ae.source = .none) (hcount : s.ae.retryCount = 0) :
    (takeStandingTrip s).ae.engine = .discharging
      ∧ (takeStandingTrip s).ae.exit = (if retryLimit s = 0 then .stopped else .cooldown)
      ∧ (takeStandingTrip s).ae.cause = (if retryLimit s = 0 then .retryExhausted else .trip) := by
  have hexit : retryExit (retryLimit s) s.ae = if retryLimit s = 0 then .stopped else .cooldown := by
    unfold retryExit
    rw [if_neg (by simp [hsource]), hcount]
    by_cases h : retryLimit s = 0
    · simp [h]
    · simp [h, Nat.pos_of_ne_zero h]
  have hne : retryExit (retryLimit s) s.ae ≠ .released := by
    rw [hexit]
    split <;> nofun
  have hae : (takeStandingTrip s).ae = dischargingRecord (retryExit (retryLimit s) s.ae) (retryRecord (retryLimit s) .trip s.ae) := by
    show (beginDischarging (retryExit (retryLimit s) s.ae) _).ae = _
    rw [beginDischarging_ae, discharged_of_exit hne]
    rfl
  rw [hae]
  refine ⟨rfl, hexit, ?_⟩
  show (retryRecord (retryLimit s) .trip s.ae).cause = _
  unfold retryRecord
  rw [hcount]
  by_cases h : retryLimit s = 0
  · simp [h]
  · simp [h, Nat.pos_of_ne_zero h, causeOf]

end

/-- Settles O19. -/
theorem relearnReconcilesAClosedPath : Obligations.RelearnReconcilesAClosedPath := by
  intro p v s hstart hrun hp he hsource hv htrip hforced hlatch hprog
  have hnone : announcedPhase (relearned s) = none := by
    have hphase : phaseOf (relearned s).ae.engine = none := by
      show phaseOf s.ae.engine = none
      rw [he]
      rfl
    simp [announcedPhase, hphase]
  refine ⟨fun hpath hall => ?up, fun hpath hnot => ?run, fun hpath hdis hcount => ?tripped⟩
  case up =>
    obtain ⟨b, hb⟩ : ∃ b, b = commandUp (relearned s) := ⟨_, rfl⟩
    have hbframe : b = { relearned s with bp := b.bp } ∧ b.bp.prog = .up := by
      rw [hb]
      unfold commandUp
      rw [if_pos (show (relearned s).bp.prog = .off from hprog)]
      exact ⟨rfl, rfl⟩
    have hstep : AdmittedStep allFlags b (enterAdmitted b) := by
      refine enterAdmitted_step (or_allFlags _) (or_allFlags _) (or_allFlags _) ?_
      rw [hbframe.1]
      exact hsource
    have hphase : flagSet .phase (enterAdmitted b) = true := by
      refine enterAdmitted_phase (by rw [hbframe.1]; rfl) ?_
      have hsame : announcedPhase b = announcedPhase (relearned s) := by rw [hbframe.1]; rfl
      rw [hsame, hnone]
      exact nofun
    have hfirst : firstState (relearned s) = enterAdmitted b := by
      rw [firstState_closed (s := relearned s) htrip hforced hpath, hb]
      exact if_pos hall
    obtain ⟨hadm, hclosed, hbp, hrails, hlanes, hclk, hopen⟩ := reconciled_admitted hstep (by rw [hbframe.1]; exact hpath)
    have hexec := exec_relearnExpiry_closed hstart hrun hfirst (by rw [hopen, hbframe.1]; exact hlatch)
      (.inl (by obtain ⟨sub, hsub⟩ := hadm; simp [hsub]))
    obtain ⟨u, hu⟩ : ∃ u : State, u = { enterAdmitted b with held := { (enterAdmitted b).held with drain := false } } := ⟨_, rfl⟩
    rw [← hu] at hexec
    have hblpi : b.lpi = s.lpi ∧ b.sli = s.sli ∧ b.held = s.held := by rw [hbframe.1]; exact ⟨rfl, rfl, rfl⟩
    have hport : PortGrows s (settle s u) :=
      ((portGrows_of_lpi hblpi.1).trans hstep.port).trans (PortGrows.from (settle_grows s u) (by rw [hu]))
    refine ⟨settle s u, hexec, ?_, ?_, ?_, ?_, ?_, ?_, ?_, ?_, ?_, (lineFrame_eq_iff s _).1 ?_, hport.1, ?_, ?_, ?_⟩
    · rw [settle_ae, hu]
      exact hadm
    · rw [settle_bp, hu]
      exact (congrArg BringUp.prog hbp).trans hbframe.2
    · rw [settle_pp, hu]
      exact hclosed
    · rw [settle_sc, hu]
      exact (enterAdmitted_sc b).trans (by rw [hbframe.1]; rfl)
    · rw [settle_held, hu]
    · refine (PortGrows.from (settle_grows s u) (by rw [hu])).flagSet_of_set hphase
    · rw [settle_held, hu, ← hblpi.2.2]
      exact hrails
    · rw [settle_held, hu, ← hblpi.2.2]
      exact hlanes
    · rw [settle_held, hu, ← hblpi.2.2]
      exact hclk
    · rw [(settle_quiet s u).1, hu, ← hblpi.2.1]
      exact hstep.line
    · rw [settle_fs, hu]
      exact (enterAdmitted_fs b).trans (by rw [hbframe.1]; rfl)
    · rw [settle_sv, hu]
      exact (enterAdmitted_sv b).trans (by rw [hbframe.1]; rfl)
    · rw [settle_inp, hu]
      exact (enterAdmitted_inp b).trans (by rw [hbframe.1]; rfl)
  case run =>
    obtain ⟨a, ha⟩ : ∃ a, a = announceFrom (relearned s) { relearned s with ae := { (relearned s).ae with engine := .bringup } } := ⟨_, rfl⟩
    have haae : a.ae = { (relearned s).ae with engine := .bringup } := by rw [ha, announceFrom_ae]
    have harest : a.pp = s.pp ∧ a.held = s.held ∧ a.bp = s.bp ∧ a.rc = s.rc ∧ a.inp = s.inp
        ∧ a.sc = { s.sc with start := .done, relearn := none } := by
      rw [ha]
      simp [relearned]
    obtain ⟨happ, haheld, habp, harc, hainp, hasc⟩ := harest
    have haphase : flagSet .phase a = true := by
      rw [ha]
      refine flagSet_announceFrom (ph := .bringup) (silent_eq_false_of rfl nofun) rfl ?_
      rw [hnone]
      exact nofun
    obtain ⟨c, hc⟩ : ∃ c : State, c = { a with bp := startedProgram true a.bp } := ⟨_, rfl⟩
    have hfirst : firstState (relearned s) = runSteps p.steps 1 c := by
      rw [firstState_closed (s := relearned s) htrip hforced hpath, hc]
      refine (if_neg (by simp [show allStepsUp (relearned s) = false from hnot])).trans ?_
      rw [← ha]
      unfold runReconcile
      rw [if_pos (by rw [habp]; exact hprog)]
      unfold stepTable
      rw [hasc]
      dsimp only
      rw [hp]
    have hcframe : c.ae = a.ae ∧ c.pp = a.pp ∧ c.lpi = a.lpi ∧ c.held = a.held ∧ c.rc = a.rc ∧ c.sc = a.sc ∧ c.inp = a.inp
        ∧ c.bp = startedProgram true s.bp := by
      rw [hc, habp]
      exact ⟨rfl, rfl, rfl, rfl, rfl, rfl, rfl, rfl⟩
    obtain ⟨hcae, hcpp, hclpi, hcheld, hcrc, hcsc, hcinp, hcbp⟩ := hcframe
    obtain ⟨b, hb⟩ : ∃ b, b = runSteps p.steps 1 c := ⟨_, rfl⟩
    have hout : RunOutcome c b := by
      rw [hb]
      exact runSteps_outcome _ _ c (by rw [hcbp]; rfl) (by rw [hcae, haae])
    have hreads : (b.ae.engine = .bringup ∧ b.bp.prog = .forward ∧ b.bp.reconcile = true
          ∨ (∃ sub, b.ae.engine = .admitted sub) ∧ b.bp.prog = .up)
        ∧ b.pp.path = .closed ∧ b.sc = c.sc ∧ b.rc.latchOpen = c.rc.latchOpen ∧ PortGrows c b := by
      rcases hout with ⟨hframe, hf, hr⟩ | ⟨d, hd, hup, hbd⟩
      · have hbc : b.ae = c.ae ∧ b.pp = c.pp ∧ b.sc = c.sc ∧ b.rc = c.rc ∧ b.lpi = c.lpi := by
          rw [hframe]
          exact ⟨rfl, rfl, rfl, rfl, rfl⟩
        obtain ⟨hbae, hbpp, hbsc, hbrc, hblpi⟩ := hbc
        refine ⟨.inl ⟨by rw [hbae, hcae, haae], hf, by rw [hr, hcbp]; rfl⟩, by rw [hbpp, hcpp, happ]; exact hpath, hbsc,
          by rw [hbrc], portGrows_of_lpi hblpi⟩
      · have hdc : d.ae = c.ae ∧ d.pp = c.pp ∧ d.sc = c.sc ∧ d.rc = c.rc ∧ d.lpi = c.lpi := by
          rw [hd]
          exact ⟨rfl, rfl, rfl, rfl, rfl⟩
        obtain ⟨hdae, hdpp, hdsc, hdrc, hdlpi⟩ := hdc
        have hstep : AdmittedStep allFlags d b := by
          rw [hbd]
          refine enterAdmitted_step (or_allFlags _) (or_allFlags _) (or_allFlags _) ?_
          rw [hdae, hcae, haae]
          exact hsource
        refine ⟨.inr ⟨hstep.engine, by rw [hstep.bp]; exact hup⟩, by rw [hstep.pp, hdpp, hcpp, happ]; exact hpath, ?_, ?_,
          (portGrows_of_lpi hdlpi).trans hstep.port⟩
        · rw [hbd, enterAdmitted_sc, hdsc]
        · rw [hstep.rc]
          exact (congrArg RetireCoordinator.latchOpen hdrc : d.rc.latchOpen = c.rc.latchOpen)
    obtain ⟨hstate, hclosed, hbsc, hopen, hgrows⟩ := hreads
    have hexec := exec_relearnExpiry_closed hstart hrun (hfirst.trans hb.symm) (by rw [hopen, hcrc, harc]; exact hlatch)
      (.inl (by rcases hstate with ⟨h, -⟩ | ⟨⟨sub, h⟩, -⟩ <;> simp [h]))
    obtain ⟨u, hu⟩ : ∃ u : State, u = { b with held := { b.held with drain := false } } := ⟨_, rfl⟩
    rw [← hu] at hexec
    refine ⟨settle s u, hexec, ?_, ?_, ?_, ?_, fun r hr => ?_⟩
    · rw [settle_ae, settle_bp, hu]
      exact hstate
    · rw [settle_pp, hu]
      exact hclosed
    · rw [settle_sc, hu, ← hasc, ← hcsc]
      exact hbsc
    · refine (hgrows.trans (PortGrows.from (settle_grows s u) (by rw [hu]))).flagSet_of_set ?_
      unfold flagSet
      rw [hclpi]
      exact haphase
    · have hsteps : ∃ rest, p.steps = r :: rest := ⟨p.steps.tail, (List.cons_head?_tail hr).symm⟩
      obtain ⟨rest, hrest⟩ := hsteps
      rw [hrest] at hb
      refine ⟨fun hup hcond => ?_, fun hdown hpaced => ?_⟩
      · rw [runSteps_foundUp (by rw [hcbp]; rfl) (by rw [hcheld, haheld]; exact hup) (by rw [hcinp, hainp]; exact hcond)] at hb
        rw [settle_ae, settle_bp, settle_held, hu, hb]
        exact ⟨by rw [hcae, haae], by rw [hcbp]; rfl, by rw [hcheld, haheld]⟩
      · rw [runSteps_paced (by rw [hcheld, haheld, hdown, Bool.and_false]) hpaced (by rw [hcbp]; rfl)] at hb
        rw [settle_ae, settle_bp, settle_held, hu, hb]
        exact ⟨by rw [hcae, haae], by rw [hcbp]; rfl, by rw [hcheld, haheld]⟩
  case tripped =>
    obtain ⟨b, hb⟩ : ∃ b, b = takeStandingTrip (relearned s) := ⟨_, rfl⟩
    have hlimit : retryLimit (relearned s) = p.retryLimit := by
      unfold retryLimit relearned
      dsimp only
      rw [hp]
    obtain ⟨hengine, hexit, hcause⟩ : b.ae.engine = .discharging
        ∧ b.ae.exit = (if p.retryLimit = 0 then .stopped else .cooldown)
        ∧ b.ae.cause = (if p.retryLimit = 0 then .retryExhausted else .trip) := by
      rw [hb, ← hlimit]
      exact takeStandingTrip_first hsource hcount
    have hpp : b.pp = { s.pp with tripPending := false } := by
      rw [hb]
      unfold takeStandingTrip beginRetry
      rw [beginDischarging_pp]
      rfl
    have hopen : b.rc.latchOpen = false := by
      rw [hb, takeStandingTrip_rc]
      exact hlatch
    have hexec := exec_relearnExpiry_closed hstart hrun ((firstState_tripped (s := relearned s) hforced hpath).trans hb.symm) hopen
      (.inr (by rw [hpp]; exact hdis))
    obtain ⟨u, hu⟩ : ∃ u : State, u = { b with held := { b.held with drain := false } } := ⟨_, rfl⟩
    rw [← hu] at hexec
    have hfault : flagSet .fault b = true := by
      rw [hb]
      unfold takeStandingTrip beginRetry
      exact (beginDischarging_grows _ _).flagSet_of_set (flagSet_raise_self .fault _)
    refine ⟨settle s u, hexec, ?_, ?_, ?_, ?_, (PortGrows.from (settle_grows s u) (by rw [hu])).flagSet_of_set hfault⟩
    · rw [settle_ae, hu, hengine]
    · rw [settle_pp, hu, hpp, hpath]
    · rw [settle_ae, hu, hexit]
    · rw [settle_ae, hu, hcause]

end Sys2Proof.Machine

/-! The closing of the main switch and the entry into BRINGUP (R86, R87, R107, R125, O46). -/

namespace Sys2Proof.Machine

/-! ## No notice made due by ADMITTED's evaluations from STEADY -/

section
variable {s : State}

theorem completeShed_sli_of_source (h : s.ae.source = .none) : (completeShed s).sli = s.sli := by
  rw [completeShed_of_source h, raiseIf_sli]
  rfl

theorem enterShedding_sli_of_source (h : s.ae.source = .none) : (enterShedding s).sli = s.sli := by
  unfold enterShedding
  dsimp only
  split
  · rfl
  · exact completeShed_sli_of_source h

theorem evaluateAdmitted_notDue (he : s.ae.engine = .admitted .steady) (h : s.ae.source = .none) (hd : NotDue s) :
    NotDue (evaluateAdmitted s) := by
  unfold evaluateAdmitted
  rw [he]
  dsimp only
  split
  · split
    · exact hd
    · unfold beginExcursion
      dsimp only
      split
      · unfold NotDue
        rw [enterShedding_sli_of_source (s := { s with ae := { s.ae with excursion := true } }) h]
        exact hd
      · exact hd
  · unfold openUpgrade
    split
    · split
      · exact requestNotice_notDue (by decide) (s := { s with ae := _ }) hd
      · exact hd
    · exact hd

theorem enterAdmitted_notDue (h : s.ae.source = .none) (hd : NotDue s) : NotDue (enterAdmitted s) := by
  unfold enterAdmitted NotDue
  rw [evaluateTakeover_sli]
  refine evaluateAdmitted_notDue (by rw [announceFrom_ae]) (by rw [announceFrom_ae]; exact h) ?_
  exact announceFrom_notDue s (u := { s with ae := _ }) hd

/-! ## A run in BRINGUP, whichever its outcome -/

/-- What a run of steps in BRINGUP leaves, whether a step waits or the run completes. -/
structure RunStep (m : BitVec 16) (s u : State) : Prop where
  state : u.ae.engine = .bringup ∧ u.bp.prog = .forward ∨ (∃ sub, u.ae.engine = .admitted sub) ∧ u.bp.prog = .up
  ae : u.ae = admittedRecord s.ae u.ae
  pp : u.pp = s.pp
  port : PortWithin m s u
  line : lineFrame u.sli = lineFrame s.sli
  standing : StandingKept s u
  notDue : NotDue s → NotDue u

theorem RunOutcome.step {m : BitVec 16} {u : State} (hph : flagWord .phase ||| m = m) (hp : flagWord .profile ||| m = m)
    (ho : flagWord .overcommit ||| m = m) (he : s.ae.engine = .bringup) (h : s.ae.source = .none) (hout : RunOutcome s u) :
    RunStep m s u := by
  rcases hout with ⟨hframe, hf, -⟩ | ⟨d, hd, hup, hu⟩
  · have hsame : u.ae = s.ae ∧ u.pp = s.pp ∧ u.lpi = s.lpi ∧ u.sli = s.sli := by
      rw [hframe]
      exact ⟨rfl, rfl, rfl, rfl⟩
    obtain ⟨hae, hpp, hlpi, hsli⟩ := hsame
    exact ⟨.inl ⟨hae ▸ he, hf⟩, by rw [hae]; rfl, hpp, .of_lpi hlpi, by rw [hsli], .of_sli hsli, fun hd => by unfold NotDue; rw [hsli]; exact hd⟩
  · have hsame : d.ae = s.ae ∧ d.pp = s.pp ∧ d.lpi = s.lpi ∧ d.sli = s.sli := by
      rw [hd]
      exact ⟨rfl, rfl, rfl, rfl⟩
    obtain ⟨hae, hpp, hlpi, hsli⟩ := hsame
    have hstep : AdmittedStep m d u := hu ▸ enterAdmitted_step hph hp ho (by rw [hae]; exact h)
    refine ⟨.inr ⟨hstep.engine, by rw [hstep.bp]; exact hup⟩, hae ▸ hstep.ae, hstep.pp.trans hpp, (PortWithin.of_lpi hlpi).trans hstep.port,
      hsli ▸ hstep.line, hstep.standing.from hsli, fun hdue => ?_⟩
    rw [hu]
    refine enterAdmitted_notDue (by rw [hae]; exact h) ?_
    unfold NotDue
    rw [hsli]
    exact hdue

end

/-! ## The closing -/

section
variable {p : ProfileData} {s : State}

/-- The Power Path with its main switch just closed (R107, R108). -/
def switchClosed (s : State) : State :=
  { s with pp := { s.pp with path := .closed, closing := none, slowCount := 0, overCount := 0, overclaim := false } }

/-- BRINGUP entered and announced, the program not yet started (R86, R87). -/
def bringingUp (s : State) : State := announced { switchClosed s with ae := bringupRecord s.ae }

/-- The program commanded to run forward (R125). -/
def programStarted (s : State) : State :=
  { bringingUp s with
    held := { s.held with profFull := levelIsFull s.ae.profile, payRst := true }, bp := startedProgram false s.bp }

theorem exec_closingExpiry (hp : s.sc.profile = some p) (he : s.ae.engine = .powering) (hprog : s.bp.prog = .off)
    (hpath : s.pp.path = .closing) (hrun : s.pp.closing.isSome = true) (hv : s.fs.vF ≤ s.pp.vBulk + 10) (hr : Requests s) :
    exec .closingExpiry s = answer s (runSteps p.steps 1 (programStarted s)) := by
  have hreq : Requests { switchClosed s with ae := bringupRecord s.ae } := hr.of_engine rfl nofun rfl
  have hphase : announcedPhase (switchClosed s) = some .precharging := by
    have hengine : (switchClosed s).ae.engine = .powering := he
    have hsilent : silent (switchClosed s) = false := hr.1
    simp [announcedPhase, hsilent, hengine, phaseOf]
  have hbringup : enterBringup (switchClosed s) = runSteps p.steps 1 (programStarted s) := by
    rw [enterBringup_eq]
    have hentering : enteringBringup (switchClosed s) = bringingUp s :=
      announceFrom_new (ph := .bringup) hreq rfl (by rw [hphase]; exact nofun)
    rw [hentering]
    unfold runNormal
    rw [if_pos (show (bringingUp s).bp.prog = .off from hprog)]
    have htable : stepTable (bringingUp s) = p.steps := by
      unfold stepTable
      rw [show (bringingUp s).sc.profile = some p from hp]
    rw [htable]
    rfl
  refine congrArg (answer s) ((if_pos ⟨hpath, hrun⟩).trans ((if_pos hv).trans ?_))
  exact (if_pos (show (switchClosed s).ae.engine = .powering from he)).trans hbringup

theorem bringingUp_raised : Raised (flagWord .phase) s (bringingUp s) := rfl

end

/-- Settles O46. -/
theorem closingExpiryClosesTheSwitch : Obligations.ClosingExpiryClosesTheSwitch := by
  intro p r rest s hp hsteps hstart he hsource hbid hprog hpath hrun hv hr hs
  have hexec := exec_closingExpiry hp he hprog hpath hrun hv hr
  rw [hsteps] at hexec
  obtain ⟨u, hu⟩ : ∃ u, u = runSteps (r :: rest) 1 (programStarted s) := ⟨_, rfl⟩
  rw [← hu] at hexec
  obtain ⟨m, hm⟩ : ∃ m, m = flagWord .phase ||| flagWord .overcommit ||| flagWord .profile := ⟨_, rfl⟩
  have hrunstep : RunStep m (programStarted s) u := by
    rw [hu, hm]
    exact (runSteps_outcome _ _ (programStarted s) rfl rfl).step (by decide) (by decide) (by decide) rfl hsource
  have hsilent : silent u = false := by
    refine silent_eq_false_of ?_ ?_
    · rw [hu, runSteps_sc]
      exact hstart
    · rcases hrunstep.state with ⟨h, -⟩ | ⟨⟨sub, h⟩, -⟩ <;> simp [h]
  have hdue : NotDue u := hrunstep.notDue (congestionDue_joinTail _ _ hs.2)
  have hport : PortWithin m s (settle s u) := by
    refine (PortWithin.trans (t := bringingUp s) (bringingUp_raised.within (by rw [hm]; decide)) ?_).trans
      (settle_within_of_not_due m s u hdue)
    exact (PortWithin.of_lpi rfl).trans hrunstep.port
  refine ⟨settle s u, hexec, ?_, ?_, ?_, ?_, ?_, ?_, settle_standingKept s u (hrunstep.standing (announced_standing _)), ?_, hport.1,
    settle_outerKept (hrunstep.line.trans rfl) ?_, hm ▸ hport.2, fun hpaced => ?_⟩
  · rw [settle_pp, hrunstep.pp]
    rfl
  · rw [settle_ae, settle_bp]
    exact hrunstep.state
  · rw [settle_ae, hrunstep.ae]
    rfl
  · rw [settle_ae, hrunstep.ae]
    rfl
  · rw [settle_ae, hrunstep.ae]
    rfl
  · rw [settle_ae, hrunstep.ae]
    rfl
  · exact (hrunstep.port.trans (settle_within_of_not_due m s u hdue)).flagSet_of_set (announced_flags _)
  · rw [hu]
    simp only [runSteps_fs, runSteps_sv, runSteps_inp, runSteps_sc, runSteps_freeCount, runSteps_pending]
    exact ⟨rfl, rfl, rfl, rfl, rfl, rfl⟩
  · rw [runSteps_paced rfl hpaced rfl] at hu
    have hsli : (settle s u).sli = u.sli :=
      settle_sli_of_standing_queued hr.1 hsilent hdue (by rw [hu]; exact announced_standing _)
    have huae : u.ae = bringupRecord s.ae := by rw [hu]; rfl
    have hclaim : ownClaim (settle s u) = ownSteady s := by
      have hsteady : ownClaim (settle s u) = ownSteady (settle s u) := by
        unfold ownClaim
        rw [settle_ae, huae]
        rfl
      rw [hsteady]
      unfold ownSteady
      rw [settle_sc, settle_ae, huae, hu]
      rfl
    refine ⟨by rw [settle_ae, huae]; rfl, hclaim, ?_, ?_, ?_, portAfter_settle (w := flagWord .phase) (by rw [hu]; rfl) hdue, ?_⟩
    · rw [settle_held, hu]
      show { s.held with profFull := levelIsFull s.ae.profile, payRst := true } = _
      cases s.ae.profile <;> rfl
    · rw [settle_bp, hu]
      rfl
    · unfold LineAfter
      rw [hsli, hu]
      rfl
    · rw [settle_rc, hu]
      rfl

end Sys2Proof.Machine

/-! Cancels of a retire, and commands that the local port takes or refuses (R143, R178, O57). -/

namespace Sys2Proof.Machine

/-! ## The commands of the port that change nothing else -/

/-- A command whose answer is all it changes (R172, R178). -/
theorem answer_commandTaken {s : State} (hs : Settled s) (code : Byte) (r : CmdResult) :
    answer s (commandTaken code r s) = .next (commandTaken code r s) :=
  answer_of_kept hs ⟨rfl, rfl, rfl, .rfl, .rfl, rfl, rfl⟩ rfl

/-- Settled states do not read the retire source. -/
theorem settled_source {s : State} (hs : Settled s) (source : RetireSource) : Settled { s with ae := { s.ae with source := source } } := hs

/-! ## The cancel -/

section
variable {s b : State}

/-- The states that a recorded retire may be cancelled in (R143). -/
theorem cancellable_iff (h : s.ae.source ≠ .none) : cancellable s = true ↔
    (s.ae.engine = .retiring .handover ∨ s.ae.engine = .retiring .held ∨ s.ae.engine = .retiring .draining
      ∨ s.ae.engine = .admitted .shedding) := by
  unfold cancellable
  split <;> simp_all

theorem cancelAnswer_command (he : s.ae.engine ≠ .none) (hs : s.ae.source = .command) : cancelAnswer s = acceptedIf (cancellable s) := by
  unfold cancelAnswer
  rw [if_neg he, hs]

/-- The commands by which the recorded source cancels, as one operation on the state with the latch or the command's answer taken. -/
theorem exec_cancel {c : Instr} (hc : c = .latchClosing ∧ s.ae.source = .latch ∨ c = .cancelRetire ∧ s.ae.source = .command)
    (he : s.ae.engine ≠ .none) (hcan : cancellable s = true) :
    ∃ b : State, exec c s = answer s (honourCancel b) ∧ b = { s with rc := b.rc, lpi := b.lpi }
      ∧ b.rc.handoverReq = s.rc.handoverReq ∧ b.lpi.flags = s.lpi.flags
      ∧ (c = .cancelRetire → b.lpi.lastCmd = 0x02 ∧ b.lpi.result = .accepted) := by
  rcases hc with ⟨rfl, hl⟩ | ⟨rfl, hcmd⟩
  · exact ⟨_, congrArg (answer s) (if_pos ⟨hl, hcan⟩), rfl, rfl, rfl, nofun⟩
  · have hanswer : cancelAnswer s = .accepted := by rw [cancelAnswer_command he hcmd, hcan]; rfl
    refine ⟨commandTaken 0x02 .accepted s, ?_, rfl, rfl, rfl, fun _ => ⟨rfl, rfl⟩⟩
    show execCancelRetire s = _
    unfold execCancelRetire
    dsimp only
    rw [hanswer, if_pos rfl]

/-- The station of a cancel in RETIRING, before it enters ADMITTED (R143). -/
def cancelled (b : State) : State :=
  { b with ae := { b.ae with source := .none }, held := { b.held with drain := false },
           rc := { b.rc with handover := none, quiesce := none, handoverReq := false } }

theorem honourCancel_shedding (h : b.ae.engine = .admitted .shedding) : honourCancel b = { b with ae := { b.ae with source := .none } } := by
  unfold honourCancel
  rw [h]

theorem honourCancel_retiring {sub : RetiringSub} (h : b.ae.engine = .retiring sub) : honourCancel b = enterAdmitted (cancelled b) := by
  unfold honourCancel
  rw [h]
  rfl

end

theorem FlagsWithin.of_flags {m : BitVec 16} {s t : State} (h : t.lpi.flags = s.lpi.flags) : FlagsWithin m s t := by
  simp [FlagsWithin, h]

/-- Settles O57. -/
theorem cancelsComeFromTheSource : Obligations.CancelsComeFromTheSource := by
  intro c s hs hr hstart he hc
  have hsource : s.ae.source ≠ .none := by rcases hc with ⟨-, h⟩ | ⟨-, h⟩ <;> simp [h]
  refine ⟨fun hcan => ?honoured, cancellable_iff hsource, fun hcmd hno => ?refused, ?noSource, ?latchSource⟩
  case honoured =>
    obtain ⟨b, hexec, hb, hreq, hflags, hcommand⟩ := exec_cancel hc he hcan
    have hbae : b.ae = s.ae := by rw [hb]
    have hbsc : b.sc = s.sc := by rw [hb]
    have hbsli : b.sli = s.sli := by rw [hb]
    have hengine : (∃ sub, s.ae.engine = .retiring sub) ∨ s.ae.engine = .admitted .shedding := by
      rcases (cancellable_iff hsource).1 hcan with h | h | h | h
      exacts [.inl ⟨_, h⟩, .inl ⟨_, h⟩, .inl ⟨_, h⟩, .inr h]
    rcases hengine with ⟨sub, hsub⟩ | hshed
    case inr =>
      obtain ⟨u, hu⟩ : ∃ u : State, u = { b with ae := { s.ae with source := .none } } := ⟨_, rfl⟩
      have huse : u = { s with ae := u.ae, rc := b.rc, lpi := b.lpi } := by rw [hu, hb]
      have huae : u.ae = { s.ae with source := .none } := by rw [hu]
      have hshown : SameShown s u := by
        rw [huse, huae]
        exact ⟨rfl, rfl, rfl, rfl, rfl, rfl, rfl, rfl, rfl, ⟨rfl, rfl⟩, rfl, hreq⟩
      have hsettle : settle s u = u := hshown.settle hs (by rw [huse]) (by rw [huse])
      have hresult : exec c s = .next u := by
        rw [hexec, honourCancel_shedding (by rw [hbae]; exact hshed), hbae, ← hu]
        exact congrArg Host.Outcome.next hsettle
      refine ⟨u, hresult, by rw [huae], fun h => ?_, fun h => absurd hshed h, fun _ => ⟨huae, by rw [huse]⟩, by rw [huse], by rw [huse],
        outerKept_of_frame (by rw [huse]) (by rw [huse]; exact ⟨rfl, rfl, rfl, rfl, rfl, rfl⟩), .of_flags ?_⟩
      · rw [hu]
        exact hcommand h
      · rw [hu]
        exact hflags
    case inl =>
      have hnotShedding : s.ae.engine ≠ .admitted .shedding := by simp [hsub]
      obtain ⟨d, hd⟩ : ∃ d, d = cancelled b := ⟨_, rfl⟩
      obtain ⟨u, hu⟩ : ∃ u, u = enterAdmitted d := ⟨_, rfl⟩
      have hresult : exec c s = answer s u := by rw [hexec, honourCancel_retiring (by rw [hbae]; exact hsub), ← hd, ← hu]
      have hdae : d.ae = { s.ae with source := .none } := by rw [hd, ← hbae]; rfl
      have hdsc : d.sc = s.sc := by rw [hd]; exact hbsc
      have hdsli : d.sli = s.sli := by rw [hd]; exact hbsli
      have hreqd : Requests d := hr.of_engine (by rw [hdsc]) (by rw [hdae]; simp [hsub]) (by rw [hdsli])
      have hphase : announcedPhase d ≠ some .admitted := by simp [announcedPhase, hreqd.1, hdae, hsub, phaseOf]
      obtain ⟨m, hm⟩ : ∃ m, m = flagWord .phase ||| flagWord .overcommit ||| flagWord .profile := ⟨_, rfl⟩
      have hstep : AdmittedStep m d u := by
        rw [hu, hm]
        exact enterAdmitted_step (by decide) (by decide) (by decide) (by rw [hdae])
      have hdue : NotDue u := by
        rw [hu]
        refine enterAdmitted_notDue (by rw [hdae]) ?_
        unfold NotDue
        rw [hdsli]
        exact hs.2
      have hport : PortWithin m d (settle s u) := hstep.port.trans (settle_within_of_not_due m s u hdue)
      have hdflags : d.lpi.flags = s.lpi.flags := by rw [hd]; exact hflags
      refine ⟨settle s u, hresult, ?_, fun h => ?_, fun _ => ⟨?_, ?_, ?_, ?_, ?_, ?_, ?_⟩, fun h => absurd h hnotShedding, ?_, ?_,
        settle_outerKept (by rw [hstep.line, hdsli]) ?_, hm ▸ (FlagsWithin.of_flags hdflags).trans hport.2⟩
      · rw [settle_ae, hstep.source, hdae]
      · obtain ⟨-, hcmd, hres, -⟩ := (portKept_iff _ _).1 hport.1
        rw [hcmd, hres, hd]
        exact hcommand h
      · rw [settle_ae]
        exact hstep.engine
      · rw [settle_rc, hstep.rc, hd]
        rfl
      · rw [settle_rc, hstep.rc, hd]
        rfl
      · rw [settle_rc, hstep.rc, hd]
        rfl
      · rw [settle_held, hstep.held, hd]
        rfl
      · refine flagSet_settle ?_
        rw [hu]
        exact enterAdmitted_phase (by rw [hdsc]; exact hstart) hphase
      · refine settle_standingKept s u ?_
        rw [hu]
        exact enterAdmitted_standing hreqd (by rw [hdae]) hphase
      · rw [settle_pp, hstep.pp, hd]
        show b.pp = s.pp
        rw [hb]
      · rw [settle_bp, hstep.bp, hd]
        show b.bp = s.bp
        rw [hb]
      · rw [hu]
        simp only [enterAdmitted_fs, enterAdmitted_sv, enterAdmitted_inp, enterAdmitted_sc, enterAdmitted_freeCount, enterAdmitted_pending]
        rw [hd, hb]
        exact ⟨rfl, rfl, rfl, rfl, rfl, rfl⟩
  case refused =>
    rcases hc with ⟨hl, -⟩ | ⟨-, hcommand⟩
    · exact absurd (hl.symm.trans hcmd) (by decide)
    · have hanswer : cancelAnswer s = .refusedState := by rw [cancelAnswer_command he hcommand, hno]; rfl
      show execCancelRetire s = _
      unfold execCancelRetire
      rw [hanswer]
      exact answer_commandTaken hs 0x02 .refusedState
  case noSource =>
    obtain ⟨b, hb⟩ : ∃ b : State, b = { s with ae := { s.ae with source := .none } } := ⟨_, rfl⟩
    have hanswer : cancelAnswer b = .refusedState := by
      rw [hb]
      exact if_neg he
    rw [← hb]
    show execCancelRetire b = _
    unfold execCancelRetire
    rw [hanswer]
    refine (answer_commandTaken (hb ▸ settled_source hs .none) 0x02 .refusedState).trans ?_
    rw [hb]
    rfl
  case latchSource =>
    obtain ⟨b, hb⟩ : ∃ b : State, b = { s with ae := { s.ae with source := .latch } } := ⟨_, rfl⟩
    have hanswer : cancelAnswer b = .refusedSource := by
      rw [hb]
      exact if_neg he
    rw [← hb]
    show execCancelRetire b = _
    unfold execCancelRetire
    rw [hanswer]
    refine (answer_commandTaken (hb ▸ settled_source hs .latch) 0x02 .refusedSource).trans ?_
    rw [hb]
    rfl

end Sys2Proof.Machine

/-! The steps of the Bring-up Program as equations: an edge, a condition, a dwell and the step after (R126 to R130, R138, O50). -/

namespace Sys2Proof.Machine

section
variable {r : StepRecord} {n : Nat} {s : State}

/-- An event that moves the program, the held outputs and the payload's inputs is announced by nothing at its end. -/
theorem answer_of_program (hs : Settled s) (bp : BringUp) (held : HeldOutputs) (inp : Inputs) :
    answer s { s with bp := bp, held := held, inp := inp } = .next { s with bp := bp, held := held, inp := inp } :=
  answer_of_kept hs ⟨rfl, rfl, rfl, .rfl, .rfl, rfl, rfl⟩ rfl

/-! ## A condition tested -/

theorem testCondition_unmet (h : conditionMet r.cond s.inp = false) : testCondition r s = (s, false) := if_neg (by simp [h])

/-- A condition met that ends no step starts its dwell (R128). -/
theorem testCondition_met (h : conditionMet r.cond s.inp = true) (hup : s.bp.foundUp = false) (hd : 0 < r.dwell) :
    testCondition r s = ({ s with bp := { s.bp with sub := .dwell, stepTimer := none, dwell := some r.dwell } }, false) := by
  simp [testCondition, h, hup, Nat.pos_iff_ne_zero.1 hd]

/-- A condition met that ends its step: a dwell of 0 ms, or a step that a reconcile run found up (R130, R138). -/
theorem testCondition_ends (h : conditionMet r.cond s.inp = true) (hends : s.bp.foundUp = true ∨ r.dwell = 0) :
    testCondition r s = ({ s with bp := { s.bp with sub := .dwell, stepTimer := none, dwell := none } }, true) := by
  rcases hends with hu | hd
  · simp [testCondition, h, hu]
  · simp [testCondition, h, hd]

/-! ## A step performed -/

/-- The station with a step's action performed, its condition not yet tested (R128). -/
def performed (n : Nat) (r : StepRecord) (s : State) : State :=
  { s with held := driveUp r.action s.held, bp := { s.bp with completed := n, sub := .condition } }

theorem performStep_driven (hup : s.bp.foundUp = false) : performStep n r s = testCondition r (performed n r s) := by
  unfold performStep performed
  rw [hup]
  rfl

theorem afterStep_ends (s : State) : afterStep (s, true) = runSteps ((stepTable s).drop s.bp.pointer) (s.bp.pointer + 1) s := rfl

/-- The performed step of the statement: what its condition leaves the program at (R128). -/
def programAfter (r : StepRecord) (s : State) : BringUp :=
  { s.bp with completed := s.bp.pointer,
              sub := if conditionMet r.cond s.inp then .dwell else .condition,
              stepTimer := if conditionMet r.cond s.inp then none else s.bp.stepTimer,
              dwell := if conditionMet r.cond s.inp then some r.dwell else s.bp.dwell }

theorem performStep_waits (hup : s.bp.foundUp = false) (hcond : conditionMet r.cond s.inp = false ∨ 0 < r.dwell) :
    performStep s.bp.pointer r s = ({ s with held := driveUp r.action s.held, bp := programAfter r s }, false) := by
  rw [performStep_driven hup]
  unfold programAfter
  cases hm : conditionMet r.cond s.inp with
  | false => exact testCondition_unmet (s := performed s.bp.pointer r s) hm
  | true => exact testCondition_met (s := performed s.bp.pointer r s) hm hup (by simpa [hm] using hcond)

theorem conditionMet_iff (c : StepCondition) (i : Inputs) : conditionMet c i = true ↔
    (c = .always ∨ (c = .ready ∧ i.payReady = true) ∨ ∃ n, c = .powerGood n ∧ i.railPg.getLsbD n.val = true) := by
  cases c <;> simp [conditionMet]

/-! ## The edges of STEP -/

/-- The station with the debounced level of STEP high, told by an edge (R127). -/
def edgeTaken (s : State) : State := { s with inp := { s.inp with stepLevel := true, stepSettled := true } }

theorem exec_stepEdge (s : State) : exec (.stepEdge true) s = answer s (takeEdge (edgeTaken s)) := rfl

theorem takeEdge_pace (hf : s.bp.prog = .forward) (hsub : s.bp.sub = .pace) (hr : currentStep s = some r) :
    takeEdge s = afterStep (performStep s.bp.pointer r s) := by
  unfold takeEdge
  rw [hf, hsub]
  dsimp only
  rw [hr]

theorem takeEdge_remembered (hf : s.bp.prog = .forward) (hsub : s.bp.sub ≠ .pace) : takeEdge s = { s with bp := { s.bp with edge := true } } := by
  unfold takeEdge
  rw [hf]
  cases h : s.bp.sub with
  | pace => exact absurd h hsub
  | condition | dwell => rfl

theorem takeEdge_discarded (hf : s.bp.prog ≠ .forward) : takeEdge s = s := by
  unfold takeEdge
  cases h : s.bp.prog with
  | forward => exact absurd h hf
  | off | up | teardown => rfl

end

/-- Settles O50. -/
theorem stepEdgePacesTheStep : Obligations.StepEdgePacesTheStep := by
  intro r s hs
  refine ⟨fun hf hsub hup hr hcond => ?paced, fun hf hsub => ?remembered, fun hf => ?discarded⟩
  case paced =>
    have hstep : takeEdge (edgeTaken s) = { edgeTaken s with held := driveUp r.action s.held, bp := programAfter r (edgeTaken s) } := by
      rw [takeEdge_pace (s := edgeTaken s) hf hsub hr, performStep_waits (s := edgeTaken s) hup hcond]
      rfl
    have hexec : exec (.stepEdge true) s = .next
        { s with bp := programAfter r (edgeTaken s), held := driveUp r.action s.held, inp := (edgeTaken s).inp } := by
      rw [exec_stepEdge, hstep]
      exact answer_of_program hs _ _ _
    refine ⟨_, hexec, conditionMet_iff _ _, rfl, fun m hm => ?_, fun hm => ?_, fun g hm => ?_, fun hm => ?_, fun hm => ?_, rfl⟩
    all_goals
      show driveUp r.action s.held = _
      rw [hm]
      rfl
  case remembered =>
    rw [exec_stepEdge, takeEdge_remembered (s := edgeTaken s) hf hsub]
    exact answer_of_program hs _ _ _
  case discarded =>
    rw [exec_stepEdge, takeEdge_discarded (s := edgeTaken s) hf]
    exact answer_of_program hs s.bp s.held _

end Sys2Proof.Machine

/-! The ends of conditions and dwells, and the step that begins behind them (R126, R128, R130, R138, O51). -/

namespace Sys2Proof.Machine

section
variable {r : StepRecord} {rest : List StepRecord} {n : Nat} {s : State}

/-! ## Steps that begin -/

/-- The program with a step begun (R126). -/
def stepBegun (n : Nat) (r : StepRecord) (bp : BringUp) : BringUp :=
  { bp with pointer := n, stepTimer := some r.timeout, dwell := none, foundUp := false, sub := .pace }

/-- A step that waits for no edge and is not found up is performed as it begins, a remembered edge consumed (R126, R127). -/
theorem beginStep_performed (hup : (s.bp.reconcile && stepIsUp r.action s.held) = false) (hp : r.paced = false ∨ s.bp.edge = true) :
    beginStep n r s = performStep n r { s with bp := { stepBegun n r s.bp with edge := s.bp.edge && !r.paced } } := by
  unfold beginStep stepBegun
  rw [hup]
  cases hpaced : r.paced with
  | false => simp
  | true =>
    have hedge : s.bp.edge = true := by simpa [hpaced] using hp
    simp [hedge]

/-- A step that a reconcile run finds up is neither paced nor driven: it counts as completed and tests its condition (R138). -/
theorem beginStep_foundUp (hrec : s.bp.reconcile = true) (hup : stepIsUp r.action s.held = true) :
    beginStep n r s = testCondition r
      { s with bp := { stepBegun n r s.bp with foundUp := true, completed := n, sub := .condition } } := by
  have hfound : (s.bp.reconcile && stepIsUp r.action s.held) = true := by rw [hrec, hup]; rfl
  unfold beginStep stepBegun performStep
  rw [hfound]
  rfl

theorem runSteps_cons_waits {x : State} (h : beginStep n r s = (x, false)) : runSteps (r :: rest) n s = x := by
  unfold runSteps
  rw [h]
  rfl

theorem runSteps_cons_ends {x : State} (h : beginStep n r s = (x, true)) : runSteps (r :: rest) n s = runSteps rest (n + 1) x := by
  conv_lhs => unfold runSteps
  rw [h]
  rfl

/-- A performed step waits for its condition (R128). -/
theorem runSteps_cons_condition (hup : (s.bp.reconcile && stepIsUp r.action s.held) = false) (hp : r.paced = false ∨ s.bp.edge = true)
    (hcond : conditionMet r.cond s.inp = false) : runSteps (r :: rest) n s =
      { s with held := driveUp r.action s.held,
               bp := { stepBegun n r s.bp with edge := s.bp.edge && !r.paced, completed := n, sub := .condition } } := by
  refine runSteps_cons_waits ?_
  rw [beginStep_performed hup hp, performStep_driven rfl]
  exact testCondition_unmet (s := performed n r { s with bp := { stepBegun n r s.bp with edge := s.bp.edge && !r.paced } }) hcond

/-- Or for its dwell, where its condition holds (R128, R130). -/
theorem runSteps_cons_dwell (hup : (s.bp.reconcile && stepIsUp r.action s.held) = false) (hp : r.paced = false ∨ s.bp.edge = true)
    (hcond : conditionMet r.cond s.inp = true) (hd : 0 < r.dwell) : runSteps (r :: rest) n s =
      { s with held := driveUp r.action s.held,
               bp := { stepBegun n r s.bp with edge := s.bp.edge && !r.paced, completed := n, sub := .dwell, stepTimer := none,
                                               dwell := some r.dwell } } := by
  refine runSteps_cons_waits ?_
  rw [beginStep_performed hup hp, performStep_driven rfl]
  exact testCondition_met (s := performed n r { s with bp := { stepBegun n r s.bp with edge := s.bp.edge && !r.paced } }) hcond rfl hd

/-! ## The commands -/

/-- The payload's answers as a change tells them (R128). -/
def answered (rails : BitVec 4) (ready : Bool) (s : State) : State := { s with inp := { s.inp with railPg := rails, payReady := ready } }

theorem exec_conditionInputChange {rails : BitVec 4} {ready : Bool} (hf : s.bp.prog = .forward) (hsub : s.bp.sub = .condition)
    (hr : currentStep s = some r) :
    exec (.conditionInputChange rails ready) s = answer s (afterStep (testCondition r (answered rails ready s))) := by
  refine congrArg (answer s) ((if_pos ⟨hf, hsub⟩).trans ?_)
  split
  · next q hq =>
    have hqr : some r = some q := hr.symm.trans hq
    cases hqr
    rfl
  · next hnone => exact absurd (hr.symm.trans hnone) nofun

/-- The end of a dwell (R130). -/
def dwellEnded (s : State) : State := { s with bp := { s.bp with dwell := none } }

theorem exec_dwellExpiry (hf : s.bp.prog = .forward) (hsub : s.bp.sub = .dwell) (hd : s.bp.dwell.isSome = true) :
    exec .dwellExpiry s = answer s (runSteps ((stepTable s).drop s.bp.pointer) (s.bp.pointer + 1) (dwellEnded s)) :=
  congrArg (answer s) (if_pos ⟨hf, hsub, hd⟩)

theorem drop_of_getElem? {α : Type} {l : List α} {i : Nat} {x : α} (h : l[i]? = some x) : l.drop i = x :: l.drop (i + 1) := by
  obtain ⟨hi, hx⟩ := List.getElem?_eq_some_iff.1 h
  rw [List.drop_eq_getElem_cons hi, hx]

/-- What an event's end reads of the state before it is its record's announcement alone. -/
theorem settle_congr {s' : State} (u : State) (h : SameRecord s s') : settle s u = settle s' u := by
  have hdue : standingDue s u = standingDue s' u := by
    unfold standingDue bidOpen
    rw [h.ownClaim, h.ae, h.request]
  unfold settle settlePeriodic settleLamp
  rw [hdue, h.silent, h.lampPattern]

theorem answer_congr {s' : State} (u : State) (h : SameRecord s s') : answer s u = answer s' u :=
  congrArg Host.Outcome.next (settle_congr u h)

/-- Both ways in which a step of a reconcile run ends with the next in the same event: a dwell's end, and the condition of a step found
up (R130, R138). -/
theorem exec_reconcile_next {c : Instr} {rails : BitVec 4} {ready : Bool} (hf : s.bp.prog = .forward)
    (hnext : (stepTable s)[s.bp.pointer]? = some r)
    (hc : c = .dwellExpiry ∧ s.bp.sub = .dwell ∧ s.bp.dwell.isSome = true ∧ rails = s.inp.railPg ∧ ready = s.inp.payReady
      ∨ c = .conditionInputChange rails ready ∧ s.bp.sub = .condition ∧ s.bp.foundUp = true
          ∧ ∃ q, currentStep s = some q ∧ conditionMet q.cond { s.inp with railPg := rails, payReady := ready } = true) :
    ∃ sub timer, exec c s = answer s (runSteps (r :: (stepTable s).drop (s.bp.pointer + 1)) (s.bp.pointer + 1)
      { answered rails ready s with bp := { s.bp with sub := sub, stepTimer := timer, dwell := none } }) := by
  rcases hc with ⟨rfl, hsub, hrun, rfl, rfl⟩ | ⟨rfl, hsub, hup, q, hq, hcond⟩
  · refine ⟨s.bp.sub, s.bp.stepTimer, ?_⟩
    rw [exec_dwellExpiry hf hsub hrun, drop_of_getElem? hnext]
    rfl
  · refine ⟨.dwell, none, ?_⟩
    rw [exec_conditionInputChange hf hsub hq, testCondition_ends (s := answered rails ready s) hcond (.inl hup), afterStep_ends]
    show answer s (runSteps ((stepTable s).drop s.bp.pointer) (s.bp.pointer + 1) _) = _
    rw [drop_of_getElem? hnext]
    rfl

end

/-- Settles O51. -/
theorem conditionsAndDwellsEndSteps : Obligations.ConditionsAndDwellsEndSteps := by
  intro c rails ready r s hs hf
  refine ⟨fun hup => ⟨fun hsub hr => ⟨fun hcond => ?unmet, fun hcond hd => ?met⟩, fun hsub hrun hnext hpaced hedge hrec => ?paced,
    fun hsub hrun hlast he hsource hstart hreq => ?last⟩, fun hrec hnext hc => ?reconcile⟩
  case unmet =>
    rw [exec_conditionInputChange hf hsub hr, testCondition_unmet (s := answered rails ready s) hcond]
    exact answer_of_program hs s.bp s.held _
  case met =>
    rw [exec_conditionInputChange hf hsub hr, testCondition_met (s := answered rails ready s) hcond hup hd]
    exact answer_of_program hs _ s.held _
  case paced =>
    rw [exec_dwellExpiry hf hsub hrun, drop_of_getElem? hnext,
      runSteps_paced (s := dwellEnded s) (by simp [dwellEnded, hrec]) hpaced hedge]
    refine (answer_of_program hs _ s.held s.inp).trans ?_
    rw [← hup]
    rfl
  case last =>
    obtain ⟨b, hb⟩ : ∃ b : State, b = { s with
        bp := { s.bp with prog := .up, pointer := (stepTable s).length, completed := (stepTable s).length, edge := false,
                          stepTimer := none, dwell := none } } := ⟨_, rfl⟩
    have hbs : b.ae = s.ae ∧ b.sli = s.sli ∧ b.sc = s.sc := by rw [hb]; exact ⟨rfl, rfl, rfl⟩
    obtain ⟨hbae, hbsli, hbsc⟩ := hbs
    have hexec : exec .dwellExpiry s = answer s (enterAdmitted b) := by
      rw [exec_dwellExpiry hf hsub hrun, hlast, List.drop_length]
      refine congrArg (answer s) ((if_pos (show (dwellEnded s).ae.engine = .bringup from he)).trans ?_)
      rw [hb]
      rfl
    have hstep : AdmittedStep allFlags b (enterAdmitted b) :=
      enterAdmitted_step (or_allFlags _) (or_allFlags _) (or_allFlags _) (by rw [hbae]; exact hsource)
    have hreqb : Requests b := hreq.of_engine (by rw [hbsc]) (by simp [hbae, he]) (by rw [hbsli])
    have hphase : announcedPhase b ≠ some .admitted := by simp [announcedPhase, hreqb.1, hbae, he, phaseOf]
    obtain ⟨u, hu⟩ : ∃ u, u = enterAdmitted b := ⟨_, rfl⟩
    rw [← hu] at hexec hstep
    refine ⟨settle s u, hexec, ?_, ?_, ?_, ?_, ?_, ?_, ?_, ?_, ?_, ?_, settle_outerKept (by rw [hstep.line, hbsli]) ?_⟩
    · rw [settle_ae]
      exact hstep.engine
    · rw [settle_bp, hstep.bp, hb, ← hlast]
    · refine flagSet_settle ?_
      rw [hu]
      exact enterAdmitted_phase (by rw [hbsc]; exact hstart) hphase
    · refine settle_standingKept s u ?_
      rw [hu]
      exact enterAdmitted_standing hreqb (by rw [hbae]; exact hsource) hphase
    · rw [settle_pp, hstep.pp, hb]
    · rw [settle_rc, hstep.rc, hb]
    · rw [settle_held, hstep.held, hb]
    · rw [settle_held, hstep.held, hb]
    · rw [settle_held, hstep.held, hb]
    · rw [settle_held, hstep.held, hb]
    · rw [hu]
      simp only [enterAdmitted_fs, enterAdmitted_sv, enterAdmitted_inp, enterAdmitted_sc, enterAdmitted_freeCount, enterAdmitted_pending]
      rw [hb]
      exact ⟨rfl, rfl, rfl, rfl, rfl, rfl⟩
  case reconcile =>
    obtain ⟨sub, timer, hexec⟩ := exec_reconcile_next hf hnext hc
    obtain ⟨x, hx⟩ : ∃ x : State, x = { answered rails ready s with bp := { s.bp with sub := sub, stepTimer := timer, dwell := none } } :=
      ⟨_, rfl⟩
    rw [← hx] at hexec
    have hxrec : x.bp.reconcile = true := by rw [hx]; exact hrec
    refine ⟨fun hfound hcond => ?foundWaits, fun hfound hcond => ?foundEnds, fun hdown hpaced hedge => ?edgeAwaited,
      fun hdown hpaced => ⟨fun hcond => ?driven, fun hcond hd => ?dwells⟩⟩
    case foundWaits =>
      rw [hexec, runSteps_cons_waits (x := { x with bp := { stepBegun (s.bp.pointer + 1) r x.bp with
        foundUp := true, completed := s.bp.pointer + 1, sub := .condition } })]
      · rw [hx]
        exact answer_of_program hs _ s.held _
      · rw [beginStep_foundUp hxrec (by rw [hx]; exact hfound)]
        exact testCondition_unmet (by rw [hx]; exact hcond)
    case foundEnds =>
      obtain ⟨y, hy⟩ : ∃ y : State, y = { answered rails ready s with bp := { stepBegun (s.bp.pointer + 1) r s.bp with
          foundUp := true, completed := s.bp.pointer + 1, sub := .condition } } := ⟨_, rfl⟩
      have hends : testCondition r y = ({ y with bp := { y.bp with sub := .dwell, stepTimer := none, dwell := none } }, true) :=
        testCondition_ends (by rw [hy]; exact hcond) (.inl (by rw [hy]))
      have hbegin : beginStep (s.bp.pointer + 1) r x = testCondition r y := by
        rw [beginStep_foundUp hxrec (by rw [hx]; exact hfound), hx, hy]
        rfl
      have hfoundState : exec (.conditionInputChange rails ready) y = answer y (afterStep (testCondition r y)) := by
        rw [exec_conditionInputChange (s := y) (by rw [hy]; exact hf) (by rw [hy]) (by rw [hy]; exact hnext), hy]
        rfl
      have hsame : SameRecord s y := by rw [hy]; exact ⟨rfl, rfl, rfl, .rfl, .rfl, rfl, rfl⟩
      have hgoal : exec c s = exec (.conditionInputChange rails ready) y := by
        rw [hexec, runSteps_cons_ends (hbegin.trans hends), hfoundState, hends, afterStep_ends, answer_congr _ hsame, hy]
        rfl
      rw [hgoal, hy]
      rfl
    case edgeAwaited =>
      rw [hexec, runSteps_paced (by rw [hxrec, hx]; exact hdown) hpaced (by rw [hx]; exact hedge), hx]
      exact answer_of_program hs _ s.held _
    case driven =>
      rw [hexec, runSteps_cons_condition (by rw [hxrec, hx]; exact hdown) (by rw [hx]; exact hpaced) (by rw [hx]; exact hcond), hx]
      exact answer_of_program hs _ _ _
    case dwells =>
      rw [hexec, runSteps_cons_dwell (by rw [hxrec, hx]; exact hdown) (by rw [hx]; exact hpaced) (by rw [hx]; exact hcond) hd, hx]
      exact answer_of_program hs _ _ _

end Sys2Proof.Machine

/-! Openings with the bulk node charged, and the discharges that begin with them (R94, R112, R117). -/

namespace Sys2Proof.Machine

section
variable {target : PathState} {s b : State} {exit : DischargeExit} {c : CountedFault}

/-- An opening with a gate on and the bulk node at 50 dV or more: the discharge begins, undischarged (R112, R117). -/
theorem openGates_charged (hg : gateOn s = true) (hv : 50 ≤ s.pp.vBulk) :
    (openGates target s).pp.path = target ∧ (openGates target s).pp.discharged = false ∧ (openGates target s).pp.discharge = some 2000
      ∧ (openGates target s).held = HeldOutputs.deasserted ∧ (openGates target s).bp = endedProgram s.bp
      ∧ (openGates target s).rc = openedRetire s.rc := by
  obtain ⟨hpath, hdis, htimer⟩ := openGates_discharge (target := target) hg
  have hcharged : ¬ s.pp.vBulk < 50 := by omega
  rw [if_neg hcharged] at hpath htimer
  refine ⟨hpath, by simp [hdis, hcharged], htimer, ?_, ?_, ?_⟩ <;> rw [openGates_of_gateOn target s hg]

theorem completeDischarge_charged (h : b.pp.discharged = false) : completeDischarge b = b := if_neg (fun hc => by simp [h] at hc)

theorem enterDischarging_charged (h : b.pp.discharged = false) : enterDischarging exit b = beginDischarging exit b :=
  completeDischarge_charged (by simp [h])

theorem retryRule_charged (h : b.pp.discharged = false) : retryRule c b = beginRetry c b := by
  refine completeDischarge_charged ?_
  unfold beginRetry
  rw [beginDischarging_pp]
  exact h

/-! ## The retry rule's record -/

theorem retryRecord_engine (limit : Nat) (ae : OwnRecord) : (retryRecord limit c ae).engine = ae.engine := by
  unfold retryRecord; split <;> rfl

theorem retryRecord_source (limit : Nat) (ae : OwnRecord) : (retryRecord limit c ae).source = ae.source := by
  unfold retryRecord; split <;> rfl

theorem retryRecord_bid (limit : Nat) (ae : OwnRecord) : (retryRecord limit c ae).bid = ae.bid := by
  unfold retryRecord; split <;> rfl

theorem retryRecord_cause (limit : Nat) (ae : OwnRecord) :
    (retryRecord limit c ae).cause = if ae.retryCount < limit then causeOf c else .retryExhausted := by
  unfold retryRecord; split <;> rfl

theorem retryRecord_retryCount (limit : Nat) (ae : OwnRecord) :
    (retryRecord limit c ae).retryCount = if ae.retryCount < limit then ae.retryCount + 1 else ae.retryCount := by
  unfold retryRecord; split <;> rfl

/-- The station that takes a counted fault, FAULT raised, before DISCHARGING (R94). -/
def faultCounted (c : CountedFault) (b : State) : State := raise .fault { b with ae := retryRecord (retryLimit b) c b.ae }

theorem beginRetry_eq (c : CountedFault) (b : State) :
    beginRetry c b = beginDischarging (retryExit (retryLimit b) b.ae) (faultCounted c b) := rfl

/-- The retry rule's record, no closed latch turning back a latch retire's discharge (R94, R152). -/
theorem beginRetry_ae (h : b.ae.source = .latch → b.rc.latchOpen = true) :
    (beginRetry c b).ae = dischargingRecord (retryExit (retryLimit b) b.ae) (retryRecord (retryLimit b) c b.ae) := by
  rw [beginRetry_eq, beginDischarging_ae]
  refine discharged_of_latch (fun hs => h ?_)
  rw [← hs]
  exact (retryRecord_source _ _).symm

theorem beginRetry_fault (c : CountedFault) (b : State) : flagSet .fault (beginRetry c b) = true :=
  (beginDischarging_grows _ _).flagSet_of_set (flagSet_raise_self .fault _)

theorem Requests.faultCounted (h : Requests b) (he : b.ae.engine ≠ .stopped) : Requests (faultCounted c b) :=
  h.of_engine rfl (by
    show (retryRecord (retryLimit b) c b.ae).engine ≠ .stopped
    rw [retryRecord_engine]
    exact he) rfl

end

end Sys2Proof.Machine

/-! The step timeout, the teardown and its completion (R122, R129, R131 to R134, O52). -/

namespace Sys2Proof.Machine

section
variable {r : StepRecord} {n : Nat} {s : State}

/-! ## The undoing of a step -/

theorem undoFrom_waits (hr : (stepTable s)[n]? = some r) (ht : 0 < r.teardown) :
    undoFrom (n + 1) s = { s with held := driveDown r.action s.held, bp := undoing (n + 1) r.teardown s.bp } := by
  unfold undoFrom
  rw [hr]
  exact if_neg (Nat.pos_iff_ne_zero.1 ht)

/-- A latch driven up stands up, and driven down stands down (R122). -/
theorem stepIsUp_drive (a : StepAction) (h : HeldOutputs) :
    stepIsUp a (driveUp a h) = true ∧ (a ≠ .note → stepIsUp a (driveDown a h) = false) := by
  cases a with
  | note => exact ⟨rfl, fun h => absurd rfl h⟩
  | releaseReset | attachClock => exact ⟨rfl, fun _ => rfl⟩
  | railOn k =>
    simp only [stepIsUp, driveUp, driveDown, BitVec.getLsbD_or, BitVec.getLsbD_and, BitVec.getLsbD_not, BitVec.getLsbD_shiftLeft]
    simp
  | attachLane k =>
    simp only [stepIsUp, driveUp, driveDown, BitVec.getLsbD_or, BitVec.getLsbD_and, BitVec.getLsbD_not, BitVec.getLsbD_shiftLeft]
    have hk : k.val < 2 := k.isLt
    simp [hk]

/-! ## The completion of a teardown -/

/-- The path opened at a teardown's end from a state that holds the blade, the bulk node charged (R134, R87, R98). -/
theorem teardownComplete_charged (hpath : s.pp.path = .closed) (hv : 50 ≤ s.pp.vBulk) (hb : holdsBlade s.ae.engine = true) :
    teardownComplete s = if s.ae.bringupFault then beginRetry .bringupTimeout (openGates .opened s)
      else beginDischarging .released (openGates .opened s) := by
  have hg : gateOn s = true := by simp [gateOn, hpath]
  have hdis := (openGates_charged (target := .opened) hg hv).2.1
  unfold teardownComplete
  rw [if_pos hg, if_pos hb, retryRule_charged hdis, enterDischarging_charged hdis]

/-! ## The commands -/

theorem exec_bringupTimeout (hf : s.bp.prog = .forward) (hsub : s.bp.sub ≠ .dwell) (ht : s.bp.stepTimer = some 0) :
    exec .bringupTimeout s = answer s (undoFrom s.bp.completed (timingOut s)) := by
  refine congrArg (answer s) ((if_pos ⟨hf, hsub, ?_⟩).trans (bringupTimeout_body s hf))
  simp [ranOut, ht]

theorem exec_bringupTimeout_none (hs : Settled s) (h : ¬ (s.bp.prog = .forward ∧ s.bp.sub ≠ .dwell ∧ s.bp.stepTimer = some 0)) :
    exec .bringupTimeout s = .next s := by
  refine (congrArg (answer s) (if_neg ?_)).trans (answer_self hs)
  simpa [ranOut] using h

theorem exec_teardownDwellExpiry (hf : s.bp.prog = .teardown) (hd : s.bp.teardown.isSome = true) :
    exec .teardownDwellExpiry s = answer s (undoFrom (s.bp.pointer - 1) { s with bp := { s.bp with teardown := none } }) :=
  congrArg (answer s) (if_pos ⟨hf, hd⟩)

/-- An event that moves the program, the held outputs and the bring-up fault is announced by nothing at its end. -/
theorem answer_of_faulted (hs : Settled s) (bp : BringUp) (held : HeldOutputs) (fault : Bool) :
    answer s { s with bp := bp, held := held, ae := { s.ae with bringupFault := fault } } =
      .next { s with bp := bp, held := held, ae := { s.ae with bringupFault := fault } } :=
  congrArg Host.Outcome.next (SameShown.settle
    (u := { s with bp := bp, held := held, ae := { s.ae with bringupFault := fault } })
    ⟨rfl, rfl, rfl, rfl, rfl, rfl, rfl, rfl, rfl, ⟨rfl, rfl⟩, rfl, rfl⟩ hs rfl rfl)

/-- The step behind one whose dwell is 0 ms begins in its event, and waits for its edge (R126, R130). -/
theorem afterStep_paced {q : StepRecord} (hrec : s.bp.reconcile = false) (hedge : s.bp.edge = false)
    (hq : (stepTable s)[s.bp.pointer]? = some q) (hpaced : q.paced = true) :
    afterStep (s, true) = { s with
      bp := { s.bp with pointer := s.bp.pointer + 1, stepTimer := some q.timeout, dwell := none, foundUp := false, sub := .pace } } := by
  rw [afterStep_ends, drop_of_getElem? hq]
  exact runSteps_paced (by simp [hrec]) hpaced hedge

end

/-- Settles O52. -/
theorem timeoutAndTeardownUndoSteps : Obligations.TimeoutAndTeardownUndoSteps := by
  intro n r q rails ready s hs
  refine ⟨fun hf hsub htimer hdone hr ht => ?timeout, exec_bringupTimeout_none hs,
    fun hf hup hrec hedge hr hdwell hq hpaced htime => ⟨fun hsub hcond => ?condition, fun hsub hcond => ?edge⟩,
    fun hf hd hpointer hr ht => ?undone, stepIsUp_drive r.action s.held, fun hf hd hpointer hpath hv hstart hb hlatch => ?completed⟩
  case timeout =>
    rw [exec_bringupTimeout hf hsub htimer, hdone, undoFrom_waits (s := timingOut s) hr ht]
    refine (answer_of_faulted hs _ _ true).trans ?_
    simp [timingOut, undoing, Nat.pos_iff_ne_zero.1 ht]
  case condition =>
    obtain ⟨t, ht⟩ : ∃ t : State, t = { answered rails ready s with
      bp := { s.bp with sub := .pace, pointer := s.bp.pointer + 1, stepTimer := some q.timeout, dwell := none } } := ⟨_, rfl⟩
    have hexec : exec (.conditionInputChange rails ready) s = .next t := by
      rw [exec_conditionInputChange hf hsub hr, testCondition_ends (s := answered rails ready s) hcond (.inr hdwell)]
      refine (congrArg (answer s) (afterStep_paced
        (s := { answered rails ready s with bp := { s.bp with sub := .dwell, stepTimer := none, dwell := none } })
        hrec hedge hq hpaced)).trans ?_
      refine (answer_of_program hs _ s.held _).trans ?_
      rw [ht, ← hup]
      rfl
    rw [ht] at hexec
    refine ⟨hexec, exec_bringupTimeout_none hs ?_⟩
    rintro ⟨-, -, htimer⟩
    have hzero : q.timeout = 0 := Option.some.inj htimer
    omega
  case edge =>
    obtain ⟨t, ht⟩ : ∃ t : State, t = { performed s.bp.pointer r (edgeTaken s) with
      bp := { s.bp with sub := .pace, pointer := s.bp.pointer + 1, stepTimer := some q.timeout, dwell := none,
                        completed := s.bp.pointer } } := ⟨_, rfl⟩
    have hexec : exec (.stepEdge true) s = .next t := by
      rw [exec_stepEdge, takeEdge_pace (s := edgeTaken s) hf hsub hr, performStep_driven (s := edgeTaken s) hup,
        testCondition_ends (s := performed (edgeTaken s).bp.pointer r (edgeTaken s)) hcond (.inr hdwell)]
      refine (congrArg (answer s) (afterStep_paced (s := { performed s.bp.pointer r (edgeTaken s) with
        bp := { (performed s.bp.pointer r (edgeTaken s)).bp with sub := .dwell, stepTimer := none, dwell := none } })
        hrec hedge hq hpaced)).trans ?_
      refine (answer_of_program hs _ _ _).trans ?_
      rw [ht, ← hup]
      rfl
    rw [ht] at hexec
    refine ⟨hexec, exec_bringupTimeout_none hs ?_⟩
    rintro ⟨-, -, htimer⟩
    have hzero : q.timeout = 0 := Option.some.inj htimer
    omega
  case undone =>
    rw [exec_teardownDwellExpiry hf hd, hpointer, show n + 2 - 1 = n + 1 from rfl, undoFrom_waits (s := { s with bp := { s.bp with teardown := none } }) hr ht]
    refine (answer_of_program hs _ _ s.inp).trans ?_
    simp [undoing, Nat.pos_iff_ne_zero.1 ht, hf]
  case completed =>
    have hg : gateOn s = true := by simp [gateOn, hpath]
    obtain ⟨b, hbs⟩ : ∃ b : State, b = { s with bp := { s.bp with teardown := none } } := ⟨_, rfl⟩
    have hframe : b.ae = s.ae ∧ b.pp = s.pp ∧ b.rc = s.rc ∧ b.sli = s.sli ∧ b.lpi = s.lpi := by
      rw [hbs]
      exact ⟨rfl, rfl, rfl, rfl, rfl⟩
    obtain ⟨hbae, hbpp, hbrc, hbsli, hblpi⟩ := hframe
    have hbg : gateOn b = true := by rw [hbs]; exact hg
    obtain ⟨g, hgs⟩ : ∃ g, g = openGates .opened b := ⟨_, rfl⟩
    obtain ⟨hgpath, -, -, hgheld, hgbp, hgrc⟩ := openGates_charged (target := .opened) hbg (by rw [hbpp]; exact hv)
    rw [← hgs] at hgpath hgheld hgbp hgrc
    have hgsource : g.ae.source = s.ae.source := by rw [hgs, openGates_source, hbae]
    have hgcount : g.ae.retryCount = s.ae.retryCount := by rw [hgs, openGates_retryCount, hbae]
    have hglatch : g.ae.source = .latch → g.rc.latchOpen = true := fun h => by
      rw [hgrc, hbrc]
      exact hlatch (hgsource ▸ h)
    have hexec : exec .teardownDwellExpiry s = answer s (if s.ae.bringupFault then beginRetry .bringupTimeout g
        else beginDischarging .released g) := by
      rw [exec_teardownDwellExpiry hf hd, hpointer, ← hbs]
      refine congrArg (answer s) ?_
      show teardownComplete b = _
      rw [teardownComplete_charged (by rw [hbpp]; exact hpath) (by rw [hbpp]; exact hv) (by rw [hbae]; exact hb), hbae, hgs]
    have houter (u : State) (hu : u = beginRetry .bringupTimeout g ∨ u = beginDischarging .released g) : OuterKept s (settle s u) := by
      rcases hu with rfl | rfl
      · refine settle_outerKept ?_ ?_
        · rw [beginRetry_eq, (beginDischarging_quiet _ _).1, hgs, ← hbsli]
          exact congrArg lineFrame (openGates_sli .opened b)
        · simp [hgs, hbs, beginRetry_eq, faultCounted]
      · refine settle_outerKept ?_ ?_
        · rw [(beginDischarging_quiet _ _).1, hgs, ← hbsli]
          exact congrArg lineFrame (openGates_sli .opened b)
        · simp [hgs, hbs]
    cases hfault : s.ae.bringupFault with
    | false =>
      rw [hfault, if_neg Bool.false_ne_true] at hexec
      have hae : (beginDischarging .released g).ae = dischargingRecord .released g.ae := by
        rw [beginDischarging_ae]
        exact discharged_of_latch hglatch
      refine ⟨_, hexec, by rw [settle_ae, hae]; rfl, ?_, ?_, ?_, by rw [settle_ae, hae]; exact hgsource, fun _ => ⟨?_, ?_, ?_⟩, nofun,
        houter _ (.inr rfl)⟩
      · rw [settle_pp, beginDischarging_pp, hgpath]
      · rw [settle_held, beginDischarging_held, hgheld]
      · rw [settle_bp, beginDischarging_bp, hgbp]
        rfl
      · rw [settle_ae, hae]
        rfl
      · rw [settle_ae, hae]
        exact hgcount
      · rw [flagSet_settle_of_ne (by decide), (beginDischarging_within (m := flagWord .phase) (by decide) _ _).flag_eq (by decide), hgs]
        unfold flagSet
        rw [openGates_lpi, hblpi]
    | true =>
      rw [hfault, if_pos rfl] at hexec
      have hae := beginRetry_ae (c := .bringupTimeout) hglatch
      have hlimit : retryLimit g = retryLimit s := by
        unfold retryLimit
        rw [hgs, openGates_sc, hbs]
      refine ⟨_, hexec, by rw [settle_ae, hae]; rfl, ?_, ?_, ?_, ?_, nofun, fun _ => ⟨?_, ?_⟩, houter _ (.inl rfl)⟩
      · rw [settle_pp, beginRetry_eq, beginDischarging_pp]
        exact hgpath
      · rw [settle_held, beginRetry_eq, beginDischarging_held]
        exact hgheld
      · rw [settle_bp, beginRetry_eq, beginDischarging_bp]
        exact congrArg BringUp.prog hgbp
      · rw [settle_ae, hae, ← hgsource]
        exact retryRecord_source _ _
      · exact flagSet_settle (beginRetry_fault _ _)
      · rw [settle_ae, hae, ← hgcount, ← hlimit]
        exact retryRecord_cause _ _

end Sys2Proof.Machine

/-! The counted faults of the power path (R94, R106, R107, R109, R110, R112, O47). -/

namespace Sys2Proof.Machine

section
variable {s b : State} {v i : Nat} {target : PathState}

/-- A discharge just begun stands at a sample's end where the bulk node is charged (R117). -/
theorem updateDischarged_charged (hg : gateOn b = false) (hv : 50 ≤ b.pp.vBulk) (hd : b.pp.discharged = false) : updateDischarged b = b := by
  rw [updateDischarged_above hg hv, ← hd]

/-- The failure of an attempt in POWERING with the bulk node charged (R86, R106, R107). -/
theorem failAttempt_charged (c : CountedFault) (hg : gateOn b = true) (hv : 50 ≤ b.pp.vBulk) (he : b.ae.engine = .powering) :
    failAttempt c b = beginRetry c (openGates .opened b) := by
  refine (if_pos (show (openGates .opened b).ae.engine = .powering by rw [openGates_engine]; exact he)).trans ?_
  exact retryRule_charged (openGates_charged hg hv).2.1

/-- A trip with a state of the engine's own and the bulk node charged (R110). -/
theorem trip_charged (hg : gateOn b = true) (hv : 50 ≤ b.pp.vBulk) (he : b.ae.engine ≠ .none) :
    trip b = beginRetry .trip (openGates .tripped b) := by
  refine (if_neg (show (openGates .tripped b).ae.engine ≠ .none by rw [openGates_engine]; exact he)).trans ?_
  exact retryRule_charged (openGates_charged hg hv).2.1

/-- The end of the sample at which the path opened for a counted fault. -/
theorem updateDischarged_beginRetry (c : CountedFault) (ht : target = .opened ∨ target = .tripped) (hg : gateOn b = true)
    (hv : 50 ≤ b.pp.vBulk) : updateDischarged (beginRetry c (openGates target b)) = beginRetry c (openGates target b) := by
  obtain ⟨hpath, hdis, -⟩ := openGates_charged (target := target) hg hv
  have hpp : (beginRetry c (openGates target b)).pp = (openGates target b).pp := by
    rw [beginRetry_eq, beginDischarging_pp]
    rfl
  refine updateDischarged_charged (gateOn_off ?_) ?_ ?_
  · rw [hpp, hpath]
    exact ht
  · rw [hpp, openGates_of_gateOn target b hg]
    exact hv
  · rw [hpp]
    exact hdis

theorem reading_charged (hv : 50 ≤ v) : 50 ≤ reading v := by
  unfold reading
  omega

/-- A sample that trips, in CLOSED with a state of the engine's own (R109, R110). -/
theorem pathSampleEvent_trips (hpath : s.pp.path = .closed) (he : s.ae.engine ≠ .none) (hv : 50 ≤ v)
    (htrips : sampleTrips (sampledPath v i s).pp = true) :
    pathSampleEvent v i s = beginRetry .trip (openGates .tripped (sampledPath v i s)) := by
  have hg : gateOn (sampledPath v i s) = true := by simp [gateOn, sampledPath, hpath]
  have hbulk : 50 ≤ (sampledPath v i s).pp.vBulk := reading_charged hv
  have hsample : closedSample (sampledPath v i s) = trip (sampledPath v i s) := if_pos htrips
  rw [pathSampleEvent_closed hpath, hsample, trip_charged hg hbulk he, updateDischarged_beginRetry .trip (.inr rfl) hg hbulk]

/-- A sample at the deadline that shows no completion, in POWERING (R105, R106). -/
theorem pathSampleEvent_timeout (hpath : s.pp.path = .precharge) (he : s.ae.engine = .powering) (hv : 50 ≤ v)
    (hfar : reading v + 20 < s.fs.vF) (helapsed : s.pp.elapsed = s.pp.deadline) :
    ∃ b : State, pathSampleEvent v i s = beginRetry .prechargeTimeout (openGates .opened b) ∧ b = { s with pp := b.pp }
      ∧ gateOn b = true ∧ 50 ≤ b.pp.vBulk := by
  obtain ⟨b, hb⟩ : ∃ b : State, b = { sampledPath v i s with pp := prechargeAdvance s.fs.vF (sampledPath v i s).pp } := ⟨_, rfl⟩
  have hbpp : b.pp.path = .precharge ∧ b.pp.vBulk = reading v ∧ b.pp.deadline = s.pp.deadline := by
    rw [hb]
    exact ⟨hpath, rfl, rfl⟩
  obtain ⟨hbpath, hbulk, hdeadline⟩ := hbpp
  have hreached : b.pp.deadline ≤ b.pp.elapsed := by
    rw [hdeadline, hb]
    show s.pp.deadline ≤ if _ then min (s.pp.elapsed + 1) s.pp.deadline else s.pp.elapsed
    rw [helapsed]
    split
    · exact Nat.le_min.2 ⟨Nat.le_succ _, le_refl _⟩
    · exact le_refl _
  have hg : gateOn b = true := by simp [gateOn, hbpath]
  have hcharged : 50 ≤ b.pp.vBulk := by rw [hbulk]; exact reading_charged hv
  have hincomplete : prechargeComplete b = false := by
    have hvf : b.fs.vF = s.fs.vF := by rw [hb]; rfl
    have hle : ¬ s.fs.vF ≤ reading v + 20 := by omega
    simp [prechargeComplete, hbulk, hvf, hle]
  have hsample : prechargeSample (sampledPath v i s) = failAttempt .prechargeTimeout b := by
    rw [hb] at hincomplete hreached ⊢
    exact (if_neg (fun h => Bool.false_ne_true (hincomplete.symm.trans h))).trans (if_pos hreached)
  refine ⟨b, ?_, by rw [hb]; rfl, hg, hcharged⟩
  rw [pathSampleEvent_precharge hpath, hsample, failAttempt_charged _ hg hcharged (by rw [hb]; exact he),
    updateDischarged_beginRetry _ (.inl rfl) hg hcharged]

/-- The four events that make a counted fault of the power path, each as the retry rule behind its opening. -/
theorem exec_counted {c : Instr} {fault : CountedFault} (hv : 50 ≤ v) (hbulk : 50 ≤ s.pp.vBulk)
    (hc : c = .prechargeTimeout v i ∧ s.pp.path = .precharge ∧ s.ae.engine = .powering ∧ min v 1023 + 20 < s.fs.vF
        ∧ fault = .prechargeTimeout
      ∨ c = .closingExpiry ∧ s.pp.path = .closing ∧ s.ae.engine = .powering ∧ s.pp.closing.isSome = true
          ∧ s.pp.vBulk + 10 < s.fs.vF ∧ fault = .closeFail
      ∨ c = .slowTrip v i ∧ s.pp.path = .closed ∧ s.ae.engine ≠ .none ∧ s.pp.iTrip < min i 1023 ∧ fault = .trip
      ∨ c = .pathSample v i ∧ s.pp.path = .closed ∧ s.ae.engine ≠ .none ∧ min (2 * s.pp.iTrip) 1023 < min i 1023
          ∧ fault = .trip) :
    ∃ b : State, exec c s = answer s (beginRetry fault (openGates (if fault = .trip then .tripped else .opened) b))
      ∧ b = { s with pp := b.pp } ∧ gateOn b = true ∧ 50 ≤ b.pp.vBulk := by
  rcases hc with ⟨rfl, hpath, he, hfar, rfl⟩ | ⟨rfl, hpath, he, hrun, hfar, rfl⟩ | ⟨rfl, hpath, he, hload, rfl⟩ | ⟨rfl, hpath, he, hload, rfl⟩
  · obtain ⟨x, hx⟩ : ∃ x : State, x = { s with pp := { s.pp with elapsed := s.pp.deadline } } := ⟨_, rfl⟩
    have hexec : exec (.prechargeTimeout v i) s = answer s (pathSampleEvent v i x) := by
      rw [hx]
      exact congrArg (fun u => answer s (pathSampleEvent v i u)) (if_pos hpath)
    obtain ⟨b, hb, hframe, hg, hcharged⟩ := pathSampleEvent_timeout (s := x) (i := i) (by rw [hx]; exact hpath) (by rw [hx]; exact he) hv
      (by rw [hx]; exact hfar) (by rw [hx])
    refine ⟨b, by rw [hexec, hb]; rfl, ?_, hg, hcharged⟩
    rw [hframe, hx]
  · have hg : gateOn s = true := by simp [gateOn, hpath]
    refine ⟨s, ?_, rfl, hg, hbulk⟩
    refine congrArg (answer s) ((if_pos ⟨hpath, hrun⟩).trans ((if_neg (by omega)).trans ?_))
    exact failAttempt_charged .closeFail hg hbulk he
  · obtain ⟨x, hx⟩ : ∃ x : State, x = { s with pp := { s.pp with slowCount := 3 } } := ⟨_, rfl⟩
    have hexec : exec (.slowTrip v i) s = answer s (pathSampleEvent v i x) := by
      rw [hx]
      exact congrArg (fun u => answer s (pathSampleEvent v i u)) (if_pos hpath)
    have htrips : sampleTrips (sampledPath v i x).pp = true := by
      have hover : s.pp.iTrip < reading i := hload
      rw [hx]
      simp [sampleTrips, slowCountAfter, sampledPath, hover]
    refine ⟨sampledPath v i x, ?_, by rw [hx]; rfl, by rw [hx]; simp [gateOn, sampledPath, hpath], reading_charged hv⟩
    rw [hexec, pathSampleEvent_trips (by rw [hx]; exact hpath) (by rw [hx]; exact he) hv htrips]
    rfl
  · have htrips : sampleTrips (sampledPath v i s).pp = true := by
      have hover : fastThreshold s.pp.iTrip < reading i := hload
      simp [sampleTrips, sampledPath, hover]
    refine ⟨sampledPath v i s, ?_, rfl, by simp [gateOn, sampledPath, hpath], reading_charged hv⟩
    rw [exec_pathSample, pathSampleEvent_trips hpath he hv htrips]
    rfl

end

/-- Settles O47. -/
theorem countedFaultsTakeTheRetryRule : Obligations.CountedFaultsTakeTheRetryRule := by
  intro p v i c fault s hp hstart hs hr hlatch hv hbulk hc
  obtain ⟨b, hexec, hb, hg, hcharged⟩ := exec_counted hv hbulk hc
  obtain ⟨target, htarget⟩ : ∃ target : PathState, target = if fault = .trip then .tripped else .opened := ⟨_, rfl⟩
  rw [← htarget] at hexec ⊢
  obtain ⟨g, hgs⟩ : ∃ g, g = openGates target b := ⟨_, rfl⟩
  obtain ⟨hgpath, hgdis, hgtimer, hgheld, hgbp, hgrc⟩ := openGates_charged (target := target) hg hcharged
  rw [← hgs] at hexec hgpath hgdis hgtimer hgheld hgbp hgrc
  have hframe : b.ae = s.ae ∧ b.bp = s.bp ∧ b.rc = s.rc ∧ b.sc = s.sc := by
    rw [hb]
    exact ⟨rfl, rfl, rfl, rfl⟩
  obtain ⟨hbae, hbbp, hbrc, hbsc⟩ := hframe
  have hgsli : g.sli = s.sli := by rw [hgs, openGates_sli, hb]
  have hglpi : g.lpi = s.lpi := by rw [hgs, openGates_lpi, hb]
  have hgsc : g.sc = s.sc := by rw [hgs, openGates_sc, hbsc]
  have hgengine : g.ae.engine = s.ae.engine := by rw [hgs, openGates_engine, hbae]
  have hgsource : g.ae.source = s.ae.source := by rw [hgs, openGates_source, hbae]
  have hgcount : g.ae.retryCount = s.ae.retryCount := by rw [hgs, openGates_retryCount, hbae]
  have hgbid : g.ae.bid = s.ae.bid := by rw [hgs, openGates_bid, hbae]
  have hlimit : retryLimit g = p.retryLimit := by
    unfold retryLimit
    rw [hgsc, hp]
  obtain ⟨f, hf⟩ : ∃ f, f = faultCounted fault g := ⟨_, rfl⟩
  have hfae : f.ae = retryRecord p.retryLimit fault g.ae := by rw [hf, ← hlimit]; rfl
  have hfsli : f.sli = s.sli := by rw [hf]; exact hgsli
  have hfreq : Requests f := by
    refine ⟨?_, by rw [hfsli]; exact hr.2⟩
    have hfsc : f.sc.start = .done := by rw [hf]; exact hgsc ▸ hstart
    have hloud : silentCause f.ae.cause = false := by
      rw [hfae, retryRecord_cause]
      split
      · cases fault <;> rfl
      · rfl
    simp [silent, hfsc, hloud]
  obtain ⟨u, hu⟩ : ∃ u, u = beginRetry fault g := ⟨_, rfl⟩
  have hubegin : u = beginDischarging (retryExit (retryLimit g) g.ae) f := by rw [hu, hf]; rfl
  rw [← hu] at hexec
  have huae : u.ae = dischargingRecord (retryExit p.retryLimit g.ae) (retryRecord p.retryLimit fault g.ae) := by
    rw [hu, ← hlimit]
    refine beginRetry_ae (fun h => ?_)
    rw [hgrc, hbrc]
    exact hlatch (hgsource ▸ h)
  have hexit : retryExit p.retryLimit g.ae = if s.ae.source ≠ .none then .released
      else if s.ae.retryCount < p.retryLimit then .cooldown else .stopped := by
    unfold retryExit
    rw [hgsource, hgcount]
  have hport : PortWithin (flagWord .fault ||| flagWord .phase ||| flagWord .line) s (settle s u) := by
    refine PortWithin.trans (t := g) (.of_lpi hglpi) (PortWithin.trans (t := f) ?_ (PortWithin.trans (t := u) ?_ (settle_within (by decide) s u)))
    · rw [hf]
      exact raise_within (by decide) { g with ae := retryRecord (retryLimit g) fault g.ae }
    · rw [hubegin]
      exact beginDischarging_within (by decide) _ _
  have hphase : phaseOf s.ae.engine ≠ some .stopped → u = announced { closeBid f with ae := discharged (retryExit (retryLimit g) g.ae) f } := by
    intro hne
    rw [hubegin]
    refine beginDischarging_announced hfreq ?_
    unfold announcedPhase
    rw [hfreq.1, hfae, retryRecord_engine, hgengine]
    exact hne
  refine ⟨settle s u, hexec, ?_, ?_, ?_, fun hspent => ?_, ?_, ?_, ?_, ?_, ?_, ?_, ?_, ?_, ?_, ?_, ?_, ?_, fun hne => ⟨?_, ?_⟩, hport.1, hport.2,
    settle_outerKept ?_ ?_⟩
  · rw [settle_ae, huae]
    rfl
  · rw [settle_ae, huae, ← hgcount]
    exact retryRecord_retryCount _ _
  · rw [settle_ae, huae, ← hgcount]
    exact retryRecord_cause _ _
  · rw [settle_ae, huae]
    show (retryRecord p.retryLimit fault g.ae).subcause = some fault
    unfold retryRecord
    rw [if_neg (by omega)]
  · rw [settle_ae, huae, ← hexit]
    rfl
  · rw [settle_ae, huae]
    rfl
  · rw [settle_ae, huae, ← hgsource]
    exact retryRecord_source _ _
  · refine ownClaim_claimless ?_
    rw [settle_ae, huae]
    rfl
  · rw [isQueued_settle_ne (by decide), hubegin, isQueued_bid_beginDischarging hfreq, hfae, retryRecord_bid, hgbid, hfsli]
  · rw [settle_pp, hubegin, beginDischarging_pp, hf]
    exact hgpath
  · rw [settle_pp, hubegin, beginDischarging_pp, hf]
    exact hgtimer
  · rw [settle_pp, hubegin, beginDischarging_pp, hf]
    exact hgdis
  · rw [settle_held, hubegin, beginDischarging_held, hf]
    exact hgheld
  · rw [settle_bp, hubegin, beginDischarging_bp, hf]
    exact congrArg BringUp.prog hgbp
  · rw [settle_bp, hubegin, beginDischarging_bp, hf]
    exact (congrArg BringUp.timedOut hgbp).trans (by rw [hbbp]; rfl)
  · exact flagSet_settle (hu ▸ beginRetry_fault _ _)
  · exact flagSet_settle (hphase hne ▸ announced_flags _)
  · exact settle_standingKept s u (hphase hne ▸ announced_standing _)
  · rw [hubegin, (beginDischarging_quiet _ _).1, hfsli]
  · rw [hubegin]
    simp only [beginDischarging_fs, beginDischarging_sv, beginDischarging_inp, beginDischarging_sc, beginDischarging_freeCount,
      beginDischarging_pending, hf]
    have hrest : b.fs = s.fs ∧ b.sv = s.sv ∧ b.inp = s.inp ∧ b.freeCount = s.freeCount ∧ b.pending = s.pending := by
      rw [hb]
      exact ⟨rfl, rfl, rfl, rfl, rfl⟩
    simp [faultCounted, hgs, hrest, hbsc]

end Sys2Proof.Machine

/-! The claim voltage through the engine's operations, and the taking of a feed change (R49, R58). -/

namespace Sys2Proof.Machine

/-! ## No operation but a feed change forms the claim voltage -/

theorem closeBid_vC (s : State) : (closeBid s).ae.vC = s.ae.vC := by
  rw [closeBid_ae]
  split <;> rfl

theorem evaluateWaiting_vC (s : State) : (evaluateWaiting s).ae.vC = s.ae.vC := by
  unfold evaluateWaiting
  split
  · split
    · split
      · rw [enterBidding_ae]
        rfl
      · rw [setReason_ae]
    · rfl
  · rfl

theorem enterWaiting_vC (s : State) : (enterWaiting s).ae.vC = s.ae.vC := by
  rw [enterWaiting_eq, evaluateWaiting_vC, announceFrom_ae]
  rfl

theorem discharged_vC (exit : DischargeExit) (s : State) : (discharged exit s).vC = s.ae.vC := by
  unfold discharged latchReturn
  split <;> rfl

theorem completeDischarge_vC (s : State) : (completeDischarge s).ae.vC = s.ae.vC := by
  unfold completeDischarge
  split
  · split
    · rfl
    · exact enterWaiting_vC s
    all_goals rw [announceFrom_ae]
  · rfl

theorem enterDischarging_vC (exit : DischargeExit) (s : State) : (enterDischarging exit s).ae.vC = s.ae.vC := by
  unfold enterDischarging
  rw [completeDischarge_vC, beginDischarging_ae, discharged_vC]

theorem retryRule_vC (c : CountedFault) (s : State) : (retryRule c s).ae.vC = s.ae.vC := by
  unfold retryRule
  rw [completeDischarge_vC, beginRetry_eq, beginDischarging_ae, discharged_vC]
  show (retryRecord (retryLimit s) c s.ae).vC = s.ae.vC
  unfold retryRecord
  split <;> rfl

theorem openGates_vC (target : PathState) (s : State) : (openGates target s).ae.vC = s.ae.vC := by
  rw [openGates_ae]
  unfold openedRecord
  split
  · split <;> rfl
  · rfl

theorem teardownComplete_vC (s : State) : (teardownComplete s).ae.vC = s.ae.vC := by
  unfold teardownComplete
  dsimp only
  split
  · split
    · split
      · rw [retryRule_vC, openGates_vC]
      · rw [enterDischarging_vC, openGates_vC]
    · exact openGates_vC _ s
  · rfl

theorem undoFrom_vC (n : Nat) (s : State) : (undoFrom n s).ae.vC = s.ae.vC := by
  induction n generalizing s with
  | zero => exact teardownComplete_vC s
  | succ n ih =>
    unfold undoFrom
    split
    · exact ih s
    · dsimp only
      split
      · exact ih _
      · rfl

theorem teardownCommand_vC (s : State) : (teardownCommand s).ae.vC = s.ae.vC := by
  unfold teardownCommand
  split
  · exact teardownComplete_vC s
  · exact undoFrom_vC _ _
  · exact undoFrom_vC _ _
  · rfl

theorem enterTeardown_vC (s : State) : (enterTeardown s).ae.vC = s.ae.vC := by
  unfold enterTeardown
  rw [teardownCommand_vC, announceFrom_ae]

theorem enterDraining_vC (s : State) : (enterDraining s).ae.vC = s.ae.vC := by
  unfold enterDraining
  dsimp only
  split
  · rw [enterTeardown_vC]
  · rfl

theorem enterHandover_vC (s : State) : (enterHandover s).ae.vC = s.ae.vC := by
  unfold enterHandover
  dsimp only
  split
  · rw [enterDraining_vC]
  · rfl

theorem enterRetiring_vC (s : State) : (enterRetiring s).ae.vC = s.ae.vC := by
  unfold enterRetiring
  dsimp only
  split
  · rw [enterHandover_vC, announceFrom_ae]
  · rw [enterDraining_vC, announceFrom_ae]

theorem completeShed_vC (s : State) : (completeShed s).ae.vC = s.ae.vC := by
  unfold completeShed
  dsimp only
  split
  · rw [enterRetiring_vC, raiseIf_ae]
    rfl
  · rw [raiseIf_ae]
    rfl

theorem enterShedding_vC (s : State) : (enterShedding s).ae.vC = s.ae.vC := by
  unfold enterShedding
  dsimp only
  split
  · rfl
  · rw [completeShed_vC]

theorem failUpgrade_vC (s : State) : (failUpgrade s).ae.vC = s.ae.vC := closeBid_vC s

theorem beginExcursion_vC (sub : AdmittedSub) (s : State) : (beginExcursion sub s).ae.vC = s.ae.vC := by
  cases sub with
  | steady =>
    unfold beginExcursion
    dsimp only
    split
    · rw [enterShedding_vC]
    · rfl
  | upgradeBid => exact failUpgrade_vC _
  | shedding => rfl

theorem openUpgrade_vC (sub : AdmittedSub) (s : State) : (openUpgrade sub s).ae.vC = s.ae.vC := by
  unfold openUpgrade
  split
  · split
    · simp [enterUpgradeBid]
    · rfl
  · rfl

theorem evaluateAdmitted_vC (s : State) : (evaluateAdmitted s).ae.vC = s.ae.vC := by
  unfold evaluateAdmitted
  split
  · split
    · split
      · rfl
      · exact beginExcursion_vC _ s
    · exact openUpgrade_vC _ _
  · rfl

theorem takeFeedFault_vC (cause : FaultCause) (exit : DischargeExit) (s : State) : (takeFeedFault cause exit s).ae.vC = s.ae.vC := by
  unfold takeFeedFault
  rw [enterDischarging_vC]
  rfl

theorem answerFeedFault_vC (cause : FaultCause) (opened : Bool) (s : State) : (answerFeedFault cause opened s).ae.vC = s.ae.vC := by
  unfold answerFeedFault
  split
  · rw [raiseIf_ae]
  · rw [enterWaiting_vC, closeBid_vC]
  · exact takeFeedFault_vC _ _ s
  · split
    · exact retryRule_vC _ s
    · exact takeFeedFault_vC _ _ s
  all_goals first | rfl | exact takeFeedFault_vC _ _ s

theorem feedFault_vC (cause : FaultCause) (s : State) : (feedFault cause s).ae.vC = s.ae.vC := by
  unfold feedFault
  rw [answerFeedFault_vC, openGates_vC]

/-! ## The taking of a feed change -/

/-- The record with the claim voltage formed again, and in POWERING the reservation with it (R58, R61). -/
def reformedRecord (s : State) : OwnRecord :=
  match s.sc.profile, s.ae.vC with
  | some p, some old =>
    let new := claimVoltage p (vMin8 s)
    if new = old then s.ae else { s.ae with vC := some new, reservation := reservationAt p new s.ae }
  | _, _ => s.ae

theorem evaluateWaiting_of_none {s : State} (h : s.sc.profile = none ∨ s.ae.vC = none) : evaluateWaiting s = s := by
  unfold evaluateWaiting
  split
  · split
    · next p v hp hv => simp_all
    · rfl
  · rfl

/-- Outside ADMITTED a feed change forms V_c again and evaluates in WAITING (R49, R58, R77). -/
theorem takeFeedChange_of_not_admitted {s : State} (h : ∀ sub, s.ae.engine ≠ .admitted sub) :
    takeFeedChange s = evaluateWaiting { s with ae := reformedRecord s } := by
  unfold takeFeedChange reformedRecord
  cases hp : s.sc.profile with
  | none => exact (evaluateWaiting_of_none (.inl hp)).symm
  | some p =>
    cases hv : s.ae.vC with
    | none => exact (evaluateWaiting_of_none (.inr hv)).symm
    | some old =>
      dsimp only
      split
      · rfl
      · rw [evaluateAdmitted_other]
        exact h

theorem takeFeedChange_grows (s : State) : PortGrows s (takeFeedChange s) := by
  unfold takeFeedChange
  split
  · dsimp only
    split
    · exact evaluateWaiting_grows s
    · exact PortGrows.from ((evaluateAdmitted_grows _).trans (evaluateWaiting_grows _)) rfl
  · exact .refl s

theorem reformedRecord_fields (s : State) :
    reformedRecord s = { s.ae with vC := (reformedRecord s).vC, reservation := (reformedRecord s).reservation } := by
  unfold reformedRecord
  split
  · dsimp only
    split <;> rfl
  · rfl

end Sys2Proof.Machine

/-! The feed faults (R51, R52, R53, R99, R114, O36). -/

namespace Sys2Proof.Machine

section
variable {cause : FaultCause} {opened : Bool} {s b : State}

/-! ## The engine's answer -/

theorem enterWaiting_engine_cases (s : State) : (enterWaiting s).ae.engine = .waiting ∨ (enterWaiting s).ae.engine = .bidding := by
  rw [enterWaiting_eq]
  exact evaluateWaiting_engine (by rw [announceFrom_ae]; rfl)

theorem completeDischarge_notAdmitted (h : ∀ sub, b.ae.engine ≠ .admitted sub) (sub : AdmittedSub) :
    (completeDischarge b).ae.engine ≠ .admitted sub := by
  unfold completeDischarge
  split
  · split
    · exact h sub
    · rcases enterWaiting_engine_cases b with hw | hw <;> simp [hw]
    all_goals simp
  · exact h sub

theorem enterDischarging_notAdmitted (exit : DischargeExit) (b : State) (sub : AdmittedSub) :
    (enterDischarging exit b).ae.engine ≠ .admitted sub :=
  completeDischarge_notAdmitted (by simp) sub

/-- A feed fault leaves no state of ADMITTED (R99). -/
theorem answerFeedFault_notAdmitted (cause : FaultCause) (opened : Bool) (s : State) (sub : AdmittedSub) :
    (answerFeedFault cause opened s).ae.engine ≠ .admitted sub := by
  have htake (exit : DischargeExit) : (takeFeedFault cause exit s).ae.engine ≠ .admitted sub := enterDischarging_notAdmitted _ _ sub
  cases he : s.ae.engine with
  | none =>
    unfold answerFeedFault
    rw [he]
    dsimp only
    rw [raiseIf_ae, he]
    nofun
  | bidding =>
    unfold answerFeedFault
    rw [he]
    rcases enterWaiting_engine_cases (closeBid s) with hw | hw <;> simp [hw]
  | powering | retiring _ =>
    unfold answerFeedFault
    rw [he]
    exact htake _
  | bringup =>
    unfold answerFeedFault
    rw [he]
    dsimp only
    split
    · exact completeDischarge_notAdmitted (by simp [beginRetry]) sub
    · exact htake _
  | admitted x =>
    unfold answerFeedFault
    rw [he]
    cases x <;> exact htake _
  | waiting | backoff | discharging | cooldown | released | stopped =>
    unfold answerFeedFault
    rw [he]
    simp [he]

theorem takeFeedFault_grows (exit : DischargeExit) (s : State) : PortGrows s (takeFeedFault cause exit s) := by
  unfold takeFeedFault
  exact PortGrows.from (PortWithin.trans (raise_grows .fault _) (enterDischarging_grows _ _)) rfl

theorem answerFeedFault_grows (cause : FaultCause) (opened : Bool) (s : State) : PortGrows s (answerFeedFault cause opened s) := by
  unfold answerFeedFault
  split
  · exact raiseIf_within (or_allFlags _) _ _
  · exact PortGrows.from (enterWaiting_within (or_allFlags _) (or_allFlags _) _) (by simp)
  · exact takeFeedFault_grows _ s
  · split
    · exact retryRule_grows _ s
    · exact takeFeedFault_grows _ s
  all_goals first | exact .refl s | exact takeFeedFault_grows _ s

theorem feedFault_grows (cause : FaultCause) (s : State) : PortGrows s (feedFault cause s) :=
  (openGates_grows .opened s).trans (answerFeedFault_grows _ _ _)

/-! ## The retry count stands but for a pending bring-up fault -/

theorem completeDischarge_retryCount (b : State) : (completeDischarge b).ae.retryCount = b.ae.retryCount := by
  unfold completeDischarge
  split
  · split
    · rfl
    · rw [enterWaiting_eq, (evaluateWaiting_record _).1, announceFrom_ae]
      rfl
    all_goals rw [announceFrom_ae]
  · rfl

theorem enterDischarging_retryCount (exit : DischargeExit) (b : State) : (enterDischarging exit b).ae.retryCount = b.ae.retryCount := by
  unfold enterDischarging
  rw [completeDischarge_retryCount, beginDischarging_ae, discharged_retryCount]

theorem takeFeedFault_retryCount (exit : DischargeExit) (s : State) : (takeFeedFault cause exit s).ae.retryCount = s.ae.retryCount :=
  enterDischarging_retryCount _ _

theorem answerFeedFault_retryCount (h : s.ae.bringupFault = false) : (answerFeedFault cause opened s).ae.retryCount = s.ae.retryCount := by
  unfold answerFeedFault
  split
  · rw [raiseIf_ae]
  · rw [enterWaiting_eq, (evaluateWaiting_record _).1, announceFrom_ae]
    exact closeBid_retryCount s
  · exact takeFeedFault_retryCount _ s
  · rw [h, if_neg Bool.false_ne_true]
    exact takeFeedFault_retryCount _ s
  all_goals first | rfl | exact takeFeedFault_retryCount _ s

/-! ## The exit of a feed fault's discharge -/

/-- The states that a feed fault discharges without counting it, and their exits (R99). -/
theorem answerFeedFault_discharges (hf : s.ae.bringupFault = false) (he : s.ae.engine = .powering ∨ holdsBlade s.ae.engine = true) :
    answerFeedFault cause opened s = takeFeedFault cause
      (if s.ae.engine = .admitted .shedding ∧ s.ae.source ≠ .none ∨ phaseOf s.ae.engine = some .retiring then .released else .waiting) s := by
  unfold answerFeedFault
  cases h : s.ae.engine with
  | powering => simp [phaseOf]
  | bringup => simp [hf, phaseOf]
  | admitted sub => cases sub <;> simp [phaseOf]
  | retiring sub => simp [phaseOf]
  | none | waiting | bidding | backoff | discharging | cooldown | released | stopped => simp [h, holdsBlade] at he

/-! ## The events -/

theorem feedFault_blade (cause : FaultCause) (s : State) : (feedFault cause s).pp = (openGates .opened s).pp
    ∧ (feedFault cause s).held = (openGates .opened s).held ∧ (feedFault cause s).bp = (openGates .opened s).bp := by
  unfold feedFault
  exact ⟨answerFeedFault_pp _ _ _, answerFeedFault_held _ _ _, answerFeedFault_bp _ _ _⟩

/-- The feed change behind a feed fault moves neither the path nor the held outputs. -/
theorem takeFeedChange_feedFault (cause : FaultCause) (f : State) : takeFeedChange (feedFault cause f)
    = evaluateWaiting { feedFault cause f with ae := reformedRecord (feedFault cause f) } :=
  takeFeedChange_of_not_admitted (answerFeedFault_notAdmitted cause _ _)

/-- The two feed faults as one event: FEED raised, the fault taken, and the feed change (R51, R53). -/
theorem exec_feedFault {a b' : Nat} {c : Instr} (hc : c = .rideThroughExpiry ∧ s.fs.ride.isSome = true ∧ cause = .feedUv
      ∨ c = .feedSample a b' ∧ overvoltage s.fs = false ∧ overvoltage (sampledFeeds s.fs a b') = true ∧ cause = .feedOv) :
    ∃ f : State, exec c s = answer s (takeFeedChange (feedFault cause f)) ∧ f = { s with fs := f.fs, lpi := f.lpi }
      ∧ flagSet .feed f = true ∧ (c = .rideThroughExpiry → f.fs = { s.fs with ride := none, uv := true }) := by
  rcases hc with ⟨rfl, hrun, rfl⟩ | ⟨rfl, hbefore, hafter, rfl⟩
  · exact ⟨_, congrArg (answer s) (if_pos hrun), rfl, flagSet_raise_self .feed _, fun _ => rfl⟩
  · obtain ⟨x, hx⟩ : ∃ x : State, x = { s with fs := sampledFeeds s.fs a b' } := ⟨_, rfl⟩
    have hxfs : x.fs = sampledFeeds s.fs a b' := by rw [hx]
    have hdue : feedEventDue s.fs x.fs = true := by
      rw [hxfs]
      simp [feedEventDue, hbefore, hafter]
    have hchange : feedChange s x = true := by
      unfold feedChange
      rw [hxfs]
      simp [hbefore, hafter]
    have hevent : feedSampleEvent a b' s = takeFeedChange (feedFault .feedOv (raise .feed x)) := by
      have hbegins : (overvoltage x.fs && !overvoltage s.fs) = true := by
        rw [hxfs]
        simp [hbefore, hafter]
      have hshape : feedSampleEvent a b' s = if feedChange s x then
          takeFeedChange (if overvoltage x.fs && !overvoltage s.fs then feedFault .feedOv (raiseIf (feedEventDue s.fs x.fs) .feed x)
            else raiseIf (feedEventDue s.fs x.fs) .feed x)
          else (if overvoltage x.fs && !overvoltage s.fs then feedFault .feedOv (raiseIf (feedEventDue s.fs x.fs) .feed x)
            else raiseIf (feedEventDue s.fs x.fs) .feed x) := by
        rw [hx]
        rfl
      rw [hshape, hchange, hbegins, hdue]
      rfl
    refine ⟨raise .feed x, congrArg (answer s) hevent, by rw [hx]; rfl, flagSet_raise_self .feed _, nofun⟩

end

/-- Settles O36. -/
theorem feedFaultsOpenThePath : Obligations.FeedFaultsOpenThePath := by
  intro a b c cause s hstart hs hg hc
  obtain ⟨f, hexec, hf, hflag, hride⟩ := exec_feedFault hc
  have hfs : f.ae = s.ae ∧ f.pp = s.pp ∧ f.rc = s.rc ∧ f.bp = s.bp ∧ f.sv = s.sv ∧ f.inp = s.inp ∧ f.sc = s.sc
      ∧ f.freeCount = s.freeCount ∧ f.pending = s.pending := by
    rw [hf]
    exact ⟨rfl, rfl, rfl, rfl, rfl, rfl, rfl, rfl, rfl⟩
  obtain ⟨hfae, hfpp, hfrc, hfbp, hfrest⟩ := hfs
  have hfg : gateOn f = true := by unfold gateOn; rw [hfpp]; exact hg
  obtain ⟨o, ho⟩ : ∃ o, o = openGates .opened f := ⟨_, rfl⟩
  have hopened := openGates_of_gateOn .opened f hfg
  have hobp : o.bp = endedProgram s.bp := by rw [ho, hopened, hfbp]
  have hoheld : o.held = HeldOutputs.deasserted := by rw [ho, hopened]
  have hofault : o.ae.bringupFault = s.ae.bringupFault := by rw [ho, openGates_bringupFault, hfae]
  obtain ⟨g, hgs⟩ : ∃ g, g = feedFault cause f := ⟨_, rfl⟩
  obtain ⟨hgpp, hgheld, hgbp⟩ := feedFault_blade cause f
  rw [← hgs, ← ho] at hgpp hgheld hgbp
  obtain ⟨u, hu⟩ : ∃ u, u = takeFeedChange g := ⟨_, rfl⟩
  have hueval : u = evaluateWaiting { g with ae := reformedRecord g } := by rw [hu, hgs, takeFeedChange_feedFault]
  rw [← hgs, ← hu] at hexec
  have hupp : u.pp = o.pp := by rw [hueval, evaluateWaiting_pp]; exact hgpp
  have hgrows : PortGrows f (settle s u) := by
    rw [hu, hgs]
    exact (feedFault_grows cause f).trans ((takeFeedChange_grows _).trans (settle_grows s _))
  have hgrowsFault : PortGrows g (settle s u) := by
    rw [hu]
    exact (takeFeedChange_grows _).trans (settle_grows s _)
  refine ⟨settle s u, hexec, ?_, ?_, ?_, ?_, hgrows.flagSet_of_set hflag, fun hno => ?_, fun hr => ?_, fun hv => ?_,
    fun hv hlatch hno he => ?_, ?_⟩
  · have hoff : gateOn o = false := ho ▸ gateOn_openGates .opened f (.inl rfl)
    unfold gateOn at hoff ⊢
    rw [settle_pp, hupp]
    exact hoff
  · rw [settle_held, hueval, evaluateWaiting_held]
    exact hgheld.trans hoheld
  · rw [settle_bp, hueval, evaluateWaiting_bp]
    exact congrArg BringUp.prog (hgbp.trans hobp)
  · rw [settle_bp, hueval, evaluateWaiting_bp]
    exact (congrArg BringUp.timedOut (hgbp.trans hobp) : _ = (endedProgram s.bp).timedOut)
  · rw [settle_ae, hueval, (evaluateWaiting_record _).1, reformedRecord_fields, hgs]
    show (answerFeedFault cause _ (openGates .opened f)).ae.retryCount = _
    rw [answerFeedFault_retryCount (by rw [← ho, hofault, hno]), openGates_retryCount, hfae]
  · rw [settle_fs, hu, takeFeedChange_fs, hgs, feedFault_fs]
    exact hride hr
  · obtain ⟨hpath, hdis, htimer, -⟩ := openGates_charged (target := .opened) hfg (by rw [hfpp]; exact hv)
    rw [settle_pp, hupp, ho]
    exact ⟨hpath, htimer, hdis⟩
  · obtain ⟨-, hdis, -, -, -, horc⟩ := openGates_charged (target := .opened) hfg (by rw [hfpp]; exact hv)
    rw [← ho] at hdis horc
    have hoengine : o.ae.engine = s.ae.engine := by rw [ho, openGates_engine, hfae]
    have hosource : o.ae.source = s.ae.source := by rw [ho, openGates_source, hfae]
    obtain ⟨exit, hx⟩ : ∃ exit : DischargeExit, exit = if s.ae.engine = .admitted .shedding ∧ s.ae.source ≠ .none
      ∨ phaseOf s.ae.engine = some .retiring then .released else .waiting := ⟨_, rfl⟩
    have hgtake : g = beginDischarging exit (raise .fault { o with ae := { o.ae with cause := cause, subcause := none } }) := by
      rw [hgs]
      unfold feedFault
      rw [← ho, answerFeedFault_discharges (hofault.trans hno) (by rw [hoengine]; exact he), hoengine, hosource, ← hx]
      exact enterDischarging_charged hdis
    have hgae : g.ae = dischargingRecord exit { o.ae with cause := cause, subcause := none } := by
      rw [hgtake, beginDischarging_ae]
      refine discharged_of_latch (fun hl => ?_)
      show o.rc.latchOpen = true
      rw [horc, hfrc]
      exact hlatch (hosource ▸ hl)
    have huae : u.ae = reformedRecord g := by
      rw [hueval, evaluateWaiting_other]
      rw [reformedRecord_fields, hgae]
      nofun
    rw [settle_ae, huae, reformedRecord_fields, hgae, ← hx]
    refine ⟨rfl, rfl, hgrowsFault.flagSet_of_set ?_, rfl, rfl⟩
    rw [hgtake]
    exact (beginDischarging_grows _ _).flagSet_of_set (flagSet_raise_self .fault _)
  · rw [settle_sv, settle_inp, settle_sc, settle_freeCount, settle_pending, hu, takeFeedChange_sv, takeFeedChange_inp, takeFeedChange_sc,
      takeFeedChange_freeCount, takeFeedChange_pending, hgs, feedFault_sv, feedFault_inp, feedFault_sc, feedFault_freeCount, feedFault_pending]
    exact hfrest

end Sys2Proof.Machine

/-! The feed sample (R43 to R51, R58, R61, R77, R86, R87, O35). -/

namespace Sys2Proof.Machine

section
variable {s : State} {a b : Nat}

/-! ## What a sample changes of the feeds -/

/-- The four cases of a feed's sample: no change in view, the change taken, counted, or begun (R45). -/
theorem sampledFeed_cases (f : Feed) (v : Nat) :
    let target := feedTarget f.state (min v 1023)
    (target = f.state → sampledFeed f v = { sample := min v 1023, state := f.state, pending := none, count := 0 })
      ∧ (target ≠ f.state → f.pending = some target → 3 ≤ f.count →
          sampledFeed f v = { sample := min v 1023, state := target, pending := none, count := 0 })
      ∧ (target ≠ f.state → f.pending = some target → f.count < 3 →
          sampledFeed f v = { sample := min v 1023, state := f.state, pending := some target, count := f.count + 1 })
      ∧ (target ≠ f.state → f.pending ≠ some target →
          sampledFeed f v = { sample := min v 1023, state := f.state, pending := some target, count := 1 }) := by
  intro target
  have hdef : sampledFeed f v = if target = f.state then { sample := min v 1023, state := f.state, pending := none, count := 0 }
      else if 4 ≤ (if f.pending = some target then f.count + 1 else 1) then
        { sample := min v 1023, state := target, pending := none, count := 0 }
      else { sample := min v 1023, state := f.state, pending := some target, count := if f.pending = some target then f.count + 1 else 1 } :=
    rfl
  rw [hdef]
  refine ⟨fun h => if_pos h, fun h hp hc => ?_, fun h hp hc => ?_, fun h hp => ?_⟩
  · rw [if_neg h, if_pos hp, if_pos (by omega)]
  · rw [if_neg h, if_pos hp, if_neg (by omega)]
  · rw [if_neg h, if_neg hp, if_neg (by omega)]

theorem workingVoltage_cases (x y : Feed) :
    (x.state = .good → y.state = .good → workingVoltage x y = max x.sample y.sample)
      ∧ (x.state = .good → y.state ≠ .good → workingVoltage x y = x.sample)
      ∧ (x.state ≠ .good → y.state = .good → workingVoltage x y = y.sample)
      ∧ (x.state ≠ .good → y.state ≠ .good → workingVoltage x y = max x.sample y.sample) := by
  unfold workingVoltage Feed.isIn
  refine ⟨fun hx hy => ?_, fun hx hy => ?_, fun hx hy => ?_, fun hx hy => ?_⟩ <;> simp [hx, hy]

/-- Where neither feed's state nor the undervoltage condition changes, nothing of R50 has changed. -/
theorem feedEventDue_same {x y : FeedSupervisor} (ha : y.a.state = x.a.state) (hb : y.b.state = x.b.state) (hu : y.uv = x.uv) :
    feedEventDue x y = false ∧ overvoltage y = overvoltage x := by
  have hover : overvoltage y = overvoltage x := by simp [overvoltage, Feed.isIn, ha, hb]
  have hsingle : singleFeed y = singleFeed x := by simp [singleFeed, Feed.isIn, ha, hb]
  exact ⟨by simp [feedEventDue, ha, hb, hu, hover, hsingle], hover⟩

/-! ## The event -/

/-- The station with the sample's classification taken (R43, steps 1 to 4). -/
def sampled (a b : Nat) (s : State) : State := { s with fs := sampledFeeds s.fs a b }

/-- The station with FEED raised where the sample calls for it (R50). -/
def feedRaised (a b : Nat) (s : State) : State := raiseIf (feedEventDue s.fs (sampled a b s).fs) .feed (sampled a b s)

/-- The station with a beginning overvoltage taken as a fault (R52, R53). -/
def feedFaulted (a b : Nat) (s : State) : State :=
  if overvoltage (sampled a b s).fs && !overvoltage s.fs then feedFault .feedOv (feedRaised a b s) else feedRaised a b s

theorem exec_feedSample (a b : Nat) (s : State) : exec (.feedSample a b) s = answer s
    (if feedChange s (sampled a b s) then takeFeedChange (feedFaulted a b s) else feedFaulted a b s) := rfl

theorem feedRaised_frame (a b : Nat) (s : State) :
    feedRaised a b s = { s with fs := sampledFeeds s.fs a b, lpi := (feedRaised a b s).lpi } := by
  unfold feedRaised raiseIf
  split <;> rfl

theorem feedFaulted_frame (a b : Nat) (s : State) : (feedFaulted a b s).fs = sampledFeeds s.fs a b ∧ (feedFaulted a b s).sv = s.sv
    ∧ (feedFaulted a b s).inp = s.inp ∧ (feedFaulted a b s).sc = s.sc ∧ (feedFaulted a b s).freeCount = s.freeCount
    ∧ (feedFaulted a b s).pending = s.pending ∧ (feedFaulted a b s).ae.vC = s.ae.vC := by
  have hraised := feedRaised_frame a b s
  unfold feedFaulted
  split
  · refine ⟨?_, ?_, ?_, ?_, ?_, ?_, ?_⟩ <;>
      simp only [feedFault_fs, feedFault_sv, feedFault_inp, feedFault_sc, feedFault_freeCount, feedFault_pending, feedFault_vC] <;>
      rw [hraised]
  · rw [hraised]
    exact ⟨rfl, rfl, rfl, rfl, rfl, rfl, rfl⟩

theorem feedFaulted_grows (a b : Nat) (s : State) : PortGrows (feedRaised a b s) (feedFaulted a b s) := by
  unfold feedFaulted
  split
  · exact feedFault_grows _ _
  · exact .refl _

/-- With no overvoltage after it the sample takes no fault. -/
theorem feedFaulted_fit (h : overvoltage (sampledFeeds s.fs a b) = false) : feedFaulted a b s = feedRaised a b s :=
  if_neg (by rw [show overvoltage (sampled a b s).fs = false from h]; exact Bool.false_ne_true)

/-- In WAITING with the path open a feed fault changes nothing (R99). -/
theorem feedFaulted_waiting (hg : gateOn s = false) (he : s.ae.engine = .waiting) : feedFaulted a b s = feedRaised a b s := by
  have hraised := feedRaised_frame a b s
  have hoff : gateOn (feedRaised a b s) = false := by rw [hraised]; exact hg
  have hengine : (feedRaised a b s).ae.engine = .waiting := by rw [hraised]; exact he
  unfold feedFaulted
  split
  · unfold feedFault
    rw [openGates_of_gateOff .opened _ hoff]
    unfold answerFeedFault
    rw [hengine]
  · rfl

/-! ## The claim voltage -/

theorem takeFeedChange_vC {p : ProfileData} {v : Nat} (hp : s.sc.profile = some p) (hv : s.ae.vC = some v) :
    (takeFeedChange s).ae.vC = some (claimVoltage p (vMin8 s)) := by
  unfold takeFeedChange
  rw [hp, hv]
  dsimp only
  rw [evaluateWaiting_vC]
  split
  · next h => rw [hv, h]
  · rw [evaluateAdmitted_vC]

theorem reformedRecord_of {p : ProfileData} {v : Nat} (hp : s.sc.profile = some p) (hv : s.ae.vC = some v) :
    reformedRecord s = if claimVoltage p (vMin8 s) = v then s.ae
      else { s.ae with vC := some (claimVoltage p (vMin8 s)), reservation := reservationAt p (claimVoltage p (vMin8 s)) s.ae } := by
  unfold reformedRecord
  rw [hp, hv]

/-- Outside POWERING the record takes the claim voltage alone (R58). -/
theorem reformedRecord_vC {p : ProfileData} {v : Nat} (hp : s.sc.profile = some p) (hv : s.ae.vC = some v) (he : s.ae.engine ≠ .powering) :
    reformedRecord s = { s.ae with vC := some (claimVoltage p (vMin8 s)) } := by
  rw [reformedRecord_of hp hv]
  split
  · next h => rw [h, ← hv]
  · rw [show reservationAt p (claimVoltage p (vMin8 s)) s.ae = s.ae.reservation from if_neg he]

/-- A feed change in a state other than ADMITTED's, with no fault, as one record and one evaluation. -/
theorem takeFeedChange_raised (h : ∀ sub, s.ae.engine ≠ .admitted sub) :
    takeFeedChange (feedRaised a b s) = evaluateWaiting { feedRaised a b s with ae := reformedRecord (sampled a b s) } := by
  have hraised := feedRaised_frame a b s
  rw [takeFeedChange_of_not_admitted (by rw [hraised]; exact h)]
  have hrecord : reformedRecord (feedRaised a b s) = reformedRecord (sampled a b s) := by
    rw [hraised]
    rfl
  rw [hrecord]

/-- A risen claim requests a STANDING (R41). -/
theorem risen_claim {u : State} (hr : Requests s) (hrise : ownClaim s < ownClaim u) (hsc : u.sc = s.sc) (he : u.ae.engine ≠ .stopped)
    (hsli : u.sli = s.sli) : isQueued .standing (settle s u).sli.queue = true := by
  refine standing_queued_settle s u ?_ (hr.of_engine (by rw [hsc]) he (by rw [hsli]))
  simp [standingDue, hrise]

theorem ownClaim_settle (s u : State) : ownClaim (settle s u) = ownClaim u := by
  unfold ownClaim ownSteady
  rw [settle_ae, settle_pp, settle_sc]

end

/-- Settles O35. -/
theorem feedSampleClassifies : Obligations.FeedSampleClassifies := by
  intro a b s hs
  obtain ⟨F, hF⟩ : ∃ F, F = sampledFeeds s.fs a b := ⟨_, rfl⟩
  obtain ⟨hfs, hsv, hinp, hsc, hfree, hpend, hvC⟩ := feedFaulted_frame a b s
  obtain ⟨e, he⟩ : ∃ e, e = if feedChange s (sampled a b s) then takeFeedChange (feedFaulted a b s) else feedFaulted a b s := ⟨_, rfl⟩
  have hexec := exec_feedSample a b s
  rw [← he] at hexec
  have hefs : (settle s e).fs = F := by
    rw [settle_fs, he, hF]
    split <;> simp [hfs]
  have hgrows : PortGrows (feedRaised a b s) (settle s e) := by
    refine (feedFaulted_grows a b s).trans (PortWithin.trans ?_ (settle_grows s e))
    rw [he]
    split
    · exact takeFeedChange_grows _
    · exact .refl _
  have hmin : vMin8 (settle s e) = vMin8 (sampled a b s) := by
    unfold vMin8
    rw [hefs, hF]
    rfl
  obtain ⟨hboth, hfirst, hsecond, hneither⟩ := workingVoltage_cases F.a F.b
  have hvF : F.vF = workingVoltage F.a F.b := by rw [hF]; rfl
  have hgood : anyGood F = (F.a.isIn .good || F.b.isIn .good) := rfl
  refine ⟨settle s e, hexec, ?feeds, ?vF1, ?vF2, ?vF3, ?vF4, ?window, ?rideStops, ?rideStarts, ?event, ?quiet,
    ?sv, ?inp, ?sc, ?free, ?pend, ?change⟩
  case feeds =>
    rw [hefs, hF]
    intro x hx
    simp only [List.mem_cons, List.not_mem_nil, or_false] at hx
    rcases hx with rfl | rfl
    · exact sampledFeed_cases s.fs.a a
    · exact sampledFeed_cases s.fs.b b
  case vF1 => rw [hefs, hvF]; exact hboth
  case vF2 => rw [hefs, hvF]; exact hfirst
  case vF3 => rw [hefs, hvF]; exact hsecond
  case vF4 => rw [hefs, hvF]; exact hneither
  case window => rw [hefs, hF]; rfl
  case rideStops =>
    rw [hefs]
    intro h
    have hx : ((sampledFeed s.fs.a a).isIn .good || (sampledFeed s.fs.b b).isIn .good) = true := by rw [hF] at h; exact h
    rw [hF]
    simp [sampledFeeds, rideAfter, hx]
  case rideStarts =>
    rw [hefs]
    intro h
    have hx : ((sampledFeed s.fs.a a).isIn .good || (sampledFeed s.fs.b b).isIn .good) = false := by rw [hF] at h; exact h
    rw [hF]
    refine ⟨?_, ?_⟩
    · show (s.fs.uv && !((sampledFeed s.fs.a a).isIn .good || (sampledFeed s.fs.b b).isIn .good)) = s.fs.uv
      rw [hx]
      exact Bool.and_true _
    · show rideAfter (anyGood s.fs) ((sampledFeed s.fs.a a).isIn .good || (sampledFeed s.fs.b b).isIn .good) s.fs.ride = _
      rw [hx]
      rfl
  case event =>
    rw [hefs]
    intro h
    refine hgrows.flagSet_of_set ?_
    have hdue : feedEventDue s.fs (sampled a b s).fs = true := by
      rw [show (sampled a b s).fs = F from hF.symm]
      unfold feedEventDue
      rcases h with h | h | h
      · simp [h.symm]
      · simp [h.symm]
      · simp [h.symm]
    unfold feedRaised
    rw [hdue]
    exact flagSet_raise_self .feed _
  case quiet =>
    rw [hefs, hmin]
    intro ha hb hu hv
    obtain ⟨hdue, hover⟩ := feedEventDue_same ha hb hu
    have hsampled : (sampled a b s).fs = F := hF.symm
    have hchange : feedChange s (sampled a b s) = false := by
      unfold feedChange
      rw [hsampled, hover, hv]
      simp [ha, hb, hu]
    have hsame : e = sampled a b s := by
      have hfault : (overvoltage (sampled a b s).fs && !overvoltage s.fs) = false := by
        rw [hsampled, hover]
        simp
      rw [he, hchange]
      unfold feedFaulted feedRaised
      rw [hfault, hsampled, hdue]
      rfl
    rw [hsame, settle_of_sameRecord_sli (u := sampled a b s) hs ⟨rfl, rfl, rfl, .rfl, .rfl, rfl, rfl⟩ rfl, hF]
    rfl
  case sv => rw [settle_sv, he]; split <;> simp [hsv]
  case inp => rw [settle_inp, he]; split <;> simp [hinp]
  case sc => rw [settle_sc, he]; split <;> simp [hsc]
  case free => rw [settle_freeCount, he]; split <;> simp [hfree]
  case pend => rw [settle_pending, he]; split <;> simp [hpend]
  case change =>
    rw [hefs, hmin]
    intro p hp v hv hchanged now
    have hsampled : (sampled a b s).fs = F := hF.symm
    have hchange : feedChange s (sampled a b s) = true := by
      unfold feedChange
      rw [hsampled]
      rcases hchanged with h | h | h | h
      · simp [h.symm]
      · simp [h.symm]
      · simp [h.symm]
      · simp [h.symm]
    rw [hchange, if_pos rfl] at he
    have hspv : (sampled a b s).sc.profile = some p ∧ (sampled a b s).ae.vC = some v := ⟨hp, hv⟩
    have hnow : claimVoltage p (vMin8 (sampled a b s)) = now := rfl
    refine ⟨?_, fun hpow hfit hnew i hi => ?_, fun hbring hfit => ?_, fun hwait hoff => ?_⟩
    · have hfaultedMin : vMin8 (feedFaulted a b s) = vMin8 (sampled a b s) := by
        unfold vMin8
        rw [hfs]
        rfl
      rw [settle_ae, he, takeFeedChange_vC (by rw [hsc]; exact hp) (hvC.trans hv), hfaultedMin]
      rfl
    · have hev : e = { feedRaised a b s with ae := reformedRecord (sampled a b s) } := by
        rw [he, feedFaulted_fit (by rw [← hF]; exact hfit), takeFeedChange_raised (by simp [hpow]), evaluateWaiting_other]
        rw [reformedRecord_fields]
        exact fun h => absurd (hpow.symm.trans h) (by decide)
      have hrecord : reformedRecord (sampled a b s)
          = { s.ae with vC := some now, reservation := some (max (steadyClaim p now s.ae.profile) i) } := by
        rw [reformedRecord_of hspv.1 hspv.2, hnow, if_neg hnew]
        show { s.ae with vC := some now, reservation := reservationAt p now s.ae } = _
        rw [show reservationAt p now s.ae = some (max (steadyClaim p now s.ae.profile) i) by simp [reservationAt, hpow, hi]]
      have heae := hev.trans (by rw [hrecord]) |> congrArg State.ae
      have hclaim : ownClaim e = max (steadyClaim p now s.ae.profile) i := by
        unfold ownClaim
        rw [heae]
        dsimp only
        rw [hpow]
        rfl
      refine ⟨by rw [settle_ae, heae], (ownClaim_settle s e).trans hclaim, fun hreq hrise => ?_⟩
      refine risen_claim hreq (by rw [ownClaim_settle] at hrise; exact hrise) ?_ ?_ ?_
      · rw [hev, feedRaised_frame]
      · rw [heae, hpow]
        nofun
      · rw [hev, feedRaised_frame]
    · have hev : e = { feedRaised a b s with ae := reformedRecord (sampled a b s) } := by
        rw [he, feedFaulted_fit (by rw [← hF]; exact hfit), takeFeedChange_raised (by simp [hbring]), evaluateWaiting_other]
        rw [reformedRecord_fields]
        exact fun h => absurd (hbring.symm.trans h) (by decide)
      have hrecord : reformedRecord (sampled a b s) = { s.ae with vC := some now } :=
        reformedRecord_vC hspv.1 hspv.2 (fun h => absurd (hbring.symm.trans h) (by decide))
      have heae := hev.trans (by rw [hrecord]) |> congrArg State.ae
      have hesc : e.sc = s.sc := by rw [hev, feedRaised_frame]
      have hclaim : ownClaim e = steadyClaim p now s.ae.profile := by
        unfold ownClaim ownSteady
        rw [heae, hesc, hp]
        dsimp only
        rw [hbring]
      refine ⟨by rw [settle_ae, heae], (ownClaim_settle s e).trans hclaim, fun hreq hrise => ?_⟩
      refine risen_claim hreq (by rw [ownClaim_settle] at hrise; exact hrise) hesc ?_ ?_
      · rw [heae, hbring]
        nofun
      · rw [hev, feedRaised_frame]
    · obtain ⟨w, hw⟩ : ∃ w : State, w = { feedRaised a b s with ae := { s.ae with vC := some now } } := ⟨_, rfl⟩
      have hrecord : reformedRecord (sampled a b s) = { s.ae with vC := some now } :=
        reformedRecord_vC hspv.1 hspv.2 (fun h => absurd (hwait.symm.trans h) (by decide))
      have hev : e = evaluateWaiting w := by
        rw [he, feedFaulted_waiting hoff hwait, takeFeedChange_raised (by simp [hwait]), hrecord, hw]
      have hwrest : w.sc = s.sc ∧ w.fs = F ∧ w.sv = s.sv ∧ w.sli = s.sli := by
        rw [hw, hF, feedRaised_frame]
        exact ⟨rfl, rfl, rfl, rfl⟩
      obtain ⟨hwsc, hwfs, hwsv, hwsli⟩ := hwrest
      have hwae : w.ae = { s.ae with vC := some now } := by rw [hw]
      have hcond : bidConditions p now w = bidConditions p now { s with fs := F } :=
        bidConditions_congr hwfs (by rw [hwsv]) (lineFine_congr (by rw [hwsli]) (by rw [hwsli]))
      have hwp : w.sc.profile = some p := by rw [hwsc]; exact hp
      have hwv : w.ae.vC = some now := by rw [hwae]
      have hwe : w.ae.engine = .waiting := by rw [hwae]; exact hwait
      refine ⟨fun x hx => ?_, fun r hx => ⟨?_, fun hr hne => ?_⟩⟩
      · rw [settle_ae, hev, evaluateWaiting_ok hwp hwv hwe (hcond.trans hx), enterBidding_ae, hwae]
        rfl
      · rw [settle_ae, hev, evaluateWaiting_error hwp hwv hwe (hcond.trans hx), setReason_ae, hwae]
      · refine flagSet_settle ?_
        rw [hev, evaluateWaiting_error hwp hwv hwe (hcond.trans hx)]
        exact setReason_denied hr (by rw [hwae]; exact hne)

end Sys2Proof.Machine

/-! The ejector latch's levels, openings and closings, and the debouncers' first settlings (R127, R141, R142, R152, R153, O54). -/

namespace Sys2Proof.Machine

section
variable {s u : State}

/-- An event that requests nothing and keeps the silence and the line ends with the lamp's following alone (R182). -/
theorem settle_of_unasked (hs : Settled s) (hd : standingDue s u = false) (hsilent : silent u = silent s) (hsli : u.sli = s.sli) :
    settle s u = settleLamp s u := by
  unfold settle
  dsimp only
  rw [hd, if_neg Bool.false_ne_true, settlePeriodic_same, settleCongestion_of_not_due]
  · exact hsli ▸ hs.2
  · intro h
    rw [hsli]
    exact hs.1 (hsilent ▸ h)
  · intro h
    rwa [hsilent]

/-- Levels and timers of the latch are announced by nothing. -/
theorem answer_of_latch (hs : Settled s) (rc : RetireCoordinator) (h : rc.handoverReq = s.rc.handoverReq) :
    answer s { s with rc := rc } = .next { s with rc := rc } :=
  answer_of_kept hs ⟨rfl, rfl, rfl, .rfl, .rfl, rfl, h⟩ rfl

/-! ## Openings and closings -/

/-- The Retire Coordinator with an opening told (R141). -/
def latchOpened (rc : RetireCoordinator) : RetireCoordinator := { rc with latchOpen := true, latchSettled := true, force := some forceMs }

/-- The Retire Coordinator with a closing told (R141). -/
def latchClosed (rc : RetireCoordinator) : RetireCoordinator :=
  { rc with latchOpen := false, latchSettled := true, force := none, latchHeld := false }

theorem exec_latchOpening (s : State) : exec .latchOpening s = answer s (requestRetire .latch { s with rc := latchOpened s.rc }) := rfl

theorem exec_latchClosing (s : State) : exec .latchClosing s = answer s (takeClosing { s with rc := latchClosed s.rc }) := rfl

theorem retireAccepted_eq_false_iff : retireAccepted s = false ↔
    s.ae.engine = .none ∨ s.ae.source ≠ .none ∨ s.ae.engine = .stopped ∧ silentCause s.ae.cause = true := by
  unfold retireAccepted
  cases hc : silentCause s.ae.cause <;> by_cases he : s.ae.engine = .none <;> by_cases hs : s.ae.source = .none <;> simp [he, hs]

theorem requestRetire_refused (source : RetireSource) (h : retireAccepted s = false) : requestRetire source s = s :=
  if_neg (by simp [h])

/-- A closing that is no cancel and finds neither a latch retire's discharge nor RELEASED (R152, R153). -/
theorem takeClosing_other (hcan : ¬ (s.ae.source = .latch ∧ cancellable s = true))
    (hdis : ¬ (s.ae.engine = .discharging ∧ s.ae.source = .latch)) (hrel : s.ae.engine ≠ .released) : takeClosing s = s := by
  unfold takeClosing
  rw [if_neg hcan, if_neg hdis, if_neg hrel]

theorem takeClosing_discharging (he : s.ae.engine = .discharging) (hl : s.ae.source = .latch) :
    takeClosing s = { s with ae := { s.ae with exit := .waiting, source := .none, cause := .none, subcause := none } } := by
  have hcan : cancellable s = false := by simp [cancellable, he]
  unfold takeClosing
  rw [if_neg (by simp [hcan]), if_pos ⟨he, hl⟩]

/-- The record of a station that returns from RELEASED (R153). -/
def returnedRecord (ae : OwnRecord) : OwnRecord :=
  { ae with source := .none, cause := if silentCause ae.cause then ae.cause else .none,
            subcause := if silentCause ae.cause then ae.subcause else none }

theorem takeClosing_released (he : s.ae.engine = .released) : takeClosing s = enterWaiting { s with ae := returnedRecord s.ae } := by
  have hcan : cancellable s = false := by simp [cancellable, he]
  unfold takeClosing
  rw [if_neg (by simp [hcan]), if_neg (by simp [he]), if_pos he]
  rfl

/-! ## Entries into WAITING -/

theorem evaluateWaiting_source (s : State) : (evaluateWaiting s).ae.source = s.ae.source := by
  unfold evaluateWaiting
  split
  · split
    · split
      · rw [enterBidding_ae]
        rfl
      · rw [setReason_ae]
    · rfl
  · rfl

/-- An entry into WAITING from a state announced otherwise raises PHASE and queues a STANDING (R41, R76). -/
theorem enterWaiting_announces (hr : Requests { s with ae := waitingRecord s.ae }) (hnew : announcedPhase s ≠ some .waiting) :
    flagSet .phase (enterWaiting s) = true ∧ isQueued .standing (enterWaiting s).sli.queue = true := by
  rw [enterWaiting_eq]
  refine ⟨(evaluateWaiting_grows _).flagSet_of_set (flagSet_announceFrom (ph := .waiting) hr.1 rfl hnew), ?_⟩
  exact evaluateWaiting_standingKept _ (standing_announceFrom hr rfl hnew)

theorem enterWaiting_source (s : State) : (enterWaiting s).ae.source = s.ae.source := by
  rw [enterWaiting_eq, evaluateWaiting_source, announceFrom_ae]
  rfl

theorem enterWaiting_retryCount (s : State) : (enterWaiting s).ae.retryCount = s.ae.retryCount := by
  rw [enterWaiting_eq, (evaluateWaiting_record _).1, announceFrom_ae]
  rfl

end

/-- Settles O54. -/
theorem latchLevelsAndClosings : Obligations.LatchLevelsAndClosings := by
  intro level s hs
  refine ⟨?settling, rfl, rfl, fun h => ?refused, fun hcan hdis hrel => ?other, fun he hl => ?discharging,
    fun he hstart hp hv hr => ?released⟩
  case settling =>
    show answer s (if s.rc.latchSettled then s else _) = _
    cases h : s.rc.latchSettled with
    | true => exact answer_self hs
    | false => exact answer_of_latch hs _ rfl
  case refused =>
    have hno : retireAccepted { s with rc := latchOpened s.rc } = false := retireAccepted_eq_false_iff.2 h
    rw [exec_latchOpening, requestRetire_refused .latch hno]
    exact answer_of_latch hs _ rfl
  case other =>
    rw [exec_latchClosing, takeClosing_other (s := { s with rc := latchClosed s.rc }) hcan hdis hrel]
    exact answer_of_latch hs _ rfl
  case discharging =>
    obtain ⟨u, hu⟩ : ∃ u : State, u = { s with
      rc := latchClosed s.rc, ae := { s.ae with exit := .waiting, source := .none, cause := .none, subcause := none } } := ⟨_, rfl⟩
    have hexec : exec .latchClosing s = answer s u := by
      rw [exec_latchClosing, takeClosing_discharging (s := { s with rc := latchClosed s.rc }) he hl, hu]
    have hengine : u.ae.engine = .discharging := by rw [hu]; exact he
    have hdue : standingDue s u = false := by
      unfold standingDue
      rw [ownClaim_claimless (u := u) (by rw [hengine]; rfl), ownClaim_claimless (u := s) (by rw [he]; rfl), hu]
      simp [bidOpen, latchClosed]
    have hsilent : silent u = silent s := by
      rw [Bool.eq_iff_iff, silent_eq_true_iff, silent_eq_true_iff, hengine, he, hu]
      simp
    have hsettle : settle s u = settleLamp s u := settle_of_unasked hs hdue hsilent (by rw [hu])
    have hport : PortAfter 0 s (settle s u) := portAfter_settle (.of_lpi (by rw [hu])) (by rw [hu]; exact hs.2)
    refine ⟨settle s u, hexec, by rw [settle_ae, hu], by rw [settle_rc, hu]; rfl, ?_, hport⟩
    rw [hsettle, settleLamp_eq, hu]
  case released =>
    obtain ⟨b, hb⟩ : ∃ b : State, b = { s with rc := latchClosed s.rc, ae := returnedRecord s.ae } := ⟨_, rfl⟩
    have hexec : exec .latchClosing s = answer s (enterWaiting b) := by
      rw [exec_latchClosing, takeClosing_released (s := { s with rc := latchClosed s.rc }) he, hb]
    have hreq : Requests { b with ae := waitingRecord b.ae } := hr.of_engine (by rw [hb]) nofun (by rw [hb])
    have hnew : announcedPhase b ≠ some .waiting := by
      have hengine : b.ae.engine = .released := by rw [hb]; exact he
      unfold announcedPhase
      rw [hengine]
      split <;> nofun
    obtain ⟨hflag, hstanding⟩ := enterWaiting_announces hreq hnew
    obtain ⟨u, hu⟩ : ∃ u, u = enterWaiting b := ⟨_, rfl⟩
    rw [← hu] at hexec hflag hstanding
    refine ⟨settle s u, hexec, ?_, ?_, ?_, flagSet_settle hflag, settle_standingKept s u hstanding, ?_, ?_, ?_, ?_, settle_outerKept ?_ ?_⟩
    · rw [settle_ae, hu]
      exact enterWaiting_engine_cases b
    · rw [settle_ae, hu, enterWaiting_source, hb]
      rfl
    · rw [settle_ae, hu, enterWaiting_retryCount, hb]
      rfl
    · rw [settle_rc, hu, enterWaiting_rc, hb]
      rfl
    · rw [settle_pp, hu, enterWaiting_pp, hb]
    · rw [settle_held, hu, enterWaiting_held, hb]
    · rw [settle_bp, hu, enterWaiting_bp, hb]
    · rw [hu, (enterWaiting_quiet b).1, hb]
    · rw [hu, enterWaiting_fs, enterWaiting_sv, enterWaiting_inp, enterWaiting_sc, enterWaiting_freeCount, enterWaiting_pending, hb]
      exact ⟨rfl, rfl, rfl, rfl, rfl, rfl⟩

end Sys2Proof.Machine

/-! CLEAR_FAULT and FORCE_OFF (R95, R97, R170, R178, O58). -/

namespace Sys2Proof.Machine

section
variable {s b : State}

/-- The evaluation of WAITING leaves the fault and its count. -/
theorem evaluateWaiting_fault (s : State) : (evaluateWaiting s).ae.cause = s.ae.cause ∧ (evaluateWaiting s).ae.subcause = s.ae.subcause
    ∧ (evaluateWaiting s).ae.retryCount = s.ae.retryCount := by
  unfold evaluateWaiting
  split
  · split
    · split
      · rw [enterBidding_ae]
        exact ⟨rfl, rfl, rfl⟩
      · rw [setReason_ae]
        exact ⟨rfl, rfl, rfl⟩
    · exact ⟨rfl, rfl, rfl⟩
  · exact ⟨rfl, rfl, rfl⟩

theorem enterWaiting_fault (s : State) : (enterWaiting s).ae.cause = s.ae.cause ∧ (enterWaiting s).ae.subcause = s.ae.subcause
    ∧ (enterWaiting s).ae.retryCount = s.ae.retryCount := by
  rw [enterWaiting_eq]
  obtain ⟨hc, hs, hr⟩ := evaluateWaiting_fault (announceFrom s { s with ae := waitingRecord s.ae })
  rw [hc, hs, hr, announceFrom_ae]
  exact ⟨rfl, rfl, rfl⟩

theorem completeDischarge_fault (s : State) : (completeDischarge s).ae.cause = s.ae.cause
    ∧ (completeDischarge s).ae.subcause = s.ae.subcause ∧ (completeDischarge s).ae.retryCount = s.ae.retryCount := by
  unfold completeDischarge
  split
  · split
    · exact ⟨rfl, rfl, rfl⟩
    · exact enterWaiting_fault s
    all_goals
      rw [announceFrom_ae]
      exact ⟨rfl, rfl, rfl⟩
  · exact ⟨rfl, rfl, rfl⟩

/-! ## CLEAR_FAULT -/

theorem exec_clearFault_accepted (h : clearAccepted s = true) :
    exec .clearFault s = answer s (clearFault s (commandTaken 0x04 .accepted s)) := by
  show execClearFault s = _
  unfold execClearFault
  rw [h]
  rfl

theorem exec_clearFault_refused (hs : Settled s) (h : clearAccepted s = false) :
    exec .clearFault s = .next (commandTaken 0x04 .refusedState s) := by
  show execClearFault s = _
  unfold execClearFault
  rw [h]
  exact answer_commandTaken hs 0x04 .refusedState

/-- The station in WAITING behind a cleared fault, before it is announced (R97). -/
def clearedWaiting (b : State) : State := { b with ae := { clearedRecord b.ae with engine := .waiting, reason := .none, exit := .none } }

/-- The station in DISCHARGING behind a cleared fault, the path still TRIPPED (R97). -/
def clearedDischarging (b : State) : State := { b with ae := dischargingRecord .waiting (clearedRecord b.ae) }

theorem clearFault_untripped (h : b.pp.path ≠ .tripped) : clearFault s b = evaluateWaiting (announceFrom s (clearedWaiting b)) := if_neg h

theorem clearFault_tripped (h : b.pp.path = .tripped) : clearFault s b = completeDischarge (announceFrom s (clearedDischarging b)) := if_pos h

/-- What a clearing leaves, whichever state it leads to. -/
structure Cleared (b u : State) : Prop where
  fault : u.ae.cause = .none ∧ u.ae.subcause = none ∧ u.ae.retryCount = 0
  engine : u.ae.engine = .waiting ∨ u.ae.engine = .bidding ∨ u.ae.engine = .discharging
  blade : BladeKept b u
  line : lineFrame u.sli = lineFrame b.sli
  rest : u.fs = b.fs ∧ u.sv = b.sv ∧ u.inp = b.inp ∧ u.sc = b.sc ∧ u.freeCount = b.freeCount ∧ u.pending = b.pending
  port : PortWithin (flagWord .phase ||| flagWord .denied) b u
  notDue : NotDue b → NotDue u

theorem clearFault_cleared (s b : State) : Cleared b (clearFault s b) := by
  by_cases h : b.pp.path = .tripped
  · rw [clearFault_tripped h]
    obtain ⟨x, hx⟩ : ∃ x, x = announceFrom s (clearedDischarging b) := ⟨_, rfl⟩
    have hxae : x.ae = dischargingRecord .waiting (clearedRecord b.ae) := by rw [hx, announceFrom_ae]; rfl
    obtain ⟨hc, hsub, hr⟩ := completeDischarge_fault x
    rw [← hx]
    refine ⟨⟨by rw [hc, hxae]; rfl, by rw [hsub, hxae]; rfl, by rw [hr, hxae]; rfl⟩, ?_, by simp [BladeKept, hx, clearedDischarging], ?_,
      by simp [hx, clearedDischarging], ?_, fun hd => ?_⟩
    · unfold completeDischarge
      split
      · rw [hxae]
        rcases enterWaiting_engine_cases x with he | he
        · exact .inl he
        · exact .inr (.inl he)
      · rw [hxae]
        exact .inr (.inr rfl)
    · rw [(completeDischarge_quiet x).1, hx, (announceFrom_quiet _ _).1]
      rfl
    · rw [hx]
      exact (PortWithin.trans (t := clearedDischarging b) (.of_lpi rfl) (announceFrom_within (by decide) _ _)).trans
        (completeDischarge_within (by decide) (by decide) _)
    · rw [hx]
      exact completeDischarge_notDue (announceFrom_notDue s (u := clearedDischarging b) hd)
  · rw [clearFault_untripped h]
    obtain ⟨x, hx⟩ : ∃ x, x = announceFrom s (clearedWaiting b) := ⟨_, rfl⟩
    have hxae : x.ae = { clearedRecord b.ae with engine := .waiting, reason := .none, exit := .none } := by rw [hx, announceFrom_ae]; rfl
    obtain ⟨hc, hsub, hr⟩ := evaluateWaiting_fault x
    rw [← hx]
    refine ⟨⟨by rw [hc, hxae]; rfl, by rw [hsub, hxae]; rfl, by rw [hr, hxae]; rfl⟩, ?_, by simp [BladeKept, hx, clearedWaiting], ?_,
      by simp [hx, clearedWaiting], ?_, fun hd => ?_⟩
    · rcases evaluateWaiting_engine (b := x) (by rw [hxae]) with he | he
      · exact .inl he
      · exact .inr (.inl he)
    · rw [(evaluateWaiting_quiet x).1, hx, (announceFrom_quiet _ _).1]
      rfl
    · rw [hx]
      exact (PortWithin.trans (t := clearedWaiting b) (.of_lpi rfl) (announceFrom_within (by decide) _ _)).trans
        (evaluateWaiting_within (by decide) _)
    · rw [hx]
      exact evaluateWaiting_notDue (announceFrom_notDue s (u := clearedWaiting b) hd)

/-! ## FORCE_OFF -/

theorem exec_forceOff_refused (hs : Settled s) (h : forceOffAccepted s = false) :
    exec .forceOff s = .next (commandTaken 0x05 .refusedState s) := by
  show execForceOff s = _
  unfold execForceOff
  rw [h]
  exact answer_commandTaken hs 0x05 .refusedState

theorem exec_forceOff_accepted (h : forceOffAccepted s = true) : exec .forceOff s = answer s
    (if s.ae.engine = .none then forceOffStarting (commandTaken 0x05 .accepted s) else forceOffRunning (commandTaken 0x05 .accepted s)) := by
  show execForceOff s = _
  unfold execForceOff
  rw [h]
  rfl

theorem forceOffAccepted_running (he : s.ae.engine ≠ .none) (h : ¬ (s.ae.engine = .stopped ∧ silentCause s.ae.cause = true)) :
    forceOffAccepted s = true := by
  unfold forceOffAccepted
  split
  · next hn => exact absurd hn he
  · next hstop => simpa [hstop] using h
  · rfl

/-- The station forced off, its bid closed and FAULT raised, before DISCHARGING (R95). -/
def forcedOff (b : State) : State :=
  raise .fault
    { closeBid (openGates .opened b) with
      ae := { (closeBid (openGates .opened b)).ae with source := .none, cause := .forcedOff, subcause := none } }

theorem forceOffRunning_eq (b : State) : forceOffRunning b = completeDischarge (beginDischarging .stopped (forcedOff b)) := rfl

/-- The blade's part of a station forced off is an opening's. -/
theorem forcedOff_blade (b : State) : (forcedOff b).pp = (openGates .opened b).pp ∧ (forcedOff b).held = (openGates .opened b).held
    ∧ (forcedOff b).bp = (openGates .opened b).bp ∧ (forcedOff b).rc = (openGates .opened b).rc := by
  refine ⟨?_, ?_, ?_, ?_⟩ <;> simp [forcedOff]

theorem forcedOff_bid (b : State) : (forcedOff b).ae.bid = none := by
  show (closeBid (openGates .opened b)).ae.bid = none
  rw [closeBid_ae]
  split
  · rfl
  · next h => simpa using h

theorem forcedOff_retryCount (b : State) : (forcedOff b).ae.retryCount = b.ae.retryCount := by
  show (closeBid (openGates .opened b)).ae.retryCount = b.ae.retryCount
  rw [closeBid_ae, ← openGates_retryCount .opened b]
  split <;> rfl

theorem Requests.openGates (h : Requests b) (target : PathState) : Requests (openGates target b) := by
  refine ⟨?_, by rw [openGates_sli]; exact h.2⟩
  rw [← h.1]
  unfold silent
  rw [openGates_sc, openGates_engine, openGates_cause]

theorem Requests.forcedOff (h : Requests b) : Requests (forcedOff b) :=
  by
  refine ⟨?_, (h.openGates .opened).closeBid.2⟩
  have hstart : (Machine.forcedOff b).sc.start = .done := by
    show (Machine.closeBid _).sc.start = .done
    rw [closeBid_sc, openGates_sc]
    exact h.start
  have hcause : (Machine.forcedOff b).ae.cause = .forcedOff := rfl
  simp [silent, hstart, hcause, silentCause]

/-- The record behind a forced-off station's discharge, complete where the node is already discharged (R95). -/
theorem forceOffRunning_ae (b : State) : (forceOffRunning b).ae
    = if (forceOffRunning b).pp.discharged = true then endedRecord (dischargingRecord .stopped (forcedOff b).ae)
      else dischargingRecord .stopped (forcedOff b).ae := by
  have hbegin : (beginDischarging .stopped (Machine.forcedOff b)).ae = dischargingRecord .stopped (Machine.forcedOff b).ae := by
    rw [beginDischarging_ae]
    exact discharged_of_exit nofun
  rw [forceOffRunning_eq, completeDischarge_pp, completeDischarge_record (by rw [hbegin]; nofun), hbegin]
  simp [dischargingRecord]

theorem forcedOff_exit (b : State) : (beginDischarging .stopped (forcedOff b)).ae.exit ≠ .waiting := by
  rw [beginDischarging_ae, discharged_of_exit (exit := .stopped) nofun]
  exact nofun

theorem forceOffRunning_within (b : State) :
    PortWithin (flagWord .phase ||| flagWord .fault ||| flagWord .line) b (forceOffRunning b) := by
  have hforced : PortWithin (flagWord .phase ||| flagWord .fault ||| flagWord .line) b (forcedOff b) :=
    ((openGates_within .opened b).trans (closeBid_within _)).trans ((raise_within (f := .fault) (by decide) (closeBid (openGates .opened b))).trans (.of_lpi rfl))
  exact hforced.trans ((beginDischarging_within (by decide) _ _).trans (completeDischarge_within_of_exit (by decide) _ (forcedOff_exit b)))

theorem forceOffRunning_bidQueued (h : Requests b) : isQueued .bid (forceOffRunning b).sli.queue
    = (decide (b.ae.bid = none) && isQueued .bid b.sli.queue) := by
  rw [forceOffRunning_eq, isQueued_completeDischarge (k := .bid) nofun (forcedOff_exit b),
    isQueued_bid_beginDischarging h.forcedOff, forcedOff_bid]
  show (true && isQueued .bid (closeBid (openGates .opened b)).sli.queue) = _
  rw [isQueued_bid_closeBid (h.openGates .opened), openGates_bid, openGates_sli]
  rfl

end

/-- Settles O58. -/
theorem clearFaultAndForceOff : Obligations.ClearFaultAndForceOff := by
  intro s hs
  refine ⟨fun he hcause hstart hleave => ?cleared, fun h => ?notCleared, fun he hloud hr hstart => ?forced, fun he hstart => ?starting,
    fun h => ?notForced⟩
  case cleared =>
    have haccepted : clearAccepted s = true := by
      rcases hcause with h | h | h <;> simp [clearAccepted, clearableCause, he, h]
    obtain ⟨b, hb⟩ : ∃ b, b = commandTaken 0x04 .accepted s := ⟨_, rfl⟩
    obtain ⟨u, hu⟩ : ∃ u, u = clearFault s b := ⟨_, rfl⟩
    have hexec : exec .clearFault s = answer s u := by rw [hu, hb]; exact exec_clearFault_accepted haccepted
    have hclear : Cleared b u := hu ▸ clearFault_cleared s b
    have hbsc : b.sc = s.sc := by rw [hb]; rfl
    have hbpp : b.pp = s.pp := by rw [hb]; rfl
    have hbsli : b.sli = s.sli := by rw [hb]; rfl
    have hsilent : silent u = false := by
      refine silent_eq_false_of ?_ ?_
      · rw [hclear.rest.2.2.2.1, hbsc]
        exact hstart
      · rcases hclear.engine with h | h | h <;> simp [h]
    have hdue : NotDue u := hclear.notDue (by unfold NotDue; rw [hbsli]; exact hs.2)
    have hport : PortWithin (flagWord .phase ||| flagWord .denied) b (settle s u) :=
      hclear.port.trans (settle_within_of_not_due _ s u hdue)
    obtain ⟨-, hcmd, hres, -⟩ := (portKept_iff _ _).1 hport.1
    obtain ⟨hpp, hheld, hbp, hrc⟩ := hclear.blade
    obtain ⟨hc, hsub, hcount⟩ := hclear.fault
    have hquiet : silent s = true ∨ announcedPhase s = some .stopped := by
      cases hq : silent s with
      | true => exact .inl rfl
      | false => exact .inr (by simp [announcedPhase, hq, he, phaseOf])
    have hnew : announcedPhase s ≠ some .waiting := by
      rcases hquiet with h | h
      · simp [announcedPhase, h]
      · simp [h]
    refine ⟨settle s u, hexec, by rw [hcmd, hb]; rfl, by rw [hres, hb]; rfl, by rw [settle_ae, hc], by rw [settle_ae, hsub],
      by rw [settle_ae, hcount], fun hpath => ?_, fun hpath hd => ?_, fun hclash => ?_, by rw [settle_pp, hpp, hbpp],
      by rw [settle_held, hheld, hb]; rfl, by rw [settle_bp, hbp, hb]; rfl, by rw [settle_rc, hrc, hb]; rfl,
      settle_outerKept (by rw [hclear.line, hbsli]) ?_, (FlagsWithin.of_flags (by rw [hb]; rfl)).trans hport.2⟩
    · have hwaits : u = evaluateWaiting (announceFrom s (clearedWaiting b)) := by
        rw [hu]
        exact clearFault_untripped (by rw [hbpp]; exact hpath)
      have hreq : Requests (clearedWaiting b) :=
        ⟨silent_eq_false_of (by show b.sc.start = .done; rw [hbsc]; exact hstart) nofun, by show leaveUnderway b.sli = false; rw [hbsli]; exact hleave⟩
      refine ⟨?_, flagSet_settle ?_, settle_standingKept s u ?_⟩
      · rw [settle_ae, hwaits]
        exact evaluateWaiting_engine (by rw [announceFrom_ae]; rfl)
      · rw [hwaits]
        exact (evaluateWaiting_grows _).flagSet_of_set (flagSet_announceFrom (ph := .waiting) hreq.1 rfl hnew)
      · rw [hwaits]
        exact evaluateWaiting_standingKept _ (standing_announceFrom hreq rfl hnew)
    · have hdis : u = announceFrom s (clearedDischarging b) := by
        rw [hu, clearFault_tripped (by rw [hbpp]; exact hpath)]
        refine completeDischarge_charged ?_
        rw [announceFrom_pp]
        show b.pp.discharged = false
        rw [hbpp]
        exact hd
      rw [settle_ae, hdis, announceFrom_ae]
      exact ⟨rfl, rfl⟩
    · have hbefore : silent s = true := by simp [silent, hstart, he, hclash, silentCause]
      rw [periodic_settle, hsilent, hbefore]
      rfl
    · obtain ⟨hfs, hsv, hinp, hsc, hfree, hpend⟩ := hclear.rest
      rw [hfs, hsv, hinp, hsc, hfree, hpend, hb]
      exact ⟨rfl, rfl, rfl, rfl, rfl, rfl⟩
  case notCleared =>
    refine exec_clearFault_refused hs ?_
    rcases h with h | h | h <;> simp [clearAccepted, clearableCause, h]
  case forced =>
    obtain ⟨b, hb⟩ : ∃ b, b = commandTaken 0x05 .accepted s := ⟨_, rfl⟩
    obtain ⟨u, hu⟩ : ∃ u, u = forceOffRunning b := ⟨_, rfl⟩
    have hexec : exec .forceOff s = answer s u := by
      rw [exec_forceOff_accepted (forceOffAccepted_running he hloud), if_neg he, hu, hb]
    have hreq : Requests b := by rw [hb]; exact hr
    have hbegin : u = completeDischarge (beginDischarging .stopped (forcedOff b)) := hu
    obtain ⟨hpp, hheld, hbp, hrc⟩ := forcedOff_blade b
    have hupp : u.pp = (openGates .opened b).pp := by rw [hbegin, completeDischarge_pp, beginDischarging_pp, hpp]
    have huheld : u.held = (openGates .opened b).held := by rw [hbegin, completeDischarge_held, beginDischarging_held, hheld]
    have hubp : u.bp = (openGates .opened b).bp := by rw [hbegin, completeDischarge_bp, beginDischarging_bp, hbp]
    have hurc : u.rc = (openGates .opened b).rc := by rw [hbegin, completeDischarge_rc, beginDischarging_rc, hrc]
    have hgate : gateOn b = gateOn s := by rw [hb]; rfl
    have hopened : gateOn u = false := by
      unfold gateOn
      rw [hupp]
      exact gateOn_openGates .opened b (.inl rfl)
    have hae := forceOffRunning_ae b
    rw [← hu] at hae
    have hfault : flagSet .fault u = true := by
      rw [hbegin]
      exact ((beginDischarging_grows _ _).trans (completeDischarge_grows _)).flagSet_of_set (flagSet_raise_self _ _)
    have hport : PortWithin (flagWord .phase ||| flagWord .fault ||| flagWord .line) b (settle s u) :=
      (hu ▸ forceOffRunning_within b).trans (settle_within (by decide) s u)
    obtain ⟨-, hcmd, hres, -⟩ := (portKept_iff _ _).1 hport.1
    have hrecord : u.ae.cause = .forcedOff ∧ u.ae.source = .none ∧ u.ae.retryCount = b.ae.retryCount ∧ u.ae.bid = none := by
      rw [hae, ← forcedOff_retryCount b]
      split <;> exact ⟨rfl, rfl, rfl, rfl⟩
    obtain ⟨hcause, hsource, hcount, hbid⟩ := hrecord
    refine ⟨settle s u, hexec, by rw [hcmd, hb]; rfl, by rw [hres, hb]; rfl, by rw [settle_ae, hcause], by rw [settle_ae, hsource],
      by rw [settle_ae, hcount, hb]; rfl, by rw [settle_ae, hbid], flagSet_settle hfault, by unfold gateOn; rw [settle_pp]; exact hopened,
      ?_, fun hd => ?_, fun hd => ?_, fun hg => ?_, fun hg => ?_, settle_outerKept ?_ ?_,
      (FlagsWithin.of_flags (by rw [hb]; rfl)).trans hport.2⟩
    · rw [isQueued_settle_ne (k := .bid) nofun, hu, forceOffRunning_bidQueued hreq, hb]
      rfl
    · rw [settle_pp] at hd
      rw [settle_ae, hae, if_neg (by simp [hd])]
      exact ⟨rfl, rfl⟩
    · rw [settle_pp] at hd
      rw [settle_ae, hae, if_pos hd]
      rfl
    · rw [settle_held, settle_pp, settle_bp, huheld, hupp, hubp, openGates_of_gateOn .opened b (hgate.trans hg)]
      refine ⟨rfl, ?_, rfl⟩
      show (openedPath .opened b.pp).path = .opened
      rw [openedPath_path, ite_self]
    · have hsame : openGates .opened b = b := openGates_of_gateOff .opened b (hgate.trans hg)
      refine settle_bladeKept ⟨?_, ?_, ?_, ?_⟩
      · rw [hupp, hsame, hb]; rfl
      · rw [huheld, hsame, hb]; rfl
      · rw [hubp, hsame, hb]; rfl
      · rw [hurc, hsame, hb]; rfl
    · rw [hbegin, (completeDischarge_quiet _).1, (beginDischarging_quiet _ _).1]
      show lineFrame (closeBid (openGates .opened b)).sli = _
      rw [closeBid_line, openGates_sli, hb]
      rfl
    · rw [hbegin, hb]
      simp [forcedOff, commandTaken]
  case starting =>
    obtain ⟨b, hb⟩ : ∃ b, b = commandTaken 0x05 .accepted s := ⟨_, rfl⟩
    obtain ⟨u, hu⟩ : ∃ u, u = forceOffStarting b := ⟨_, rfl⟩
    have haccepted : forceOffAccepted s = true := by
      rcases hstart with h | h <;> simp [forceOffAccepted, he, h]
    have hexec : exec .forceOff s = answer s u := by
      rw [exec_forceOff_accepted haccepted, if_pos he, hu, hb]
    have hgate : gateOn b = gateOn s := by rw [hb]; rfl
    have hpp : u.pp = (openGates .opened b).pp := by rw [hu]; rfl
    have hheld : u.held = (openGates .opened b).held := by rw [hu]; rfl
    have hgrows : PortGrows b u := by
      rw [hu]
      exact (openGates_grows .opened b).trans ((raise_grows .fault (openGates .opened b)).trans (.of_lpi rfl))
    have hport : PortGrows b (settle s u) := hgrows.trans (settle_grows s u)
    obtain ⟨-, -, hres, -⟩ := (portKept_iff _ _).1 hport.1
    refine ⟨settle s u, hexec, by rw [hres, hb]; rfl, ?_, flagSet_settle ?_, ?_, ?_, fun hg => ?_⟩
    · rw [settle_sc, hu, hb]
      simp [forceOffStarting, commandTaken]
    · rw [hu]
      exact flagSet_raise_self .fault (openGates .opened b)
    · unfold gateOn
      rw [settle_pp, hpp]
      exact gateOn_openGates .opened b (.inl rfl)
    · rw [settle_ae, hu]
      show (openGates .opened b).ae.engine = .none
      rw [openGates_engine, hb]
      exact he
    · rw [settle_held, settle_pp, hheld, hpp, openGates_of_gateOn .opened b (hgate.trans hg)]
      refine ⟨rfl, ?_⟩
      show (openedPath .opened b.pp).path = .opened
      rw [openedPath_path, ite_self]
  case notForced =>
    refine exec_forceOff_refused hs ?_
    rcases h with ⟨he, hc⟩ | ⟨he, hl, hr⟩
    · simp [forceOffAccepted, he, hc]
    · simp [forceOffAccepted, he, hl, hr]

end Sys2Proof.Machine

/-! Retire requests by state (R98, R142, R144, R145, R148, O55). -/

namespace Sys2Proof.Machine

/-! ## What a recorded retire's response keeps -/

/-- A retire is recorded, by a latch that is open where the latch is its source (R142). -/
def RetireHeld (b : State) : Prop := b.ae.source ≠ .none ∧ (b.ae.source = .latch → b.rc.latchOpen = true)

/-- The flags that a response to a retire can raise. -/
def retireFlags : BitVec 16 := flagWord .phase ||| flagWord .fault ||| flagWord .line

/-- What each operation of a response to a retire keeps: the source, the latch, the count where no bring-up fault is pending, what a
completed shed has set, a queued STANDING, and everything outside the engine, the blade and the requests. -/
structure RetireStep (b u : State) : Prop where
  source : u.ae.source = b.ae.source
  fault : b.ae.bringupFault = false → u.ae.bringupFault = false ∧ u.ae.retryCount = b.ae.retryCount
  latch : u.rc.latchOpen = b.rc.latchOpen ∧ u.rc.force = b.rc.force
  shed : b.ae.engine ≠ .none → u.ae.engine ≠ .none ∧ u.ae.profile = b.ae.profile ∧ u.ae.upgradeHold = b.ae.upgradeHold
    ∧ (b.ae.shedWait = none → u.ae.shedWait = none)
  standing : StandingKept b u
  line : lineFrame u.sli = lineFrame b.sli
  rest : u.fs = b.fs ∧ u.sv = b.sv ∧ u.inp = b.inp ∧ u.sc = b.sc ∧ u.freeCount = b.freeCount ∧ u.pending = b.pending
  port : PortWithin retireFlags b u

section
variable {b t u : State} {exit : DischargeExit}

/-- A step that moves the record, the held outputs, the program and the Retire Coordinator alone. -/
theorem RetireStep.of_blade (hu : u = { b with ae := u.ae, held := u.held, bp := u.bp, rc := u.rc })
    (hae : u.ae.source = b.ae.source ∧ u.ae.bringupFault = b.ae.bringupFault ∧ u.ae.retryCount = b.ae.retryCount)
    (hlatch : u.rc.latchOpen = b.rc.latchOpen ∧ u.rc.force = b.rc.force)
    (hshed : b.ae.engine ≠ .none → u.ae.engine ≠ .none ∧ u.ae.profile = b.ae.profile ∧ u.ae.upgradeHold = b.ae.upgradeHold
      ∧ (b.ae.shedWait = none → u.ae.shedWait = none)) : RetireStep b u := by
  obtain ⟨hsource, hfault, hcount⟩ := hae
  exact ⟨hsource, fun h => ⟨hfault.trans h, hcount⟩, hlatch, hshed, .of_sli (congrArg State.sli hu :),
    (congrArg (fun x => lineFrame x.sli) hu :), ⟨(congrArg State.fs hu :), (congrArg State.sv hu :), (congrArg State.inp hu :),
      (congrArg State.sc hu :), (congrArg State.freeCount hu :), (congrArg State.pending hu :)⟩, .of_lpi (congrArg State.lpi hu :)⟩

theorem RetireStep.refl (b : State) : RetireStep b b :=
  .of_blade rfl ⟨rfl, rfl, rfl⟩ ⟨rfl, rfl⟩ (fun h => ⟨h, rfl, rfl, id⟩)

theorem RetireStep.trans (h : RetireStep b t) (k : RetireStep t u) : RetireStep b u := by
  obtain ⟨hfs, hsv, hinp, hsc, hfree, hpend⟩ := h.rest
  obtain ⟨kfs, ksv, kinp, ksc, kfree, kpend⟩ := k.rest
  refine ⟨k.source.trans h.source, fun hb => ?_, ⟨k.latch.1.trans h.latch.1, k.latch.2.trans h.latch.2⟩, fun he => ?_,
    h.standing.trans k.standing, k.line.trans h.line,
    ⟨kfs.trans hfs, ksv.trans hsv, kinp.trans hinp, ksc.trans hsc, kfree.trans hfree, kpend.trans hpend⟩, h.port.trans k.port⟩
  · obtain ⟨hfault, hcount⟩ := h.fault hb
    obtain ⟨kfault, kcount⟩ := k.fault hfault
    exact ⟨kfault, kcount.trans hcount⟩
  · obtain ⟨hengine, hprofile, hhold, hwait⟩ := h.shed he
    obtain ⟨kengine, kprofile, khold, kwait⟩ := k.shed hengine
    exact ⟨kengine, kprofile.trans hprofile, khold.trans hhold, fun hnone => kwait (hwait hnone)⟩

theorem RetireStep.held (h : RetireStep b u) (hb : RetireHeld b) : RetireHeld u := by
  unfold RetireHeld
  rw [h.source, h.latch.1]
  exact hb

theorem openGates_retireStep (target : PathState) (b : State) : RetireStep b (openGates target b) := by
  refine ⟨openGates_source _ _, fun h => ⟨(openGates_bringupFault _ _).trans h, openGates_retryCount _ _⟩, ?_, fun he => ?_,
    .of_sli (by simp), by simp, by simp, openGates_within _ _⟩
  · unfold openGates
    split <;> exact ⟨rfl, rfl⟩
  · have hrecord : openedRecord b.ae = { b.ae with profFullPending := false } := if_neg he
    by_cases hg : gateOn b = true
    · rw [openGates_of_gateOn target b hg]
      show (openedRecord b.ae).engine ≠ .none ∧ _
      rw [hrecord]
      exact ⟨he, rfl, rfl, id⟩
    · rw [openGates_of_gateOff target b (by simpa using hg)]
      exact ⟨he, rfl, rfl, id⟩

theorem closeBid_retireStep (b : State) : RetireStep b (closeBid b) := by
  refine ⟨?_, fun h => ?_, by simp, fun he => ?_, closeBid_standingKept b, by simp, by simp, closeBid_within _⟩
  · rw [closeBid_ae]
    split <;> rfl
  · rw [closeBid_ae]
    split <;> exact ⟨h, rfl⟩
  · rw [closeBid_ae]
    split <;> exact ⟨he, rfl, rfl, id⟩

theorem announceFrom_retireStep (b u : State) : RetireStep u (announceFrom b u) :=
  ⟨by simp, fun h => by simpa using h, by simp, fun he => by simpa using he, announceFrom_standingKept b u, by simp, by simp, announceFrom_within (by decide) _ _⟩

theorem beginDischarging_retireStep (exit : DischargeExit) (hb : RetireHeld b) : RetireStep b (beginDischarging exit b) := by
  have hae : (beginDischarging exit b).ae = dischargingRecord exit b.ae := by rw [beginDischarging_ae, discharged_of_latch hb.2]
  refine ⟨by rw [hae]; rfl, fun _ => by rw [hae]; exact ⟨rfl, rfl⟩, by simp,
    fun _ => by rw [hae]; exact ⟨nofun, rfl, rfl, fun _ => rfl⟩, beginDischarging_standingKept exit b, by simp, by simp, beginDischarging_within (by decide) _ _⟩

theorem completeDischarge_retireStep (hx : b.ae.exit ≠ .waiting) : RetireStep b (completeDischarge b) := by
  have hae := completeDischarge_record hx
  refine ⟨?_, fun h => ?_, by simp, fun he => ?_, completeDischarge_standingKept b, by simp, by simp, completeDischarge_within_of_exit (by decide) _ hx⟩
  · rw [hae]
    split <;> rfl
  · rw [hae]
    split <;> exact ⟨h, rfl⟩
  · rw [hae]
    split
    · refine ⟨?_, rfl, rfl, id⟩
      cases hexit : b.ae.exit <;> simp [endedRecord, endState, hexit]
    · exact ⟨he, rfl, rfl, id⟩

theorem enterDischarging_retireStep (hexit : exit ≠ .waiting) (hb : RetireHeld b) : RetireStep b (enterDischarging exit b) := by
  refine (beginDischarging_retireStep exit hb).trans (completeDischarge_retireStep ?_)
  rw [beginDischarging_ae, discharged_of_latch hb.2]
  exact hexit

/-- The retry rule of a pending bring-up fault, a retire being recorded: its exit is RELEASED (R94). -/
theorem retryRule_retireStep (c : CountedFault) (hf : b.ae.bringupFault = true) (hb : RetireHeld b) : RetireStep b (retryRule c b) := by
  have hexit : retryExit (retryLimit b) b.ae = .released := if_pos hb.1
  have hcounted : RetireStep b (faultCounted c b) := by
    refine ⟨retryRecord_source _ _, fun h => absurd h (by simp [hf]), ⟨rfl, rfl⟩, fun he => ?_, .of_sli rfl, rfl,
      ⟨rfl, rfl, rfl, rfl, rfl, rfl⟩,
      PortWithin.trans (.of_lpi rfl) (raise_within (f := .fault) (by decide) { b with ae := retryRecord (retryLimit b) c b.ae })⟩
    show (retryRecord (retryLimit b) c b.ae).engine ≠ .none ∧ (retryRecord (retryLimit b) c b.ae).profile = b.ae.profile
      ∧ (retryRecord (retryLimit b) c b.ae).upgradeHold = b.ae.upgradeHold
      ∧ (b.ae.shedWait = none → (retryRecord (retryLimit b) c b.ae).shedWait = none)
    unfold retryRecord
    split <;> exact ⟨he, rfl, rfl, id⟩
  have hrule : retryRule c b = enterDischarging .released (faultCounted c b) := by
    unfold retryRule
    rw [beginRetry_eq, hexit]
    rfl
  rw [hrule]
  exact hcounted.trans (enterDischarging_retireStep nofun (hcounted.held hb))

/-! ## The teardown -/

theorem teardownComplete_retireStep (hb : RetireHeld b) : RetireStep b (teardownComplete b) := by
  have hopen := openGates_retireStep .opened b
  unfold teardownComplete
  split
  · show RetireStep b (if _ then _ else _)
    split
    · split
      · next hf => exact hopen.trans (retryRule_retireStep _ ((openGates_bringupFault _ _).trans hf) (hopen.held hb))
      · exact hopen.trans (enterDischarging_retireStep nofun (hopen.held hb))
    · exact hopen
  · exact .refl b

/-- The program and the held outputs are no part of what a response keeps. -/
theorem RetireStep.of_program (b : State) (held : HeldOutputs) (bp : BringUp) : RetireStep b { b with held := held, bp := bp } :=
  .of_blade rfl ⟨rfl, rfl, rfl⟩ ⟨rfl, rfl⟩ (fun h => ⟨h, rfl, rfl, id⟩)

theorem undoFrom_retireStep (n : Nat) (hb : RetireHeld b) : RetireStep b (undoFrom n b) := by
  induction n generalizing b with
  | zero => exact teardownComplete_retireStep hb
  | succ n ih =>
    unfold undoFrom
    split
    · exact ih hb
    · next r _ =>
      have hstep := RetireStep.of_program b (driveDown r.action b.held) (undoing (n + 1) r.teardown b.bp)
      show RetireStep b (if _ then _ else _)
      split
      · exact hstep.trans (ih (hstep.held hb))
      · exact hstep

theorem teardownCommand_retireStep (hb : RetireHeld b) : RetireStep b (teardownCommand b) := by
  have hstep := RetireStep.of_program b b.held (undoing b.bp.pointer 0 b.bp)
  unfold teardownCommand
  split
  · exact teardownComplete_retireStep hb
  · exact hstep.trans (undoFrom_retireStep _ (hstep.held hb))
  · exact hstep.trans (undoFrom_retireStep _ (hstep.held hb))
  · exact .refl b

/-- The station in TEARDOWN, before it is announced (R149). -/
def tearing (b : State) : State :=
  { b with ae := { b.ae with engine := .retiring .teardown, profFullPending := false }, held := { b.held with takeover := false },
           rc := { b.rc with handover := none, quiesce := none, mateGone := false } }

theorem enterTeardown_retireStep (hb : RetireHeld b) : RetireStep b (enterTeardown b) := by
  have hentered : RetireStep b (tearing b) := .of_blade rfl ⟨rfl, rfl, rfl⟩ ⟨rfl, rfl⟩ (fun _ => ⟨nofun, rfl, rfl, id⟩)
  have hstep : RetireStep b (announceFrom b (tearing b)) := hentered.trans (announceFrom_retireStep b (tearing b))
  exact hstep.trans (teardownCommand_retireStep (hstep.held hb))

/-! ## Entries into RETIRING -/

/-- The state in DRAINING, before QUIESCED is looked at (R148). -/
def draining (b : State) : State :=
  { b with ae := { b.ae with engine := .retiring .draining }, held := { b.held with drain := true },
           rc := { b.rc with handover := none, handoverReq := false, quiesce := some (quiesceMs b) } }

/-- The state in HANDOVER, before its condition is looked at (R145). -/
def handingOver (b : State) : State :=
  { b with ae := { b.ae with engine := .retiring .handover },
           rc := { b.rc with handoverReq := true, handover := some (handoverMs b) } }

/-- The state in RETIRING, before its phase is announced (R144). -/
def retiring (b : State) : State :=
  { b with ae := { b.ae with engine := .retiring .draining, excursion := false, retryHold := none, shedWait := none } }

theorem enterDraining_cases (b : State) : enterDraining b = if b.inp.quiesced then enterTeardown (draining b) else draining b := rfl

theorem enterHandover_cases (b : State) : enterHandover b
    = if b.rc.latchHeld || handoverCondition b then enterDraining (handingOver b) else handingOver b := rfl

theorem enterRetiring_cases (b : State) : enterRetiring b
    = if (ownMate b).isSome && b.ae.carrying then enterHandover (announceFrom b (retiring b)) else enterDraining (announceFrom b (retiring b)) := rfl

theorem enterDraining_retireStep (hb : RetireHeld b) : RetireStep b (enterDraining b) := by
  have hstep : RetireStep b (draining b) :=
    .of_blade rfl ⟨rfl, rfl, rfl⟩ ⟨rfl, rfl⟩ (fun _ => ⟨nofun, rfl, rfl, id⟩)
  rw [enterDraining_cases]
  split
  · exact hstep.trans (enterTeardown_retireStep (hstep.held hb))
  · exact hstep

theorem enterHandover_retireStep (hb : RetireHeld b) : RetireStep b (enterHandover b) := by
  have hstep : RetireStep b (handingOver b) :=
    .of_blade rfl ⟨rfl, rfl, rfl⟩ ⟨rfl, rfl⟩ (fun _ => ⟨nofun, rfl, rfl, id⟩)
  rw [enterHandover_cases]
  split
  · exact hstep.trans (enterDraining_retireStep (hstep.held hb))
  · exact hstep

theorem enterRetiring_retireStep (hb : RetireHeld b) : RetireStep b (enterRetiring b) := by
  have hentered : RetireStep b (retiring b) :=
    .of_blade rfl ⟨rfl, rfl, rfl⟩ ⟨rfl, rfl⟩ (fun _ => ⟨nofun, rfl, rfl, fun _ => rfl⟩)
  have hstep := hentered.trans (announceFrom_retireStep b (retiring b))
  rw [enterRetiring_cases]
  split
  · exact hstep.trans (enterHandover_retireStep (hstep.held hb))
  · exact hstep.trans (enterDraining_retireStep (hstep.held hb))

/-! ## The response -/

theorem respondRetire_retireStep (hb : RetireHeld b) : RetireStep b (respondRetire b) := by
  unfold respondRetire
  split
  case h_2 | h_3 | h_4 | h_5 => exact enterDischarging_retireStep nofun hb
  case h_6 => exact (openGates_retireStep .opened b).trans (enterDischarging_retireStep nofun ((openGates_retireStep .opened b).held hb))
  case h_7 =>
    split
    · exact .refl b
    · exact enterTeardown_retireStep hb
  case h_8 => exact enterRetiring_retireStep hb
  case h_9 => exact (closeBid_retireStep b).trans (enterRetiring_retireStep ((closeBid_retireStep b).held hb))
  case h_13 => exact .of_blade rfl ⟨rfl, rfl, rfl⟩ ⟨rfl, rfl⟩ (fun h => ⟨h, rfl, rfl, id⟩)
  case h_14 =>
    split
    · exact .refl b
    · exact enterDischarging_retireStep nofun hb
  all_goals exact .refl b

end

end Sys2Proof.Machine

/-! The states a retire request leads to, and the settling of O55. -/

namespace Sys2Proof.Machine

/-! ## The request taken -/

/-- A retire request taken in s: its source recorded, with the latch's level or the command's result (R142). -/
structure RetireAsked (c : Instr) (src : RetireSource) (s b : State) : Prop where
  ae : b.ae = { s.ae with source := src }
  blade : b.pp = s.pp ∧ b.held = s.held ∧ b.bp = s.bp
  sli : b.sli = s.sli
  rest : b.fs = s.fs ∧ b.sv = s.sv ∧ b.inp = s.inp ∧ b.sc = s.sc ∧ b.freeCount = s.freeCount ∧ b.pending = s.pending
  flags : b.lpi.flags = s.lpi.flags
  latchHeld : b.rc.latchHeld = s.rc.latchHeld
  opening : c = .latchOpening → b.rc.latchOpen = true ∧ b.rc.force = some 10000 ∧ b.lpi.lastCmd = s.lpi.lastCmd
  command : c = .retire → b.lpi.lastCmd = 0x01 ∧ b.lpi.result = .accepted
  held : RetireHeld b

section
variable {c : Instr} {src : RetireSource} {s b g : State} {p : ProfileData}

theorem requestRetire_accepted (h : retireAccepted s = true) :
    requestRetire src s = respondRetire { s with ae := { s.ae with source := src } } := if_pos h

/-- A station that takes requests on is in no silent STOPPED (R39, R97). -/
theorem loud_of_requests (hstart : s.sc.start = .done) (hr : Requests s) : silentCause s.ae.cause = false ∨ s.ae.engine ≠ .stopped := by
  have hsilent := hr.1
  cases hcause : silentCause s.ae.cause with
  | false => exact .inl rfl
  | true =>
    refine .inr (fun he => ?_)
    simp [silent, hstart, he, hcause] at hsilent

theorem retireAccepted_of_loud (hsource : s.ae.source = .none) (he : s.ae.engine ≠ .none)
    (h : silentCause s.ae.cause = false ∨ s.ae.engine ≠ .stopped) : retireAccepted s = true := by
  rw [← Bool.not_eq_false, retireAccepted_eq_false_iff]
  rintro (hnone | hs | ⟨hstop, hsilent⟩)
  · exact he hnone
  · exact hs hsource
  · rcases h with h | h
    · simp [h] at hsilent
    · exact h hstop

theorem exec_retireRequest (hc : c = .latchOpening ∧ src = .latch ∨ c = .retire ∧ src = .command) (h : retireAccepted s = true) :
    ∃ b, exec c s = answer s (respondRetire b) ∧ RetireAsked c src s b := by
  rcases hc with ⟨rfl, rfl⟩ | ⟨rfl, rfl⟩
  · refine ⟨{ s with rc := latchOpened s.rc, ae := { s.ae with source := .latch } }, ?_,
      rfl, ⟨rfl, rfl, rfl⟩, rfl, ⟨rfl, rfl, rfl, rfl, rfl, rfl⟩, rfl, rfl, fun _ => ⟨rfl, rfl, rfl⟩, nofun,
      nofun, fun _ => rfl⟩
    rw [exec_latchOpening, requestRetire_accepted (s := { s with rc := latchOpened s.rc }) h]
  · refine ⟨{ commandTaken 0x01 .accepted s with ae := { s.ae with source := .command } }, ?_,
      rfl, ⟨rfl, rfl, rfl⟩, rfl, ⟨rfl, rfl, rfl, rfl, rfl, rfl⟩, rfl, rfl, nofun, fun _ => ⟨rfl, rfl⟩,
      nofun, nofun⟩
    show answer s (requestRetire .command (commandTaken 0x01 (acceptedIf (retireAccepted s)) s)) = _
    rw [h, requestRetire_accepted (s := commandTaken 0x01 (acceptedIf true) s) h]
    rfl

theorem exec_retire_refused (hs : Settled s) (h : retireAccepted s = false) :
    exec .retire s = .next (commandTaken 0x01 .refusedState s) := by
  show answer s (requestRetire .command (commandTaken 0x01 (acceptedIf (retireAccepted s)) s)) = _
  rw [h, requestRetire_refused (s := commandTaken 0x01 (acceptedIf false) s) .command h]
  exact answer_commandTaken hs 0x01 .refusedState

/-! ## From the states that hold no power -/

/-- A response that discharges at once, from a state that holds no power (R98). -/
theorem respondRetire_discharges (hc : silentCause b.ae.cause = false ∨ b.ae.engine ≠ .stopped)
    (he : b.ae.engine = .waiting ∨ b.ae.engine = .bidding ∨ b.ae.engine = .backoff ∨ b.ae.engine = .cooldown ∨ b.ae.engine = .stopped) :
    respondRetire b = enterDischarging .released b := by
  unfold respondRetire
  rcases he with he | he | he | he | he
  case inr.inr.inr.inr =>
    rw [he]
    exact if_neg (by simpa [he] using hc)
  all_goals rw [he]

/-- The record behind such a response, in RELEASED where the node is already discharged (R95, R98). -/
theorem enterDischarging_released_ae (hb : RetireHeld b) : (enterDischarging .released b).ae
    = if b.pp.discharged = true then endedRecord (dischargingRecord .released b.ae) else dischargingRecord .released b.ae := by
  have hbegin : (beginDischarging .released b).ae = dischargingRecord .released b.ae := by
    rw [beginDischarging_ae, discharged_of_latch hb.2]
  unfold enterDischarging
  rw [completeDischarge_record (by rw [hbegin]; exact nofun), hbegin, beginDischarging_pp]
  simp [dischargingRecord]

theorem enterDischarging_announced (hr : Requests b) (hp : announcedPhase b ≠ some .stopped) (exit : DischargeExit) :
    flagSet .phase (enterDischarging exit b) = true ∧ isQueued .standing (enterDischarging exit b).sli.queue = true := by
  unfold enterDischarging
  rw [beginDischarging_announced hr hp]
  exact ⟨(completeDischarge_grows _).flagSet_of_set (announced_flags _), completeDischarge_standingKept _ (announced_standing _)⟩

/-! ## From BRINGUP -/

theorem enteringTeardown_announced (hr : Requests b) (hp : announcedPhase b ≠ some .retiring) :
    enteringTeardown b = announced (tearing b) :=
  announceFrom_new (u := tearing b) (ph := .retiring) (hr.of_engine rfl nofun rfl) rfl hp

/-- A forward run halts, and its completed steps are undone from the last, whose teardown dwell holds the teardown (R98, R133). -/
theorem teardownCommand_forward {n : Nat} {r : StepRecord} (hf : b.bp.prog = .forward) (hn : b.bp.completed = n + 1)
    (hr : (stepTable b)[n]? = some r) (ht : 0 < r.teardown) : teardownCommand b = { b with
      held := driveDown r.action b.held
      bp := { b.bp with prog := .teardown, pointer := n + 1, stepTimer := none, dwell := none, edge := false, teardown := some r.teardown } } := by
  have hwaits := undoFrom_waits (s := { b with bp := undoing b.bp.pointer 0 b.bp }) hr ht
  unfold teardownCommand
  rw [hf, hn]
  refine hwaits.trans ?_
  simp [undoing, Nat.pos_iff_ne_zero.1 ht]

/-! ## From ADMITTED -/

/-- A retire from ADMITTED whose first substate lasts: HANDOVER with a mate configured and CARRYING set, else DRAINING (R144, R145,
R148). -/
theorem enterRetiring_waits (hr : Requests g) (hp : announcedPhase g ≠ some .retiring) (hheld : g.rc.latchHeld = false)
    (hcond : handoverCondition g = false) (hq : g.inp.quiesced = false) : enterRetiring g
      = if (ownMate g).isSome && g.ae.carrying then handingOver (announced (retiring g)) else draining (announced (retiring g)) := by
  have hann : announceFrom g (retiring g) = announced (retiring g) :=
    announceFrom_new (ph := .retiring) (hr.of_engine rfl nofun rfl) rfl hp
  have hover : enterHandover (announced (retiring g)) = handingOver (announced (retiring g)) := by
    refine (enterHandover_cases _).trans (if_neg ?_)
    show ¬ (g.rc.latchHeld || handoverCondition g) = true
    simp [hheld, hcond]
  have hdrain : enterDraining (announced (retiring g)) = draining (announced (retiring g)) := by
    refine (enterDraining_cases _).trans (if_neg ?_)
    show ¬ g.inp.quiesced = true
    simp [hq]
  rw [enterRetiring_cases, hann, hover, hdrain]

/-- What a retire from ADMITTED shows, as the obligations tell it. -/
theorem enterRetiring_shown (hr : Requests g) (hp : announcedPhase g ≠ some .retiring) (hheld : g.rc.latchHeld = false)
    (hcond : handoverCondition g = false) (hq : g.inp.quiesced = false) (hprofile : g.sc.profile = some p) :
    (enterRetiring g).pp = g.pp ∧ (enterRetiring g).bp = g.bp ∧ (enterRetiring g).ae.excursion = false
      ∧ (enterRetiring g).ae.retryHold = none ∧ (enterRetiring g).ae.bid = g.ae.bid
      ∧ (enterRetiring g).lpi = (announced (retiring g)).lpi ∧ (enterRetiring g).sli = (announced (retiring g)).sli
      ∧ (ownMate g ≠ none → g.ae.carrying = true → (enterRetiring g).ae.engine = .retiring .handover
          ∧ (enterRetiring g).rc.handoverReq = true ∧ (enterRetiring g).rc.handover = some p.tHandover
          ∧ (enterRetiring g).held = g.held)
      ∧ (ownMate g = none ∨ g.ae.carrying = false → (enterRetiring g).ae.engine = .retiring .draining
          ∧ (enterRetiring g).rc.quiesce = some p.tQuiesce ∧ (enterRetiring g).held = { g.held with drain := true }) := by
  have hover : handoverMs (announced (retiring g)) = p.tHandover := by
    show handoverMs g = p.tHandover
    simp [handoverMs, hprofile]
  have hquiesce : quiesceMs (announced (retiring g)) = p.tQuiesce := by
    show quiesceMs g = p.tQuiesce
    simp [quiesceMs, hprofile]
  rw [enterRetiring_waits hr hp hheld hcond hq]
  split
  · next h =>
    obtain ⟨hmate, hcarry⟩ : ownMate g ≠ none ∧ g.ae.carrying = true := by simpa [Option.isSome_iff_ne_none] using h
    refine ⟨rfl, rfl, rfl, rfl, rfl, rfl, rfl, fun _ _ => ⟨rfl, rfl, congrArg some hover, rfl⟩, fun hno => ?_⟩
    rcases hno with hno | hno
    · exact absurd hno hmate
    · simp [hcarry] at hno
  · next h =>
    refine ⟨rfl, rfl, rfl, rfl, rfl, rfl, rfl, fun hmate hcarry => absurd ?_ h, fun _ => ⟨rfl, congrArg some hquiesce, rfl⟩⟩
    simp [Option.isSome_iff_ne_none, hmate, hcarry]

end

section
variable {b : State}

/-- What a retire from ADMITTED starts from: the station asked, its upgrade bid closed where one is open (R98). -/
structure RetireTaken (b g : State) : Prop where
  blade : BladeKept b g
  sc : g.sc = b.sc
  sv : g.sv = b.sv
  inp : g.inp = b.inp
  carrying : g.ae.carrying = b.ae.carrying
  phase : announcedPhase g = announcedPhase b
  requests : Requests g

theorem RetireTaken.refl (h : Requests b) : RetireTaken b b := ⟨⟨rfl, rfl, rfl, rfl⟩, rfl, rfl, rfl, rfl, rfl, h⟩

theorem RetireTaken.closeBid (h : Requests b) : RetireTaken b (closeBid b) := by
  refine ⟨⟨by simp, by simp, by simp, by simp⟩, by simp, by simp, by simp, ?_, ?_, h.closeBid⟩
  · rw [closeBid_ae]
    split <;> rfl
  · unfold announcedPhase
    rw [silent_closeBid, closeBid_engine_eq]

end

/-- Settles O55. -/
theorem retireRequestsByState : Obligations.RetireRequestsByState := by
  refine ⟨fun p c src s hprofile hstart hr hs hc hsource hengine => ?accepted, fun s hs h => exec_retire_refused hs (retireAccepted_eq_false_iff.2 ?_)⟩
  case accepted =>
    have hloud := loud_of_requests hstart hr
    have haccepted := retireAccepted_of_loud hsource hengine hloud
    obtain ⟨b, hexec, hasked⟩ := exec_retireRequest hc haccepted
    obtain ⟨u, hu⟩ : ∃ u, u = respondRetire b := ⟨_, rfl⟩
    rw [← hu] at hexec
    have hbae := hasked.ae
    obtain ⟨hbpp, hbheld, hbbp⟩ := hasked.blade
    have hbsli := hasked.sli
    obtain ⟨hbfs, hbsv, hbinp, hbsc, hbfree, hbpend⟩ := hasked.rest
    have hbe : b.ae.engine = s.ae.engine := by rw [hbae]
    have hbbid : b.ae.bid = s.ae.bid := by rw [hbae]
    have hbr : Requests b := by
      refine ⟨?_, by rw [hbsli]; exact hr.2⟩
      rw [← hr.1]
      unfold silent
      rw [hbae, hbsc]
    have hstep : RetireStep b u := hu ▸ respondRetire_retireStep hasked.held
    have hport : PortWithin retireFlags b (settle s u) := hstep.port.trans (settle_within (by decide) s u)
    obtain ⟨-, hcmd, hres, -⟩ := (portKept_iff _ _).1 hport.1
    have hphase : announcedPhase b = phaseOf s.ae.engine := by
      unfold announcedPhase
      rw [hbr.1, hbe]
      rfl
    refine ⟨settle s u, hexec, ?_, fun hretire => ?_, fun hopening => ?_, fun hfault => ?_, settle_outerKept ?_ ?_,
      (FlagsWithin.of_flags hasked.flags).trans hport.2, fun he hbid => ?idle, fun he hg hv => ?powering, fun he => ?discharging,
      fun he hf => ?faulted, fun n r he hf hprog hdone hrec hdwell => ?forward, fun he hheld hcond hq => ?admitted, fun he => ?kept⟩
    · rw [settle_ae, hstep.source, hbae]
    · rw [hcmd, hres]
      exact hasked.command hretire
    · obtain ⟨hopen, hforce, hlast⟩ := hasked.opening hopening
      rw [settle_rc, hstep.latch.1, hstep.latch.2, hcmd]
      exact ⟨hopen, hforce, hlast⟩
    · rw [settle_ae, (hstep.fault (by rw [hbae]; exact hfault)).2, hbae]
    · rw [hstep.line, hbsli]
    · have hrest := hstep.rest
      rw [hbfs, hbsv, hbinp, hbsc, hbfree, hbpend] at hrest
      exact hrest
    case idle =>
      have hresp : u = enterDischarging .released b := by
        rw [hu]
        exact respondRetire_discharges (by rw [hbae]; exact hloud) (by rw [hbe]; exact he)
      have hae := enterDischarging_released_ae hasked.held
      rw [← hresp, hbpp] at hae
      have hbegin : u = completeDischarge (beginDischarging .released b) := hresp
      have hexit : (beginDischarging .released b).ae.exit ≠ .waiting := by
        rw [beginDischarging_ae, discharged_of_latch hasked.held.2]
        exact nofun
      refine ⟨?_, fun hd => ?_, ?_, ?_, ?_, ⟨?_, ?_, ?_, rfl⟩, fun hne => ?_, fun hbidding => ⟨?_, fun hqueue => ?_⟩⟩
      · rw [settle_ae, hae]
        split <;> rfl
      · rw [settle_ae, hae, if_neg (by simp [hd])]
        rfl
      · rw [settle_ae, hae]
        split <;> rfl
      · rw [settle_ae, hae]
        split <;> rfl
      · rw [settle_ae, hae]
        split <;> rfl
      · rw [settle_pp, hbegin, completeDischarge_pp, beginDischarging_pp, hbpp]
      · rw [settle_held, hbegin, completeDischarge_held, beginDischarging_held, hbheld]
      · rw [settle_bp, hbegin, completeDischarge_bp, beginDischarging_bp, hbbp]
      · have hnew : announcedPhase b ≠ some .stopped := by
          rw [hphase]
          rcases he with he | he | he | he | he
          case inr.inr.inr.inr => exact absurd he hne
          all_goals
            rw [he]
            exact nofun
        obtain ⟨hflag, hstanding⟩ := enterDischarging_announced hbr hnew .released
        rw [← hresp] at hflag hstanding
        exact ⟨flagSet_settle hflag, settle_standingKept s u hstanding⟩
      · have hopen : s.ae.bid.isSome = true := hbid.2 hbidding
        rw [isQueued_settle_ne (k := .bid) nofun, hbegin, isQueued_completeDischarge (k := .bid) nofun hexit,
          isQueued_bid_beginDischarging hbr, hbbid]
        simp [Option.isSome_iff_ne_none.1 hopen]
      · rw [isQueued_settle_ne (k := .yield) nofun, hbegin, isQueued_completeDischarge (k := .yield) nofun hexit]
        exact isQueued_yield_beginDischarging hbr (by rw [hbbid]; exact hbid.2 hbidding) (by rw [hbsli]; exact hqueue)
    case powering =>
      obtain ⟨hopath, hodis, -, hoheld, -⟩ := openGates_charged (target := .opened) (s := b) (by unfold gateOn; rw [hbpp]; exact hg)
        (by rw [hbpp]; exact hv)
      have hresp : u = enterDischarging .released (openGates .opened b) := by
        rw [hu]
        unfold respondRetire
        rw [hbe, he]
      have hbegin : u = beginDischarging .released (openGates .opened b) := hresp.trans (enterDischarging_charged hodis)
      have hae : u.ae = dischargingRecord .released (openGates .opened b).ae := by
        rw [hbegin, beginDischarging_ae]
        exact discharged_of_latch ((openGates_retireStep .opened b).held hasked.held).2
      rw [settle_ae, settle_pp, settle_held, hae, hbegin, beginDischarging_pp, beginDischarging_held]
      exact ⟨rfl, rfl, hopath, rfl, hoheld⟩
    case discharging =>
      have hresp : u = { b with ae := { b.ae with exit := .released } } := by
        rw [hu]
        unfold respondRetire
        rw [hbe, he]
      rw [settle_ae, hresp]
      refine ⟨by rw [hbae], ?_⟩
      exact ⟨(settle_pp _ _).trans hbpp, (settle_held _ _).trans hbheld, (settle_bp _ _).trans hbbp, rfl⟩
    case faulted =>
      have hresp : u = b := by
        rw [hu]
        unfold respondRetire
        rw [hbe, he]
        exact if_pos (by rw [hbae]; exact hf)
      rw [settle_ae, hresp]
      exact ⟨hbae, (settle_pp _ _).trans hbpp, (settle_held _ _).trans hbheld, (settle_bp _ _).trans hbbp, rfl⟩
    case forward =>
      have hresp : u = teardownCommand (announced (tearing b)) := by
        rw [hu, ← enteringTeardown_announced hbr (by rw [hphase, he]; exact nofun), ← enterTeardown_eq]
        unfold respondRetire
        rw [hbe, he]
        exact if_neg (by rw [hbae]; simp [hf])
      have hundone := hresp.trans (teardownCommand_forward (b := announced (tearing b)) (n := n) (r := r)
        (by show b.bp.prog = _; rw [hbbp, hprog]) (by show b.bp.completed = _; rw [hbbp, hdone])
        (by show (stepTable b)[n]? = _; unfold stepTable; rw [hbsc]; exact hrec) hdwell)
      refine ⟨?_, ?_, ?_, ?_, flagSet_settle ?_, settle_standingKept s u ?_⟩
      · rw [settle_ae, hundone]
        show { b.ae with engine := .retiring .teardown, profFullPending := false } = _
        rw [hbae]
      · rw [settle_held, hundone]
        show driveDown r.action { b.held with takeover := false } = _
        rw [hbheld]
      · rw [settle_bp, hundone]
        show { b.bp with prog := .teardown, pointer := n + 1, stepTimer := none, dwell := none, edge := false,
                         teardown := some r.teardown } = _
        rw [hbbp]
      · rw [settle_pp, hundone]
        exact hbpp
      · rw [hundone]
        exact announced_flags (tearing b)
      · rw [hundone]
        exact announced_standing (tearing b)
    case admitted =>
      obtain ⟨g, hresp, hg⟩ : ∃ g, u = enterRetiring g ∧ (g = b ∧ s.ae.engine ≠ .admitted .upgradeBid ∨ g = closeBid b ∧ s.ae.bid.isSome = true) := by
        rcases he with he | ⟨he, hbid⟩
        · refine ⟨b, ?_, .inl ⟨rfl, by simp [he]⟩⟩
          rw [hu]
          unfold respondRetire
          rw [hbe, he]
        · refine ⟨closeBid b, ?_, .inr ⟨rfl, hbid⟩⟩
          rw [hu]
          unfold respondRetire
          rw [hbe, he]
      have hfrom : RetireTaken b g := by
        rcases hg with ⟨rfl, -⟩ | ⟨rfl, -⟩
        · exact .refl hbr
        · exact .closeBid hbr
      obtain ⟨hgpp, hgheld, hgbp, hgrc⟩ := hfrom.blade
      have hmate : ownMate g = ownMate s := by
        unfold ownMate
        rw [hfrom.sc, hbsc]
      have hgcond : handoverCondition g = false := by
        rw [← hcond]
        unfold handoverCondition mateEntry namesOwn
        rw [hmate, hfrom.sv, hbsv, hfrom.sc, hbsc]
      have hnew : announcedPhase g ≠ some .retiring := by
        rw [hfrom.phase, hphase]
        rcases he with he | ⟨he, -⟩ <;> simp [he, phaseOf]
      obtain ⟨hpp, hbp, hexc, hhold, hbid, hlpi, hsli, hover, hdrain⟩ := enterRetiring_shown (p := p) hfrom.requests hnew
        (by rw [hgrc, hasked.latchHeld, hheld]) hgcond (by rw [hfrom.inp, hbinp, hq]) (by rw [hfrom.sc, hbsc, hprofile])
      rw [← hresp] at hpp hbp hexc hhold hbid hlpi hsli hover hdrain
      rw [hmate, hfrom.carrying, hbae, hgheld, hbheld] at hover hdrain
      have hqueue {k : NoticeKind} (hk : k ≠ .standing) : isQueued k (settle s u).sli.queue = isQueued k g.sli.queue := by
        rw [isQueued_settle_ne hk, hsli]
        show isQueued k (joinTail .standing g.sli.queue) = _
        rw [isQueued_joinTail, decide_eq_false hk.symm, Bool.or_false]
      refine ⟨by rw [settle_pp, hpp, hgpp, hbpp], by rw [settle_bp, hbp, hgbp, hbbp], by rw [settle_ae, hexc], by rw [settle_ae, hhold],
        flagSet_settle ?_, settle_standingKept s u ?_, fun hup => ?_, ?_, ?_⟩
      · unfold flagSet
        rw [hlpi]
        exact announced_flags (retiring g)
      · rw [hsli]
        exact announced_standing (retiring g)
      · rcases hg with ⟨-, hno⟩ | ⟨rfl, hopen⟩
        · exact absurd hup hno
        · refine ⟨?_, ?_, fun hnone => ?_⟩
          · rw [settle_ae, hbid, closeBid_ae, hbbid, if_pos hopen]
          · rw [hqueue (k := .bid) nofun, isQueued_bid_closeBid hbr, hbbid]
            simp [Option.isSome_iff_ne_none.1 hopen]
          · rw [hqueue (k := .yield) nofun]
            exact isQueued_yield_closeBid hbr (by rw [hbbid]; exact hopen) (by rw [hbsli]; exact hnone)
      · rw [settle_ae, settle_rc, settle_held]
        exact hover
      · rw [settle_ae, settle_rc, settle_held]
        exact hdrain
    case kept =>
      have hresp : u = b := by
        rw [hu]
        unfold respondRetire
        rcases he with he | he | ⟨sub, he⟩ <;> rw [hbe, he]
      rw [settle_ae, hresp]
      exact ⟨hbae, (settle_pp _ _).trans hbpp, (settle_held _ _).trans hbheld, (settle_bp _ _).trans hbbp, rfl⟩
  · rcases h with h | h | h
    · exact .inr (.inl h)
    · exact .inl h
    · exact .inr (.inr h)

end Sys2Proof.Machine

/-! The ends of the retiring substates and the mate's notices (R145 to R149, R154, R155, O56). -/

namespace Sys2Proof.Machine

section
variable {s u b : State} {p : ProfileData}

/-! ## Between the substates -/

/-- With no head notice due its LINE event, an event's end raises no flag. -/
theorem settle_flags (h : NotDue u) : (settle s u).lpi.flags = u.lpi.flags := by
  have hflags := (settle_within_of_not_due 0 s u h).2.1
  simpa using hflags

/-- Two states in RETIRING with one record of claims, requests and copies request nothing between them. -/
structure RetiringOn (s u : State) : Prop where
  before : ∃ sub, s.ae.engine = .retiring sub
  after : ∃ sub, u.ae.engine = .retiring sub
  sc : u.sc = s.sc
  record : u.ae.profile = s.ae.profile ∧ u.ae.bid = s.ae.bid ∧ u.ae.carrying = s.ae.carrying ∧ u.ae.vC = s.ae.vC
  request : u.rc.handoverReq = s.rc.handoverReq

theorem RetiringOn.standingDue (h : RetiringOn s u) : standingDue s u = false := by
  obtain ⟨sub, hs⟩ := h.before
  obtain ⟨sub', hu⟩ := h.after
  obtain ⟨hprofile, hbid, hcarrying, hvC⟩ := h.record
  have hclaim : ownClaim u = ownClaim s := by
    unfold ownClaim
    rw [hs, hu]
    simp only [ownSteady, h.sc, hprofile, hvC]
  simp [Machine.standingDue, hclaim, bidOpen, hprofile, hbid, hcarrying, h.request]

theorem RetiringOn.silent (h : RetiringOn s u) : silent u = silent s := by
  obtain ⟨sub, hs⟩ := h.before
  obtain ⟨sub', hu⟩ := h.after
  simp [Machine.silent, hs, hu, h.sc]

theorem RetiringOn.settle (h : RetiringOn s u) (hs : Settled s) (hsli : u.sli = s.sli) : settle s u = settleLamp s u :=
  settle_of_unasked hs h.standingDue h.silent hsli

/-! ## The ends of HANDOVER and HELD -/

theorem exec_handoverTimerExpiry (he : s.ae.engine = .retiring .handover) (ht : s.rc.handover.isSome = true) :
    exec .handoverTimerExpiry s = answer s
      (raise .held { s with ae := { s.ae with engine := .retiring .held }, rc := { s.rc with handover := none } }) :=
  congrArg (answer s) (if_pos ⟨he, ht⟩)

theorem exec_forceTimerExpiry (h : s.rc.force.isSome = true) :
    exec .forceTimerExpiry s = answer s (forceRetire { s with rc := { s.rc with force := none, latchHeld := true } }) :=
  congrArg (answer s) (if_pos h)

theorem forceRetire_other (hh : s.ae.engine ≠ .retiring .handover) (hd : s.ae.engine ≠ .retiring .held) : forceRetire s = s :=
  if_neg (fun h => h.elim hh hd)

/-- A force that ends HANDOVER or HELD, QUIESCED low (R147, R148). -/
theorem forceRetire_drains (h : s.ae.engine = .retiring .handover ∨ s.ae.engine = .retiring .held) (hq : s.inp.quiesced = false) :
    forceRetire s = draining s :=
  (if_pos h).trans ((enterDraining_cases s).trans (if_neg (by simp [hq])))

theorem exec_forceRetire (h : s.ae.engine = .retiring .handover ∨ s.ae.engine = .retiring .held) (hq : s.inp.quiesced = false) :
    exec .forceRetire s = answer s (draining (commandTaken 0x03 .accepted s)) := by
  have haccepted : forceAccepted s = true := decide_eq_true h
  show answer s (forceRetire (commandTaken 0x03 (acceptedIf (forceAccepted s)) s)) = _
  rw [haccepted]
  exact congrArg (answer s) (forceRetire_drains (s := commandTaken 0x03 .accepted s) h hq)

theorem exec_forceRetire_refused (hs : Settled s) (hh : s.ae.engine ≠ .retiring .handover) (hd : s.ae.engine ≠ .retiring .held) :
    exec .forceRetire s = .next (commandTaken 0x03 .refusedState s) := by
  have hrefused : forceAccepted s = false := decide_eq_false (fun h => h.elim hh hd)
  show answer s (forceRetire (commandTaken 0x03 (acceptedIf (forceAccepted s)) s)) = _
  rw [hrefused, forceRetire_other (s := commandTaken 0x03 (acceptedIf false) s) hh hd]
  exact answer_commandTaken hs 0x03 .refusedState

/-- What an entry into DRAINING leaves, whatever moved the Retire Coordinator's own fields and the port before it. -/
theorem settle_draining (hae : b.ae = s.ae) (hblade : b.pp = s.pp ∧ b.held = s.held ∧ b.bp = s.bp) (hsli : b.sli = s.sli)
    (hrest : b.fs = s.fs ∧ b.sv = s.sv ∧ b.inp = s.inp ∧ b.sc = s.sc ∧ b.freeCount = s.freeCount ∧ b.pending = s.pending)
    (hflags : b.lpi.flags = s.lpi.flags) (hs : Settled s) (hprofile : s.sc.profile = some p) :
    (settle s (draining b)).ae = { s.ae with engine := .retiring .draining } ∧ (settle s (draining b)).rc.handover = none
      ∧ (settle s (draining b)).rc.handoverReq = false ∧ (settle s (draining b)).rc.quiesce = some p.tQuiesce
      ∧ (settle s (draining b)).held = { s.held with drain := true } ∧ (settle s (draining b)).pp = s.pp
      ∧ (settle s (draining b)).bp = s.bp ∧ OuterKept s (settle s (draining b))
      ∧ (settle s (draining b)).lpi.flags = s.lpi.flags := by
  obtain ⟨hpp, hheld, hbp⟩ := hblade
  obtain ⟨hfs, hsv, hinp, hsc, hfree, hpend⟩ := hrest
  have hquiesce : quiesceMs b = p.tQuiesce := by simp [quiesceMs, hsc, hprofile]
  rw [settle_ae, settle_rc, settle_held, settle_pp, settle_bp]
  refine ⟨by rw [← hae]; rfl, rfl, rfl, congrArg some hquiesce, by rw [← hheld]; rfl, hpp, hbp,
    settle_outerKept (by rw [← hsli]; rfl) ⟨hfs, hsv, hinp, hsc, hfree, hpend⟩, ?_⟩
  rw [settle_flags (show NotDue (draining b) by unfold NotDue; rw [show (draining b).sli = b.sli from rfl, hsli]; exact hs.2)]
  exact hflags

/-! ## The end of DRAINING -/

/-- A run that is up is undone from its last step, whose teardown dwell holds the teardown (R149, R133). -/
theorem teardownCommand_up {n : Nat} {r : StepRecord} (hp : b.bp.prog = .up) (hn : (stepTable b).length = n + 1)
    (hr : (stepTable b)[n]? = some r) (ht : 0 < r.teardown) : teardownCommand b = { b with
      held := driveDown r.action b.held, bp := undoing (n + 1) r.teardown (undoing b.bp.pointer 0 b.bp) } := by
  unfold teardownCommand
  rw [hp, hn]
  exact undoFrom_waits (s := { b with bp := undoing b.bp.pointer 0 b.bp }) hr ht

/-- From DRAINING, TEARDOWN is announced by nothing. -/
theorem enteringTeardown_draining (he : b.ae.engine = .retiring .draining) : enteringTeardown b = tearing b := by
  refine announceFrom_same (u := tearing b) ?_
  have hsilent : silent (tearing b) = silent b := by simp [silent, tearing, he]
  unfold announcedPhase
  rw [hsilent, he]
  rfl

end

end Sys2Proof.Machine

/-! The mate's notices in the Retire Coordinator (R145, R146, R154, R155), and the settling of O56. -/

namespace Sys2Proof.Machine

section
variable {s b w y : State} {own : Slot} {m : Notice} {e : Entry} {p : ProfileData}

/-! ## What the engine's evaluations leave the Retire Coordinator -/

theorem enterShedding_coordinator (h : s.ae.source = .none) :
    (enterShedding s).rc = s.rc ∧ (enterShedding s).held.takeover = s.held.takeover := by
  obtain ⟨x, hx⟩ : ∃ x : State, x = { s with
    ae := { s.ae with engine := .admitted .shedding, profFullPending := false, shedWait := some shedWaitMs }
    held := { s.held with profFull := false } } := ⟨_, rfl⟩
  have hshed : enterShedding s = if x.inp.profAck then x else completeShed x := by rw [hx]; rfl
  have hxrc : x.rc = s.rc := by rw [hx]
  have hxheld : x.held.takeover = s.held.takeover := by rw [hx]
  rw [hshed]
  split
  · exact ⟨hxrc, hxheld⟩
  · rw [completeShed_of_source (by rw [hx]; exact h)]
    generalize isOver (shedReduced x) = still
    cases still <;> exact ⟨hxrc, hxheld⟩

/-- The station with its excursion begun (R89). -/
def excursionBegun (s : State) : State := { s with ae := { s.ae with excursion := true } }

theorem beginExcursion_steady (s : State) : beginExcursion .steady s
    = if s.ae.profile = .full ∧ hasReduced s then enterShedding (excursionBegun s) else raise .overcommit (excursionBegun s) := rfl

theorem beginExcursion_upgradeBid (s : State) : beginExcursion .upgradeBid s = raise .overcommit (failUpgrade (excursionBegun s)) := rfl

theorem beginExcursion_shedding (s : State) : beginExcursion .shedding s = excursionBegun s := rfl

theorem beginExcursion_coordinator {sub : AdmittedSub} (he : s.ae.engine = .admitted sub) (h : sub = .steady → s.ae.source = .none) :
    (beginExcursion sub s).rc = s.rc ∧ (beginExcursion sub s).held.takeover = s.held.takeover
      ∧ ∃ sub', (beginExcursion sub s).ae.engine = .admitted sub' := by
  cases sub with
  | steady =>
    have hsource : (excursionBegun s).ae.source = .none := h rfl
    rw [beginExcursion_steady]
    split
    · exact ⟨(enterShedding_coordinator hsource).1, (enterShedding_coordinator hsource).2,
        (enterShedding_step (m := allFlags) (or_allFlags _) (or_allFlags _) hsource).engine⟩
    · exact ⟨rfl, rfl, .steady, he⟩
  | upgradeBid =>
    rw [beginExcursion_upgradeBid]
    refine ⟨?_, ?_, .steady, rfl⟩
    · show (failUpgrade (excursionBegun s)).rc = _
      rw [failUpgrade_rc]
      rfl
    · show (failUpgrade (excursionBegun s)).held.takeover = _
      rw [failUpgrade_held]
      rfl
  | shedding => exact ⟨rfl, rfl, .shedding, he⟩

theorem evaluateAdmitted_coordinator {sub : AdmittedSub} (he : s.ae.engine = .admitted sub) (h : sub = .steady → s.ae.source = .none) :
    (evaluateAdmitted s).rc = s.rc ∧ (evaluateAdmitted s).held.takeover = s.held.takeover
      ∧ ∃ sub, (evaluateAdmitted s).ae.engine = .admitted sub := by
  unfold evaluateAdmitted
  rw [he]
  dsimp only
  split
  · split
    · exact ⟨rfl, rfl, sub, he⟩
    · exact beginExcursion_coordinator he h
  · obtain ⟨x, hx⟩ : ∃ x : State, x = { s with ae := { s.ae with excursion := false } } := ⟨_, rfl⟩
    have hxe : ∃ sub, x.ae.engine = .admitted sub := ⟨sub, by rw [hx]; exact he⟩
    have hxrc : x.rc = s.rc := by rw [hx]
    have hxheld : x.held = s.held := by rw [hx]
    rw [← hx, ← hxrc, ← hxheld]
    exact ⟨by simp, by simp, (openUpgrade_step (m := allFlags) sub hxe).engine⟩

/-- What a view change's evaluations in WAITING and ADMITTED leave the Retire Coordinator (R77, R88). -/
structure Seen (w y : State) : Prop where
  rc : y.rc = w.rc
  takeover : y.held.takeover = w.held.takeover
  sv : y.sv = w.sv
  sc : y.sc = w.sc
  admitted : (∃ sub, w.ae.engine = .admitted sub) → ∃ sub, y.ae.engine = .admitted sub
  substates : w.ae.engine ≠ .retiring .handover → w.ae.engine ≠ .retiring .held →
    y.ae.engine ≠ .retiring .handover ∧ y.ae.engine ≠ .retiring .held

/-- The evaluations of a view change in WAITING and ADMITTED, its mismatches raised (R10, R18, R20, R77, R88). -/
def seen (before w : State) : State := evaluateAdmitted (evaluateWaiting (viewEvents before w))

theorem viewChanged_seen (before w : State) :
    viewChanged before w = evaluateHandover (evaluateTakeover (maintainTakeover before (seen before w))) := rfl

theorem seen_of_resting (before : State) (hw : w.ae.engine ≠ .waiting) (ha : ∀ sub, w.ae.engine ≠ .admitted sub) :
    seen before w = viewEvents before w := by
  unfold seen
  rw [evaluateWaiting_other (by rw [viewEvents_ae]; exact hw), evaluateAdmitted_other (by rw [viewEvents_ae]; exact ha)]

theorem seen_spec (before : State) (h : w.ae.engine = .admitted .steady → w.ae.source = .none) : Seen w (seen before w) := by
  have hsv : (seen before w).sv = w.sv := by simp [seen]
  have hsc : (seen before w).sc = w.sc := by simp [seen]
  have hrc : (viewEvents before w).rc = w.rc := by simp
  have hheld : (viewEvents before w).held = w.held := by simp
  by_cases hw : w.ae.engine = .waiting
  · have hengine := evaluateWaiting_engine (b := viewEvents before w) (by rw [viewEvents_ae]; exact hw)
    have hseen : seen before w = evaluateWaiting (viewEvents before w) := by
      refine evaluateAdmitted_other (fun sub hc => ?_)
      rcases hengine with he | he <;> rw [he] at hc <;> exact absurd hc nofun
    refine ⟨by rw [hseen, evaluateWaiting_rc, hrc], by rw [hseen, evaluateWaiting_held, hheld], hsv, hsc, fun ⟨sub, hc⟩ => ?_, fun _ _ => ?_⟩
    · rw [hw] at hc
      exact absurd hc nofun
    · rw [hseen]
      rcases hengine with he | he <;> rw [he] <;> exact ⟨nofun, nofun⟩
  · by_cases ha : ∃ sub, w.ae.engine = .admitted sub
    · obtain ⟨sub, ha⟩ := ha
      have hseen : seen before w = evaluateAdmitted (viewEvents before w) := by
        unfold seen
        rw [evaluateWaiting_other (by rw [viewEvents_ae]; exact hw)]
      obtain ⟨krc, kheld, kengine⟩ := evaluateAdmitted_coordinator (s := viewEvents before w) (sub := sub) (by rw [viewEvents_ae]; exact ha)
        (fun hsub => by rw [viewEvents_ae]; exact h (by rw [ha, hsub]))
      rw [← hseen] at krc kheld kengine
      refine ⟨krc.trans hrc, by rw [kheld, hheld], hsv, hsc, fun _ => kengine, fun _ _ => ?_⟩
      obtain ⟨sub', he⟩ := kengine
      rw [he]
      exact ⟨nofun, nofun⟩
    · have hseen := seen_of_resting before hw (fun sub hc => ha ⟨sub, hc⟩)
      refine ⟨by rw [hseen, hrc], by rw [hseen, hheld], hsv, hsc, fun hc => absurd hc ha, fun hh hd => ?_⟩
      rw [hseen, viewEvents_ae]
      exact ⟨hh, hd⟩

/-! ## What the mate's entry does -/

theorem maintainTakeover_off (before : State) (h : y.held.takeover = false) : maintainTakeover before y = y := by
  unfold maintainTakeover
  rw [h]
  rfl

theorem maintainTakeover_of_entry (before : State) (h : y.held.takeover = true) (hm : mateEntry y = some e) :
    maintainTakeover before y =
      if takeoverEnds (y.rc.mateGone || decide (e.phase = .stopped)) e then
        { y with held := { y.held with takeover := false }, rc := { y.rc with mateGone := false } }
      else { y with rc := { y.rc with mateGone := y.rc.mateGone || decide (e.phase = .stopped) } } := by
  unfold maintainTakeover mateGoneAfter
  rw [h, hm]
  rfl

theorem maintainTakeover_of_none (before : State) (h : y.held.takeover = true) (hm : mateEntry y = none) :
    maintainTakeover before y = { y with rc := { y.rc with mateGone := y.rc.mateGone || (mateEntry before).isSome } } := by
  unfold maintainTakeover mateGoneAfter
  rw [h, hm]
  rfl

theorem takeoverWanted_of_entry {sub : AdmittedSub} (he : y.ae.engine = .admitted sub) (hm : mateEntry y = some e) :
    takeoverWanted y = (e.handoverReq && namesOwn y e) := by
  unfold takeoverWanted
  rw [he, hm]

theorem evaluateTakeover_unwanted (h : takeoverWanted y = false ∨ y.held.takeover = true) : evaluateTakeover y = y := by
  refine if_neg ?_
  rintro ⟨hwanted, htake⟩
  rcases h with h | h
  · simp [h] at hwanted
  · simp [h] at htake

theorem takeoverWanted_of_noRequest (hm : ∀ e, mateEntry y = some e → e.handoverReq = false) : takeoverWanted y = false := by
  unfold takeoverWanted
  split
  · next e _ hmate => simp [hm e hmate]
  · rfl

theorem evaluateHandover_elsewhere (hh : y.ae.engine ≠ .retiring .handover) (hd : y.ae.engine ≠ .retiring .held) :
    evaluateHandover y = y := if_neg (fun hc => hc.1.elim hh hd)

theorem mateEntry_congr {x y : State} (hsv : x.sv = y.sv) (hsc : x.sc = y.sc) : mateEntry x = mateEntry y := by
  unfold mateEntry ownMate
  rw [hsv, hsc]

/-- An asserted TAKEOVER at a view change: what the mate's entry ends of it, and its mark (R155). -/
theorem viewChanged_asserted (before : State) (hsteady : w.ae.engine = .admitted .steady → w.ae.source = .none)
    (hh : w.ae.engine ≠ .retiring .handover) (hd : w.ae.engine ≠ .retiring .held) (ht : w.held.takeover = true)
    (hm : mateEntry w = some e) :
    (takeoverEnds (w.rc.mateGone || decide (e.phase = .stopped)) e = true → e.handoverReq = false →
        (viewChanged before w).held.takeover = false ∧ (viewChanged before w).rc.mateGone = false)
      ∧ (takeoverEnds (w.rc.mateGone || decide (e.phase = .stopped)) e = false →
        (viewChanged before w).held.takeover = true
          ∧ (viewChanged before w).rc.mateGone = (w.rc.mateGone || decide (e.phase = .stopped))) := by
  have hseen := seen_spec before hsteady
  obtain ⟨y, hy⟩ : ∃ y, y = seen before w := ⟨_, rfl⟩
  rw [← hy] at hseen
  obtain ⟨z, hz⟩ : ∃ z, z = maintainTakeover before y := ⟨_, rfl⟩
  have hmate : mateEntry y = some e := (mateEntry_congr hseen.sv hseen.sc).trans hm
  have hmaintained := maintainTakeover_of_entry before (hseen.takeover.trans ht) hmate
  rw [← hz, hseen.rc] at hmaintained
  obtain ⟨hyh, hyd⟩ := hseen.substates hh hd
  have hzae : z.ae = y.ae := by rw [hz, maintainTakeover_ae]
  have hzmate : mateEntry z = some e := by
    rw [← hmate]
    exact mateEntry_congr (by rw [hz]; simp) (by rw [hz]; simp)
  have hresult (h : takeoverWanted z = false ∨ z.held.takeover = true) : viewChanged before w = z := by
    rw [viewChanged_seen, ← hy, ← hz, evaluateTakeover_unwanted h]
    exact evaluateHandover_elsewhere (by rw [hzae]; exact hyh) (by rw [hzae]; exact hyd)
  refine ⟨fun hends hreq => ?_, fun hends => ?_⟩
  · rw [hresult (.inl (takeoverWanted_of_noRequest (fun x hx => by rw [hzmate] at hx; rw [← Option.some.inj hx]; exact hreq))),
      hmaintained, if_pos hends]
    exact ⟨rfl, rfl⟩
  · rw [if_neg (by simp [hends])] at hmaintained
    have htake : z.held.takeover = true := by
      rw [hmaintained]
      exact hseen.takeover.trans ht
    rw [hresult (.inr htake)]
    refine ⟨htake, ?_⟩
    rw [hmaintained]

/-- An asserted TAKEOVER whose mate's entry goes: the mark is set, and nothing ends (R155). -/
theorem viewChanged_removed (before : State) (hsteady : w.ae.engine = .admitted .steady → w.ae.source = .none)
    (ht : w.held.takeover = true) (hm : mateEntry w = none) (hb : (mateEntry before).isSome = true) :
    (viewChanged before w).held.takeover = true ∧ (viewChanged before w).rc.mateGone = true := by
  have hseen := seen_spec before hsteady
  obtain ⟨y, hy⟩ : ∃ y, y = seen before w := ⟨_, rfl⟩
  rw [← hy] at hseen
  obtain ⟨z, hz⟩ : ∃ z, z = maintainTakeover before y := ⟨_, rfl⟩
  have hmate : mateEntry y = none := (mateEntry_congr hseen.sv hseen.sc).trans hm
  have hmaintained := maintainTakeover_of_none before (hseen.takeover.trans ht) hmate
  rw [← hz, hb, Bool.or_true] at hmaintained
  have htake : z.held.takeover = true := by
    rw [hmaintained]
    exact hseen.takeover.trans ht
  have hcond : handoverCondition z = false := by
    unfold handoverCondition
    rw [mateEntry_congr (y := y) (by rw [hz]; simp) (by rw [hz]; simp), hmate]
  have hresult : viewChanged before w = z := by
    rw [viewChanged_seen, ← hy, ← hz, evaluateTakeover_unwanted (.inr htake)]
    refine if_neg (fun hc => ?_)
    simp [hcond] at hc
  rw [hresult]
  refine ⟨htake, ?_⟩
  rw [hmaintained]

/-- In ADMITTED with TAKEOVER deasserted, the mate's request for a handover that names this slot asserts it (R154). -/
theorem viewChanged_admitted (before : State) {sub : AdmittedSub} (hsteady : w.ae.engine = .admitted .steady → w.ae.source = .none)
    (he : w.ae.engine = .admitted sub) (ht : w.held.takeover = false) (hm : mateEntry w = some e) :
    (viewChanged before w).held.takeover = (e.handoverReq && namesOwn w e)
      ∧ ((e.handoverReq && namesOwn w e) = true → (viewChanged before w).rc.mateGone = false) := by
  have hseen := seen_spec before hsteady
  obtain ⟨y, hy⟩ : ∃ y, y = seen before w := ⟨_, rfl⟩
  rw [← hy] at hseen
  obtain ⟨sub', hye⟩ := hseen.admitted ⟨sub, he⟩
  have hytake : y.held.takeover = false := hseen.takeover.trans ht
  have hwanted : takeoverWanted y = (e.handoverReq && namesOwn w e) := by
    rw [takeoverWanted_of_entry hye ((mateEntry_congr hseen.sv hseen.sc).trans hm)]
    unfold namesOwn
    rw [hseen.sc]
  have hresult : viewChanged before w = evaluateTakeover y := by
    rw [viewChanged_seen, ← hy, maintainTakeover_off before hytake]
    refine evaluateHandover_other (fun sub hc => ?_)
    rw [evaluateTakeover_ae, hye] at hc
    exact absurd hc nofun
  rw [hresult, ← hwanted]
  cases hc : takeoverWanted y with
  | true =>
    have hasserted : evaluateTakeover y = { y with held := { y.held with takeover := true }, rc := { y.rc with mateGone := false } } :=
      if_pos ⟨hc, hytake⟩
    rw [hasserted]
    exact ⟨rfl, fun _ => rfl⟩
  | false =>
    rw [evaluateTakeover_unwanted (.inl hc)]
    exact ⟨hytake, nofun⟩

/-- In HANDOVER and HELD with TAKEOVER deasserted, the handover condition leads to DRAINING, and else nothing moves (R145, R146). -/
theorem viewChanged_handover (before : State) (he : w.ae.engine = .retiring .handover ∨ w.ae.engine = .retiring .held)
    (ht : w.held.takeover = false) (hq : handoverCondition w = true → w.inp.quiesced = false) : viewChanged before w
      = if handoverCondition w then draining (viewEvents before w) else viewEvents before w := by
  have hwaiting : w.ae.engine ≠ .waiting := by rcases he with he | he <;> simp [he]
  have hadmitted (sub : AdmittedSub) : w.ae.engine ≠ .admitted sub := by rcases he with he | he <;> simp [he]
  obtain ⟨v, hv⟩ : ∃ v, v = viewEvents before w := ⟨_, rfl⟩
  have hvae : v.ae = w.ae := by rw [hv, viewEvents_ae]
  have hcond : handoverCondition v = handoverCondition w := by
    unfold handoverCondition namesOwn
    rw [mateEntry_congr (y := w) (by rw [hv]; simp) (by rw [hv]; simp), show v.sc = w.sc by rw [hv]; simp]
  rw [viewChanged_seen, seen_of_resting before hwaiting hadmitted, ← hv, maintainTakeover_off before (by rw [hv]; simpa using ht),
    evaluateTakeover_other (by rw [hvae]; exact hadmitted)]
  unfold evaluateHandover
  rw [hvae, hcond]
  split
  · next hc =>
    rw [if_pos hc.2]
    exact (enterDraining_cases v).trans (if_neg (by rw [hv]; simp [hq hc.2]))
  · next hc => rw [if_neg (fun h => hc ⟨he, h⟩)]

end

end Sys2Proof.Machine

/-! The settling of O56. -/

namespace Sys2Proof.Machine

section
variable {s : State} {own : Slot} {m : Notice}

/-- The view behind a received STANDING that changes its entry, before anything looks at it (R5, R10). -/
def standingSeen (m : Notice) (s : State) : State := withTable (insertEntry (entryOf .standing m) s.sv.table) (afterFrame s)

theorem exec_standing_changes (ho : s.sv.opened = true) (hsl : s.sc.slot ≠ some m.slot) (hr : receives s.sli = true)
    (hnew : ∀ e, lookup s.sv.table m.slot = some e → { e with age := 0 } ≠ entryOf .standing m) :
    exec (.standingNotice m) s = answer s (viewChanged (afterFrame s) (standingSeen m s)) := by
  refine (congrArg (answer s) (receiveValid_arrival .standing m s nofun ho hsl hr)).trans ?_
  rw [entryArrives_changes (b := afterFrame s) hnew]
  rfl

theorem mateEntry_standingSeen (hm : ownMate s = some m.slot) : mateEntry (standingSeen m s) = some (entryOf .standing m) := by
  show (ownMate s).bind (lookup (insertEntry (entryOf .standing m) s.sv.table)) = _
  rw [hm]
  exact lookup_insertEntry_self (entryOf .standing m) s.sv.table

/-- The mate's notice names this station's slot (R4, R145). -/
theorem namesOwn_standingSeen (hs : s.sc.slot = some own) (hne : own ≠ m.slot) :
    namesOwn (standingSeen m s) (entryOf .standing m) = decide (m.mate = some own) := by
  have hmate : (entryOf .standing m).mate = if m.mate = some m.slot then none else m.mate := by rw [entryOf_fields]
  have hslot : (standingSeen m s).sc.slot = some own := hs
  unfold namesOwn
  rw [hmate, hslot]
  by_cases h : m.mate = some own
  · have hother : m.mate ≠ some m.slot := by
      rw [h]
      exact fun hc => hne (Option.some.inj hc)
    rw [if_neg hother, h]
    simp
  · split
    · simp [h]
    · simp [h]

theorem exec_leave_removes (ho : s.sv.opened = true) (hsl : s.sc.slot ≠ some m.slot) (hr : receives s.sli = true)
    (hentry : (lookup s.sv.table m.slot).isSome = true) : exec (.leaveNotice m) s
      = answer s (viewChanged (afterFrame s) (withTable (removeEntry m.slot s.sv.table) (afterFrame s))) := by
  refine (congrArg (answer s) (receiveValid_leave m s ho hsl hr)).trans ?_
  exact congrArg (answer s) (if_pos hentry)

/-! ## The end of DRAINING -/

theorem exec_quiescedRise (he : s.ae.engine = .retiring .draining) :
    exec (.quiescedRise true) s = answer s (enterTeardown { s with inp := { s.inp with quiesced := true } }) :=
  congrArg (answer s) (if_pos ⟨he, rfl⟩)

theorem exec_quiesceTimeout (he : s.ae.engine = .retiring .draining) (hq : s.rc.quiesce.isSome = true) :
    exec .quiesceTimeout s = answer s (enterTeardown (raise .quiesceTimeout s)) := congrArg (answer s) (if_pos ⟨he, hq⟩)

/-- What an entry into TEARDOWN from DRAINING leaves, whatever moved the inputs and the port before it. -/
theorem settle_teardown {b : State} {n : Nat} {r : StepRecord} (hblade : BladeKept s b) (hae : b.ae = s.ae) (hsli : b.sli = s.sli)
    (hrest : b.fs = s.fs ∧ b.sv = s.sv ∧ b.sc = s.sc) (hs : Settled s) (he : s.ae.engine = .retiring .draining) (hprog : s.bp.prog = .up)
    (hn : (stepTable s).length = n + 1) (hr : (stepTable s)[n]? = some r) (ht : 0 < r.teardown) :
    ∃ u, enterTeardown b = u ∧ (settle s u).inp = b.inp ∧ (settle s u).lpi.flags = b.lpi.flags
      ∧ (settle s u).ae = { s.ae with engine := .retiring .teardown, profFullPending := false }
      ∧ (settle s u).held = driveDown r.action { s.held with takeover := false }
      ∧ (settle s u).rc = { s.rc with handover := none, quiesce := none, mateGone := false }
      ∧ (settle s u).bp.prog = .teardown ∧ (settle s u).bp.pointer = n + 1 ∧ (settle s u).bp.teardown = some r.teardown
      ∧ (settle s u).pp = s.pp ∧ (settle s u).fs = s.fs ∧ (settle s u).sv = s.sv ∧ (settle s u).sc = s.sc ∧ (settle s u).sli = s.sli := by
  obtain ⟨hpp, hheld, hbp, hrc⟩ := hblade
  obtain ⟨hfs, hsv, hsc⟩ := hrest
  have htable : stepTable b = stepTable s := by
    unfold stepTable
    rw [hsc]
  obtain ⟨u, hu⟩ : ∃ u : State, u = { tearing b with
    held := driveDown r.action (tearing b).held, bp := undoing (n + 1) r.teardown (undoing b.bp.pointer 0 b.bp) } := ⟨_, rfl⟩
  have htear : enterTeardown b = u := by
    rw [enterTeardown_eq, enteringTeardown_draining (by rw [hae]; exact he), hu]
    exact teardownCommand_up (b := tearing b) (by show b.bp.prog = _; rw [hbp, hprog]) (by show (stepTable b).length = _; rw [htable, hn])
      (by show (stepTable b)[n]? = _; rw [htable, hr]) ht
  have husli : u.sli = s.sli := by
    rw [hu]
    exact hsli
  have hon : RetiringOn s u := by
    rw [hu]
    refine ⟨⟨_, he⟩, ⟨_, rfl⟩, hsc, ?_, ?_⟩
    · rw [← hae]
      exact ⟨rfl, rfl, rfl, rfl⟩
    · rw [← hrc]
      rfl
  have hdue : NotDue u := by
    unfold NotDue
    rw [husli]
    exact hs.2
  refine ⟨u, htear, by rw [settle_inp, hu]; rfl, by rw [settle_flags hdue, hu]; rfl, ?_, ?_, ?_, by rw [settle_bp, hu]; rfl,
    by rw [settle_bp, hu]; rfl, ?_, ?_, ?_, ?_, ?_, ?_⟩
  · rw [settle_ae, hu, ← hae]
    rfl
  · rw [settle_held, hu, ← hheld]
    rfl
  · rw [settle_rc, hu, ← hrc]
    rfl
  · rw [settle_bp, hu]
    exact if_neg (Nat.pos_iff_ne_zero.1 ht)
  · rw [settle_pp, hu]
    exact hpp
  · rw [settle_fs, hu]
    exact hfs
  · rw [settle_sv, hu]
    exact hsv
  · rw [settle_sc, hu]
    exact hsc
  · rw [hon.settle hs husli, settleLamp_eq]
    exact husli

end

/-- Settles O56. -/
theorem retiringSubstatesEnd : Obligations.RetiringSubstatesEnd := by
  intro n r p m own s hs hprofile hstart
  refine ⟨fun he ht => ?handover, fun hh hd => ⟨fun hf => ?forceElsewhere, exec_forceRetire_refused hs hh hd⟩, fun he hq hf => ?forced,
    fun he hq hprog hn hr ht => ?drained, fun hslot hne hmate ho hrec hnew hsteady => ?mate,
    fun hslot hne hmate ho hrec hentry ht hsteady => ?left⟩
  case handover =>
    obtain ⟨u, hu⟩ : ∃ u, u = raise .held { s with
      ae := { s.ae with engine := .retiring .held }, rc := { s.rc with handover := none } } := ⟨_, rfl⟩
    have hexec : exec .handoverTimerExpiry s = answer s u := by rw [hu]; exact exec_handoverTimerExpiry he ht
    have hon : RetiringOn s u := by
      rw [hu]
      exact ⟨⟨_, he⟩, ⟨_, rfl⟩, rfl, ⟨rfl, rfl, rfl, rfl⟩, rfl⟩
    have hsli : u.sli = s.sli := by rw [hu]; rfl
    refine ⟨settle s u, hexec, by rw [settle_ae, hu]; rfl, by rw [settle_rc, hu]; rfl, ?_,
      portAfter_settle (Raised.trans (.of_lpi rfl) (hu ▸ raised_raise .held { s with
        ae := { s.ae with engine := .retiring .held }, rc := { s.rc with handover := none } })) (by rw [hsli]; exact hs.2)⟩
    rw [hon.settle hs hsli, settleLamp_eq, hu]
    rfl
  case forceElsewhere =>
    rw [exec_forceTimerExpiry hf, forceRetire_other (s := { s with rc := { s.rc with force := none, latchHeld := true } }) hh hd]
    exact answer_of_latch hs _ rfl
  case forced =>
    obtain ⟨b, hb⟩ : ∃ b : State, b = { s with rc := { s.rc with force := none, latchHeld := true } } := ⟨_, rfl⟩
    obtain ⟨c, hc⟩ : ∃ c, c = commandTaken 0x03 .accepted s := ⟨_, rfl⟩
    have htimer : exec .forceTimerExpiry s = answer s (draining b) := by
      rw [exec_forceTimerExpiry hf, hb, forceRetire_drains (s := { s with rc := { s.rc with force := none, latchHeld := true } }) he hq]
    have hcommand : exec .forceRetire s = answer s (draining c) := by
      rw [hc]
      exact exec_forceRetire he hq
    have hport : PortWithin 0 (draining c) (settle s (draining c)) :=
      settle_within_of_not_due 0 s _ (by show congestionDue c.sli.queue = false; rw [hc]; exact hs.2)
    obtain ⟨-, hcmd, hres, -⟩ := (portKept_iff _ _).1 hport.1
    refine ⟨_, htimer, _, hcommand, by rw [settle_rc, hb]; rfl, by rw [settle_rc, hb]; rfl, by rw [settle_rc, hc]; rfl,
      by rw [settle_rc, hc]; rfl, by rw [hcmd, hc]; rfl, by rw [hres, hc]; rfl, fun x hx => ?_⟩
    rcases List.mem_pair.1 hx with rfl | rfl
    · exact settle_draining (by rw [hb]) (by rw [hb]; exact ⟨rfl, rfl, rfl⟩) (by rw [hb]) (by rw [hb]; exact ⟨rfl, rfl, rfl, rfl, rfl, rfl⟩)
        (by rw [hb]) hs hprofile
    · exact settle_draining (by rw [hc]; rfl) (by rw [hc]; exact ⟨rfl, rfl, rfl⟩) (by rw [hc]; rfl)
        (by rw [hc]; exact ⟨rfl, rfl, rfl, rfl, rfl, rfl⟩) (by rw [hc]; rfl) hs hprofile
  case drained =>
    obtain ⟨b, hb⟩ : ∃ b : State, b = { s with inp := { s.inp with quiesced := true } } := ⟨_, rfl⟩
    obtain ⟨c, hc⟩ : ∃ c, c = raise .quiesceTimeout s := ⟨_, rfl⟩
    obtain ⟨t, ht', htinp, htflags, htkept⟩ := settle_teardown (b := b) (by rw [hb]; exact ⟨rfl, rfl, rfl, rfl⟩) (by rw [hb]) (by rw [hb])
      (by rw [hb]; exact ⟨rfl, rfl, rfl⟩) hs he hprog hn hr ht
    obtain ⟨u, hu', huinp, huflags, hukept⟩ := settle_teardown (b := c) (by rw [hc]; exact ⟨rfl, rfl, rfl, rfl⟩) (by rw [hc]; rfl)
      (by rw [hc]; rfl) (by rw [hc]; exact ⟨rfl, rfl, rfl⟩) hs he hprog hn hr ht
    have hrise : exec (.quiescedRise true) s = answer s t := by rw [← ht', hb]; exact exec_quiescedRise he
    have htimeout : exec .quiesceTimeout s = answer s u := by rw [← hu', hc]; exact exec_quiesceTimeout he hq
    refine ⟨_, hrise, _, htimeout, by rw [htinp, hb], by rw [huinp, hc]; rfl, by rw [htflags, hb], by rw [huflags, hc]; rfl, fun x hx => ?_⟩
    rcases List.mem_pair.1 hx with rfl | rfl
    · exact htkept
    · exact hukept
  case mate =>
    have hsl : s.sc.slot ≠ some m.slot := by
      rw [hslot]
      exact fun hc => hne (Option.some.inj hc)
    obtain ⟨w, hw⟩ : ∃ w, w = standingSeen m s := ⟨_, rfl⟩
    have hexec := exec_standing_changes ho hsl hrec hnew
    have hwmate := mateEntry_standingSeen hmate
    have hwnames := namesOwn_standingSeen hslot hne
    rw [← hw] at hexec hwmate hwnames
    have hwae : w.ae = s.ae := by rw [hw]; rfl
    have hwheld : w.held = s.held := by rw [hw]; rfl
    have hwrc : w.rc = s.rc := by rw [hw]; rfl
    have hwsteady : w.ae.engine = .admitted .steady → w.ae.source = .none := by rw [hwae]; exact hsteady
    refine ⟨_, hexec, ?entry, fun he ht => ?handover, fun sub he ht => ?admitted, fun hh hd ht => ?asserted⟩
    case entry =>
      rw [settle_sv, viewChanged_sv, hw]
      exact lookup_insertEntry_self (entryOf .standing m) s.sv.table
    case handover =>
      have hcond : handoverCondition w = (decide (m.phase = .admitted) && m.carrying && decide (m.mate = some own)) := by
        unfold handoverCondition
        rw [hwmate, ← hwnames]
        rfl
      rw [settle_ae, settle_held, settle_rc]
      refine ⟨fun hphase hcarry hnames hq => ?_, fun hno => ?_⟩
      · have hmet : handoverCondition w = true := by simp [hcond, hphase, hcarry, hnames]
        rw [viewChanged_handover _ (by rw [hwae]; exact he) (by rw [hwheld]; exact ht) (fun _ => by rw [hw]; exact hq), if_pos hmet,
          viewEvents_frame]
        have hquiesce : quiesceMs w = p.tQuiesce := by
          rw [hw]
          show quiesceMs s = p.tQuiesce
          simp [quiesceMs, hprofile]
        rw [← hwae, ← hwheld, ← hwrc, ← hquiesce]
        exact ⟨rfl, rfl, rfl⟩
      · have hunmet : handoverCondition w = false := by rcases hno with h | h | h <;> simp [hcond, h]
        rw [viewChanged_handover _ (by rw [hwae]; exact he) (by rw [hwheld]; exact ht) (fun h => by simp [hunmet] at h),
          if_neg (by simp [hunmet]), viewEvents_ae, viewEvents_held, viewEvents_rc]
        exact ⟨hwae, hwheld, hwrc⟩
    case admitted =>
      obtain ⟨htake, hmark⟩ := viewChanged_admitted (afterFrame s) hwsteady (by rw [hwae]; exact he) (by rw [hwheld]; exact ht) hwmate
      rw [hwnames] at htake hmark
      rw [settle_held, settle_rc, htake]
      have hreq : (entryOf .standing m).handoverReq = m.handoverReq := rfl
      refine ⟨fun hr hn => ?_, fun hno => ?_⟩
      · have hboth : ((entryOf .standing m).handoverReq && decide (m.mate = some own)) = true := by simp [hreq, hr, hn]
        exact ⟨hboth, hmark hboth⟩
      · rcases hno with h | h <;> simp [hreq, h]
    case asserted =>
      obtain ⟨hends, hlasts⟩ := viewChanged_asserted (afterFrame s) hwsteady (by rw [hwae]; exact hh) (by rw [hwae]; exact hd)
        (by rw [hwheld]; exact ht) hwmate
      rw [hwrc] at hends hlasts
      have hphase : (entryOf .standing m).phase = m.phase := rfl
      have hcarry : (entryOf .standing m).carrying = m.carrying := rfl
      have hreq : (entryOf .standing m).handoverReq = m.handoverReq := rfl
      unfold takeoverEnds at hends hlasts
      rw [hphase, hcarry, hreq] at hends hlasts
      rw [settle_held, settle_rc]
      refine ⟨fun hp => ?_, fun hp hg hr => ?_, fun hp hg hr => ?_, fun hp hg hc hr => ?_, fun hp hg hc => ?_, fun hp hq => ?_⟩
      · simpa [hp] using hlasts (by simp [hp])
      · exact hends (by simp [hp, hg, hr]) hr
      · simpa [hp, hg] using hlasts (by simp [hp, hg, hr])
      · exact hends (by simp [hp, hg, hc]) hr
      · simpa [hp, hg] using hlasts (by simp [hp, hg, hc])
      · simpa [hq] using hlasts (by simp [hp])
  case left =>
    have hsl : s.sc.slot ≠ some m.slot := by
      rw [hslot]
      exact fun hc => hne (Option.some.inj hc)
    obtain ⟨w, hw⟩ : ∃ w, w = withTable (removeEntry m.slot s.sv.table) (afterFrame s) := ⟨_, rfl⟩
    have hexec := exec_leave_removes ho hsl hrec hentry
    rw [← hw] at hexec
    have hgone : mateEntry w = none := by
      rw [hw]
      show (ownMate s).bind (lookup (removeEntry m.slot s.sv.table)) = none
      rw [hmate]
      exact lookup_removeEntry_self m.slot s.sv.table
    have hbefore : (mateEntry (afterFrame s)).isSome = true := by
      show ((ownMate s).bind (lookup s.sv.table)).isSome = true
      rw [hmate]
      exact hentry
    obtain ⟨htake, hmark⟩ := viewChanged_removed (afterFrame s) (w := w) (by rw [hw]; exact hsteady) (by rw [hw]; exact ht) hgone hbefore
    exact ⟨_, hexec, by rw [settle_held]; exact htake, by rw [settle_rc]; exact hmark⟩

end Sys2Proof.Machine

/-! ADMITTED's overcommit test, a shed's completion with a retire held, and its commands (R69, R89, R90, R98). -/

namespace Sys2Proof.Machine

section
variable {s u b w : State} {p : ProfileData} {v : Nat}

/-! ## The overcommit test -/

/-- The loads of the better-ranked entries, summed over those entries alone (R69). -/
theorem sum_betterLoads (rank : Nat) (t : List Entry) :
    (t.map (fun e => if e.rank < rank then loadOf e else 0)).sum = ((t.filter (fun e => e.rank < rank)).map loadOf).sum := by
  induction t with
  | nil => rfl
  | cons e t ih =>
    rw [List.map_cons, List.sum_cons, ih]
    by_cases h : e.rank < rank
    · rw [if_pos h, List.filter_cons_of_pos (by simpa using h), List.map_cons, List.sum_cons]
    · rw [if_neg h, List.filter_cons_of_neg (by simpa using h), Nat.zero_add]

/-- The better-ranked loads are part of the committed load (R16, R69). -/
theorem betterLoads_le (rank : Nat) (t : List Entry) : ((t.filter (fun e => e.rank < rank)).map loadOf).sum ≤ committedLoad t :=
  (List.Sublist.map loadOf List.filter_sublist).sum_le_sum (fun _ _ => Nat.zero_le _)

theorem ownClaim_of_admitted (hp : s.sc.profile = some p) (hv : s.ae.vC = some v) (he : ∃ sub, s.ae.engine = .admitted sub) :
    ownClaim s = steadyClaim p v s.ae.profile := by
  obtain ⟨sub, he⟩ := he
  unfold ownClaim ownSteady
  rw [he, hp, hv]

/-- A station in ADMITTED is over while its steady claim and the better-ranked loads exceed C_eff (R69). -/
theorem isOver_of_admitted (hp : s.sc.profile = some p) (hv : s.ae.vC = some v) (he : ∃ sub, s.ae.engine = .admitted sub) :
    isOver s = decide (cEff p s.sv.table
      < steadyClaim p v s.ae.profile + ((s.sv.table.filter (fun e => e.rank < ownRank s)).map loadOf).sum) := by
  unfold isOver overcommitSum ownCEff
  rw [ownClaim_of_admitted hp hv he, sum_betterLoads, hp]

/-- The overcommit test reads the view, Start Control, the profile and V_c alone of a station in ADMITTED. -/
theorem isOver_congr (hsc : u.sc = s.sc) (hsv : u.sv = s.sv) (hae : u.ae.profile = s.ae.profile ∧ u.ae.vC = s.ae.vC)
    (hs : ∃ sub, s.ae.engine = .admitted sub) (hu : ∃ sub, u.ae.engine = .admitted sub) : isOver u = isOver s := by
  obtain ⟨sub, hs⟩ := hs
  obtain ⟨sub', hu⟩ := hu
  have hclaim : ownClaim u = ownClaim s := by
    unfold ownClaim ownSteady
    rw [hs, hu, hsc, hae.1, hae.2]
  unfold isOver overcommitSum ownCEff ownRank
  rw [hclaim, hsc, hsv]

/-! ## The event's end -/

/-- An event's end moves the line and the port alone. -/
theorem settle_frame (s u : State) : settle s u = { u with sli := (settle s u).sli, lpi := (settle s u).lpi } := by
  have hfs := settle_fs s u
  have hsv := settle_sv s u
  have hae := settle_ae s u
  have hpp := settle_pp s u
  have hheld := settle_held s u
  have hbp := settle_bp s u
  have hrc := settle_rc s u
  have hinp := settle_inp s u
  have hsc := settle_sc s u
  have hfree := settle_freeCount s u
  have hpend := settle_pending s u
  generalize settle s u = t at *
  cases t
  cases u
  simp_all

/-! ## A retire held through a shed -/

/-- A teardown leaves its engine in RETIRING or the path open. -/
def Leaving (u : State) : Prop := phaseOf u.ae.engine = some .retiring ∨ gateOn u = false

theorem teardownComplete_leaving (b : State) : Leaving (teardownComplete b) := by
  refine .inr ?_
  have hopen := gateOn_openGates .opened b (.inl rfl)
  unfold gateOn at hopen
  unfold teardownComplete
  split
  · show gateOn (if _ then (if _ then retryRule .bringupTimeout (openGates .opened b) else enterDischarging .released (openGates .opened b))
      else openGates .opened b) = false
    unfold gateOn
    split
    · split
      · rw [retryRule_pp]
        exact hopen
      · rw [enterDischarging_pp]
        exact hopen
    · exact hopen
  · next h => simpa using h

theorem undoFrom_leaving (n : Nat) (h : phaseOf b.ae.engine = some .retiring) : Leaving (undoFrom n b) := by
  induction n generalizing b with
  | zero => exact teardownComplete_leaving b
  | succ n ih =>
    unfold undoFrom
    split
    · exact ih h
    · next r _ =>
      show Leaving (if r.teardown = 0 then _ else _)
      split
      · exact ih h
      · exact .inl h

theorem enterTeardown_leaving (b : State) : Leaving (enterTeardown b) := by
  obtain ⟨e, he⟩ : ∃ e, e = enteringTeardown b := ⟨_, rfl⟩
  have hphase : phaseOf e.ae.engine = some .retiring := by
    rw [he]
    unfold enteringTeardown
    rw [announceFrom_ae]
    rfl
  rw [enterTeardown_eq, ← he]
  unfold teardownCommand
  split
  · exact teardownComplete_leaving e
  · exact undoFrom_leaving _ hphase
  · exact undoFrom_leaving _ hphase
  · exact .inl hphase

theorem enterDraining_leaving (b : State) : Leaving (enterDraining b) := by
  rw [enterDraining_cases]
  split
  · exact enterTeardown_leaving _
  · exact .inl rfl

theorem enterRetiring_leaving (b : State) : Leaving (enterRetiring b) := by
  rw [enterRetiring_cases]
  split
  · rw [enterHandover_cases]
    split
    · exact enterDraining_leaving _
    · exact .inl rfl
  · exact enterDraining_leaving _

/-- A retire entered from ADMITTED is announced (R41, R144). -/
theorem enterRetiring_announces (hr : Requests b) (hp : announcedPhase b ≠ some .retiring) (hheld : RetireHeld b) :
    isQueued .standing (enterRetiring b).sli.queue = true := by
  have hann : announceFrom b (retiring b) = announced (retiring b) :=
    announceFrom_new (ph := .retiring) (hr.of_engine rfl nofun rfl) rfl hp
  have hheld' : RetireHeld (announced (retiring b)) := hheld
  rw [enterRetiring_cases, hann]
  split
  · exact (enterHandover_retireStep hheld').standing (announced_standing _)
  · exact (enterDraining_retireStep hheld').standing (announced_standing _)

/-! ## A shed's completion -/

/-- The station behind a completed shed: the reduced profile, PROFILE raised, and OVERCOMMIT where it is still over (R90). -/
def shedDone (s : State) : State :=
  raiseIf (isOver (shedReduced s)) .overcommit (raise .profile { s with ae := shedRecord (isOver (shedReduced s)) s.ae })

theorem shedDone_ae (s : State) : (shedDone s).ae = shedRecord (isOver (shedReduced s)) s.ae := by
  unfold shedDone
  rw [raiseIf_ae]
  rfl

theorem shedDone_frame (s : State) : shedDone s = { s with ae := (shedDone s).ae, lpi := (shedDone s).lpi } := by
  unfold shedDone raiseIf
  split <;> rfl

theorem shedDone_raised (s : State) :
    Raised (flagWord .profile ||| if isOver (shedReduced s) then flagWord .overcommit else 0) s (shedDone s) :=
  Raised.trans (t := raise .profile { s with ae := shedRecord (isOver (shedReduced s)) s.ae }) rfl (raised_raiseIf _ _ _)

theorem shedDone_profile (s : State) : flagSet .profile (shedDone s) = true :=
  (raiseIf_within (m := allFlags) (or_allFlags _) _ _).flagSet_of_set (flagSet_raise_self _ _)

theorem completeShed_unheld (h : s.ae.source = .none) : completeShed s = shedDone s := completeShed_of_source h

/-- A completed shed with a retire held takes it (R98). -/
theorem completeShed_held (h : s.ae.source ≠ .none) : completeShed s = enterRetiring (shedDone s) := by
  refine (if_pos ?_).trans ?_
  · rw [raiseIf_ae]
    exact h
  · rfl

/-- The excursion of a completed shed is the overcommit test's outcome (R90). -/
theorem isOver_shedDone (s : State) : isOver (shedDone s) = isOver (shedReduced s) := by
  refine isOver_congr ?_ ?_ ?_ ⟨.steady, rfl⟩ ⟨.steady, by rw [shedDone_ae]; rfl⟩
  · rw [shedDone_frame]
    rfl
  · rw [shedDone_frame]
    rfl
  · rw [shedDone_ae]
    exact ⟨rfl, rfl⟩

theorem exec_profAckLow (he : s.ae.engine = .admitted .shedding) : exec (.profAckChange false) s
    = answer s (completeShed { s with inp := { s.inp with profAck := false } }) := congrArg (answer s) (if_pos ⟨he, rfl⟩)

theorem exec_shedWaitExpiry (he : s.ae.engine = .admitted .shedding) (ht : s.ae.shedWait.isSome = true) :
    exec .shedWaitExpiry s = answer s (completeShed s) := congrArg (answer s) (if_pos ⟨he, ht⟩)

/-- The inputs behind a command that completes a shed (R90). -/
def shedInputs (c : Instr) (i : Inputs) : Inputs := if c = .shedWaitExpiry then i else { i with profAck := false }

theorem exec_shedCompletes {c : Instr} (he : s.ae.engine = .admitted .shedding)
    (hc : c = .profAckChange false ∨ c = .shedWaitExpiry ∧ s.ae.shedWait.isSome = true) :
    exec c s = answer s (completeShed { s with inp := shedInputs c s.inp }) := by
  rcases hc with rfl | ⟨rfl, ht⟩
  · exact exec_profAckLow he
  · exact exec_shedWaitExpiry he ht

end

end Sys2Proof.Machine

/-! Overcommit excursions and sheds (R69, R88 to R90, R98, O42). -/

namespace Sys2Proof.Machine

section
variable {s u b w : State} {p : ProfileData} {v : Nat} {n : Notice}

theorem isOver_settle (s u : State) : isOver (settle s u) = isOver u := by
  rw [settle_frame]
  rfl

/-! ## A shed's completion -/

/-- A shed's completion with no retire held (R90). -/
theorem shed_unheld {inp : Inputs} (hp : s.sc.profile = some p) (hv : s.ae.vC = some v) (hr : Requests s) (hs : Settled s)
    (hfull : s.ae.profile = .full) (hred : p.pRed.isSome = true) (hb : b = { s with inp := inp }) :
    (settle s (shedDone b)).ae = { s.ae with
        engine := .admitted .steady, profile := .reduced, shedWait := none, upgradeHold := some 10000,
        excursion := isOver (settle s (shedDone b)) }
      ∧ sRed p v = some (ownClaim (settle s (shedDone b)))
      ∧ LineAfter true s (settle s (shedDone b))
      ∧ PortAfter (flagWord .profile ||| if isOver (settle s (shedDone b)) then flagWord .overcommit else 0) s (settle s (shedDone b))
      ∧ settle s (shedDone b) = { s with
        ae := (settle s (shedDone b)).ae, sli := (settle s (shedDone b)).sli, lpi := (settle s (shedDone b)).lpi, inp := inp } := by
  obtain ⟨u, hu⟩ : ∃ u, u = shedDone b := ⟨_, rfl⟩
  have hbae : b.ae = s.ae := by rw [hb]
  have hae : u.ae = shedRecord (isOver (shedReduced b)) s.ae := by rw [hu, shedDone_ae, hbae]
  have hframe : u = { s with inp := inp, ae := u.ae, lpi := u.lpi } := by
    have hdone := shedDone_frame b
    rw [← hu] at hdone
    refine hdone.trans ?_
    rw [hb]
  have hsli : u.sli = s.sli := (congrArg State.sli hframe :)
  have hsc : u.sc = s.sc := (congrArg State.sc hframe :)
  have hover : isOver u = isOver (shedReduced b) := hu ▸ isOver_shedDone b
  have hsilent : silent u = false := silent_eq_false_of (by rw [hsc]; exact hr.start) (by rw [hae]; exact nofun)
  have hdue : NotDue u := by
    unfold NotDue
    rw [hsli]
    exact hs.2
  have hstanding : standingDue s u = true := by simp [standingDue, hae, shedRecord, hfull]
  have hraised : Raised (flagWord .profile ||| if isOver u then flagWord .overcommit else 0) s u := by
    have hdone := shedDone_raised b
    rw [← hu, ← hover] at hdone
    unfold Raised at hdone ⊢
    rw [hdone, hb]
  rw [← hu, isOver_settle, settle_ae]
  refine ⟨?_, ?_, ?_, portAfter_settle hraised hdue, ?_⟩
  · rw [hae, hover]
    rfl
  · rw [ownClaim_settle, ownClaim_of_admitted (p := p) (v := v) (by rw [hsc]; exact hp) (by rw [hae]; exact hv) ⟨.steady, by rw [hae]; rfl⟩, hae]
    obtain ⟨x, hx⟩ := Option.isSome_iff_exists.1 hred
    simp [shedRecord, steadyClaim, sRed, hx]
  · have hline := lineAfter_settle hs hr hsli hsilent
    rw [hstanding] at hline
    exact hline
  · calc settle s u = { u with sli := (settle s u).sli, lpi := (settle s u).lpi } := settle_frame s u
      _ = { ({ s with inp := inp, ae := u.ae, lpi := u.lpi } : State) with sli := (settle s u).sli, lpi := (settle s u).lpi } :=
        congrArg (fun x : State => { x with sli := (settle s u).sli, lpi := (settle s u).lpi }) hframe

/-- What a shed's completion shows, a retire held or none (R90, R98). -/
theorem completeShed_shown (hr : Requests s) (hlatch : s.ae.source = .latch → s.rc.latchOpen = true) {o : State} (hfull : o.ae.profile = .full) :
    (completeShed s).ae.profile = .reduced ∧ (completeShed s).ae.upgradeHold = some 10000 ∧ (completeShed s).ae.shedWait = none
      ∧ isQueued .standing (settle o (completeShed s)).sli.queue = true ∧ flagSet .profile (completeShed s) = true
      ∧ (s.ae.source ≠ .none → Leaving (completeShed s)) := by
  have hdae := shedDone_ae s
  have hdsc : (shedDone s).sc = s.sc := by rw [shedDone_frame]
  have hdsli : (shedDone s).sli = s.sli := by rw [shedDone_frame]
  have hdreq : Requests (shedDone s) := hr.of_engine (by rw [hdsc]) (by rw [hdae]; exact nofun) (by rw [hdsli])
  by_cases hsource : s.ae.source = .none
  · rw [completeShed_unheld hsource, hdae]
    refine ⟨rfl, rfl, rfl, ?_, shedDone_profile s, fun h => absurd hsource h⟩
    exact standing_queued_settle o _ (by simp [standingDue, hdae, shedRecord, hfull]) hdreq
  · have hheld : RetireHeld (shedDone s) := by
      refine ⟨by rw [hdae]; exact hsource, ?_⟩
      rw [hdae, shedDone_frame]
      exact hlatch
    have hstep := enterRetiring_retireStep hheld
    obtain ⟨-, hprofile, hhold, hwait⟩ := hstep.shed (by rw [hdae]; exact nofun)
    have hnew : announcedPhase (shedDone s) ≠ some .retiring := by
      unfold announcedPhase
      rw [hdreq.1, hdae]
      exact nofun
    rw [completeShed_held hsource]
    refine ⟨by rw [hprofile, hdae]; rfl, by rw [hhold, hdae]; rfl, hwait (by rw [hdae]; rfl), ?_,
      hstep.port.flagSet_of_set (shedDone_profile s), fun _ => enterRetiring_leaving _⟩
    exact settle_standingKept o _ (enterRetiring_announces hdreq hnew hheld)

/-! ## A peer's notice in ADMITTED -/

/-- The mismatches of a view change, and the LINE event of its end (R18, R20, R38). -/
def heardFlags : BitVec 16 := flagWord .capacityMismatch ||| flagWord .mateMismatch ||| flagWord .line

/-- A received STANDING that changes its entry, its mismatches raised, before the engine looks at it (R5, R10, R18, R20). -/
structure Heard (n : Notice) (s x : State) : Prop where
  ae : x.ae = s.ae
  blade : BladeKept s x
  sv : x.sv = { s.sv with table := insertEntry (entryOf .standing n) s.sv.table }
  sli : x.sli = endFrame s.sli
  rest : x.fs = s.fs ∧ x.sc = s.sc ∧ x.inp = s.inp ∧ x.freeCount = s.freeCount ∧ x.pending = s.pending
  port : PortWithin heardFlags s x

theorem heard (n : Notice) (s : State) : Heard n s (viewEvents (afterFrame s) (standingSeen n s)) := by
  refine ⟨?_, ⟨?_, ?_, ?_, ?_⟩, ?_, ?_, ⟨?_, ?_, ?_, ?_, ?_⟩,
    PortWithin.trans (t := standingSeen n s) (.of_lpi rfl) (viewEvents_within (by decide) (by decide) _ _)⟩
  all_goals
    rw [viewEvents_frame]
    rfl

theorem Heard.requests {x : State} (h : Heard n s x) (hr : Requests s) : Requests x := by
  refine ⟨?_, by rw [h.sli]; exact hr.2⟩
  rw [← hr.1]
  unfold silent
  rw [h.ae, h.rest.2.1]

theorem Heard.notDue {x : State} (h : Heard n s x) (hs : Settled s) : NotDue x := by
  unfold NotDue
  rw [h.sli]
  exact hs.2

/-- With no mate and TAKEOVER deasserted, a view change in ADMITTED is the engine's evaluation alone (R88). -/
theorem viewChanged_unmated {before : State} (he : ∃ sub, w.ae.engine = .admitted sub) (hm : ownMate w = none)
    (ht : (evaluateAdmitted (viewEvents before w)).held.takeover = false) :
    viewChanged before w = evaluateAdmitted (viewEvents before w) := by
  obtain ⟨sub, he⟩ := he
  obtain ⟨y, hy⟩ : ∃ y, y = evaluateAdmitted (viewEvents before w) := ⟨_, rfl⟩
  have hseen : seen before w = y := by
    unfold seen
    rw [evaluateWaiting_other (by rw [viewEvents_ae, he]; exact nofun), hy]
  have hmate : mateEntry y = none := by
    rw [mateEntry_congr (y := w) (by rw [hy]; simp) (by rw [hy]; simp)]
    unfold mateEntry
    rw [hm]
    rfl
  have hcond : handoverCondition y = false := by
    unfold handoverCondition
    rw [hmate]
  rw [← hy] at ht
  rw [viewChanged_seen, hseen, maintainTakeover_off before ht,
    evaluateTakeover_unwanted (.inl (takeoverWanted_of_noRequest (fun e h => by rw [hmate] at h; exact absurd h nofun))), ← hy]
  exact if_neg (fun hc => by simp [hcond] at hc)

theorem evaluateAdmitted_over {sub : AdmittedSub} (he : s.ae.engine = .admitted sub) (h : isOver s = true) :
    evaluateAdmitted s = if s.ae.excursion then s else beginExcursion sub s := by
  unfold evaluateAdmitted
  rw [he]
  exact if_pos h

theorem evaluateAdmitted_notOver {sub : AdmittedSub} (he : s.ae.engine = .admitted sub) (h : isOver s = false) :
    evaluateAdmitted s = openUpgrade sub { s with ae := { s.ae with excursion := false } } := by
  unfold evaluateAdmitted
  rw [he]
  exact if_neg (by simp [h])

theorem beginExcursion_pp {sub : AdmittedSub} (h : sub = .steady → s.ae.source = .none) : (beginExcursion sub s).pp = s.pp := by
  cases sub with
  | steady =>
    rw [beginExcursion_steady]
    split
    · exact (enterShedding_step (m := allFlags) (s := excursionBegun s) (or_allFlags _) (or_allFlags _) (h rfl)).pp
    · rfl
  | upgradeBid =>
    rw [beginExcursion_upgradeBid]
    exact failUpgrade_pp (excursionBegun s)
  | shedding => rfl

theorem flagSet_overcommit_heard (h : PortWithin heardFlags s u) : flagSet .overcommit (settle s u) = flagSet .overcommit s :=
  (h.trans (settle_within (by decide) s u)).flag_eq (by decide)

/-- The shed of an excursion, PROF_ACK already low (R89, R90). -/
theorem enterShedding_acknowledged (ha : s.inp.profAck = false) (hsource : s.ae.source = .none) : enterShedding s = shedDone
    { s with ae := { s.ae with engine := .admitted .shedding, profFullPending := false, shedWait := some shedWaitMs },
             held := { s.held with profFull := false } } := by
  refine (if_neg ?_).trans (completeShed_unheld hsource)
  show ¬ s.inp.profAck = true
  simp [ha]

theorem enterShedding_waits (ha : s.inp.profAck = true) : enterShedding s =
    { s with ae := { s.ae with engine := .admitted .shedding, profFullPending := false, shedWait := some shedWaitMs },
             held := { s.held with profFull := false } } := if_pos ha

end

/-- Settles O42. -/
theorem shedCompletes : Obligations.ShedCompletes := by
  intro p v c n s hp hv hstart hr hs hsteady hlatch
  refine ⟨fun hred he hfull hbid hc => ?shed, fun sub he ho hrec hsl hnew hmate ht hbid hover => ?exceeds⟩
  case shed =>
    obtain ⟨b, hb⟩ : ∃ b : State, b = { s with inp := shedInputs c s.inp } := ⟨_, rfl⟩
    have hexec : exec c s = answer s (completeShed b) := hb ▸ exec_shedCompletes he hc
    have hbae : b.ae = s.ae := by rw [hb]
    have hbr : Requests b := by rw [hb]; exact hr
    obtain ⟨hprofile, hhold, hwait, hstanding, hflag, hleaving⟩ := completeShed_shown hbr (by rw [hb]; exact hlatch) hfull
    refine ⟨_, hexec, by rw [settle_ae]; exact hprofile, by rw [settle_ae]; exact hhold, by rw [settle_ae]; exact hwait, hstanding,
      flagSet_settle hflag, fun hsource => ?_, fun hsource => ?_⟩
    · rw [completeShed_unheld (by rw [hbae]; exact hsource)]
      exact shed_unheld hp hv hr hs hfull hred hb
    · have hleft := hleaving (by rw [hbae]; exact hsource)
      unfold Leaving gateOn at hleft
      unfold gateOn
      rw [settle_ae, settle_pp]
      exact hleft
  case exceeds =>
    obtain ⟨x, hx⟩ : ∃ x, x = viewEvents (afterFrame s) (standingSeen n s) := ⟨_, rfl⟩
    have hh : Heard n s x := hx ▸ heard n s
    obtain ⟨hxpp, hxheld, hxbp, hxrc⟩ := hh.blade
    obtain ⟨hxfs, hxsc, hxinp, hxfree, hxpend⟩ := hh.rest
    have hxe : x.ae.engine = .admitted sub := by rw [hh.ae]; exact he
    have hxreq := hh.requests hr
    have hxrank : ownRank x = ownRank s := by
      unfold ownRank
      rw [hxsc]
    have hxover : isOver x = true := by
      rw [isOver_of_admitted (p := p) (v := v) (by rw [hxsc]; exact hp) (by rw [hh.ae]; exact hv) ⟨sub, hxe⟩, hh.ae, hh.sv, hxrank]
      exact decide_eq_true hover
    have hxsteady : sub = .steady → x.ae.source = .none := fun h => by
      rw [hh.ae]
      exact hsteady (by rw [he, h])
    obtain ⟨-, htake, -⟩ := evaluateAdmitted_coordinator hxe hxsteady
    have hchanged : viewChanged (afterFrame s) (standingSeen n s) = evaluateAdmitted x := by
      rw [hx]
      refine viewChanged_unmated (w := standingSeen n s) ⟨sub, he⟩ hmate ?_
      rw [← hx, htake, hxheld]
      exact ht
    obtain ⟨u, hu⟩ : ∃ u, u = evaluateAdmitted x := ⟨_, rfl⟩
    have hexec : exec (.standingNotice n) s = answer s u := by rw [exec_standing_changes ho hsl hrec hnew, hchanged, hu]
    have hover : u = if s.ae.excursion then x else beginExcursion sub x := by rw [hu, evaluateAdmitted_over hxe hxover, hh.ae]
    have hbegin (hexc : s.ae.excursion = false) : u = beginExcursion sub x := by rw [hover, if_neg (by simp [hexc])]
    refine ⟨settle s u, hexec, by rw [settle_sv, hu, evaluateAdmitted_sv, hh.sv], fun hexc => ?lasting, fun hexc hsub => ?shedding,
      fun hexc hsub hfull hred hack => ?sheds, fun hexc hsub hfull hred hack hsource => ?shedAtOnce, fun hexc hsub hno => ?unable,
      fun hexc hsub => ?upgrading, by rw [settle_fs, hu, evaluateAdmitted_fs, hxfs], by rw [settle_sc, hu, evaluateAdmitted_sc, hxsc],
      by rw [settle_inp, hu, evaluateAdmitted_inp, hxinp], ?path, by rw [settle_freeCount, hu, evaluateAdmitted_freeCount, hxfree],
      by rw [settle_pending, hu, evaluateAdmitted_pending, hxpend]⟩
    case lasting =>
      have hux : u = x := by rw [hover, if_pos hexc]
      rw [settle_ae, hux]
      exact ⟨hh.ae, settle_bladeKept hh.blade, flagSet_overcommit_heard hh.port⟩
    case shedding =>
      have hux : u = excursionBegun x := by rw [hbegin hexc, hsub, beginExcursion_shedding]
      rw [settle_ae, hux]
      refine ⟨by rw [← hh.ae]; rfl, settle_bladeKept hh.blade, flagSet_overcommit_heard (hh.port.of_eq rfl)⟩
    case sheds =>
      have hux : u = enterShedding (excursionBegun x) := by
        rw [hbegin hexc, hsub, beginExcursion_steady, if_pos ⟨by rw [hh.ae]; exact hfull, by simp [hasReduced, hxsc, hp, hred]⟩]
      rw [enterShedding_waits (s := excursionBegun x) (by show x.inp.profAck = true; rw [hxinp]; exact hack)] at hux
      have huae : u.ae = { s.ae with engine := .admitted .shedding, excursion := true, profFullPending := false, shedWait := some 500 } := by
        rw [hux, ← hh.ae]
        rfl
      have husc : u.sc = s.sc := by rw [hux]; exact hxsc
      rw [settle_ae, settle_held, settle_pp, settle_bp, settle_rc, ownClaim_settle,
        ownClaim_of_admitted (p := p) (v := v) (by rw [husc]; exact hp) (by rw [huae]; exact hv) ⟨.shedding, by rw [huae]⟩]
      refine ⟨huae, ?_, ?_, ?_, ?_, ?_, flagSet_overcommit_heard (hh.port.of_eq (by rw [hux]; rfl))⟩
      · rw [hux, ← hxheld]
        rfl
      · rw [huae]
        show steadyClaim p v s.ae.profile = sFull p v
        rw [hfull]
        rfl
      · rw [hux]; exact hxpp
      · rw [hux]; exact hxbp
      · rw [hux]; exact hxrc
    case shedAtOnce =>
      have hux : u = enterShedding (excursionBegun x) := by
        rw [hbegin hexc, hsub, beginExcursion_steady, if_pos ⟨by rw [hh.ae]; exact hfull, by simp [hasReduced, hxsc, hp, hred]⟩]
      rw [enterShedding_acknowledged (s := excursionBegun x) (by show x.inp.profAck = false; rw [hxinp]; exact hack)
        (by show x.ae.source = .none; rw [hh.ae]; exact hsource)] at hux
      have huheld : u.held = { s.held with profFull := false } := by
        rw [hux, shedDone_frame, ← hxheld]
        rfl
      have huover : isOver u = u.ae.excursion := by
        rw [hux, isOver_shedDone, shedDone_ae]
        rfl
      have hovercommit : isOver u = true → flagSet .overcommit u = true := by
        rw [hux, isOver_shedDone]
        intro h
        unfold shedDone
        rw [h]
        exact flagSet_raise_self _ _
      rw [settle_ae, settle_held, isOver_settle]
      refine ⟨by rw [hux, shedDone_ae]; rfl, by rw [hux, shedDone_ae]; rfl, by rw [hux, shedDone_ae]; rfl, huheld, flagSet_settle ?_,
        fun h => flagSet_settle (hovercommit h), huover.symm⟩
      rw [hux]
      exact shedDone_profile _
    case unable =>
      have hux : u = raise .overcommit (excursionBegun x) := by
        rw [hbegin hexc, hsub, beginExcursion_steady, if_neg]
        rintro ⟨hfull, hred⟩
        rcases hno with h | h
        · rw [hh.ae, h] at hfull
          exact absurd hfull nofun
        · simp [hasReduced, hxsc, hp, h] at hred
      rw [settle_ae]
      refine ⟨?_, settle_bladeKept ?_, flagSet_settle ?_⟩
      · rw [hux, ← hh.ae]
        rfl
      · rw [hux]
        exact hh.blade
      · rw [hux]
        exact flagSet_raise_self _ _
    case upgrading =>
      have hux : u = raise .overcommit (failUpgrade (excursionBegun x)) := by rw [hbegin hexc, hsub, beginExcursion_upgradeBid]
      have hopen : s.ae.bid.isSome = true := hbid.2 hsub
      have hxopen : (excursionBegun x).ae.bid.isSome = true := by
        show x.ae.bid.isSome = true
        rw [hh.ae]
        exact hopen
      have hereq : Requests (excursionBegun x) := hxreq
      have hqueue : u.sli = (closeBid (excursionBegun x)).sli := by rw [hux]; rfl
      have hxqueue : (excursionBegun x).sli.queue = s.sli.queue := by
        show x.sli.queue = s.sli.queue
        rw [hh.sli]
        rfl
      rw [settle_ae]
      refine ⟨?_, settle_bladeKept ?_, flagSet_settle ?_, ?_, fun hnone => ?_⟩
      · rw [hux]
        show (failUpgrade (excursionBegun x)).ae = _
        rw [failUpgrade_ae hxopen, show ownRank (excursionBegun x) = ownRank s from hxrank, ← hh.ae]
        rfl
      · rw [hux]
        refine ⟨?_, ?_, ?_, ?_⟩
        · exact (failUpgrade_pp (excursionBegun x)).trans hxpp
        · exact (failUpgrade_held (excursionBegun x)).trans hxheld
        · exact (failUpgrade_bp (excursionBegun x)).trans hxbp
        · exact (failUpgrade_rc (excursionBegun x)).trans hxrc
      · rw [hux]
        exact flagSet_raise_self _ _
      · rw [isQueued_settle_ne (k := .bid) nofun, hqueue, isQueued_bid_closeBid hereq]
        simp [Option.isSome_iff_ne_none.1 hxopen]
      · rw [isQueued_settle_ne (k := .yield) nofun, hqueue]
        exact isQueued_yield_closeBid hereq hxopen (by rw [hxqueue]; exact hnone)
    case path =>
      rw [settle_pp, hover]
      split
      · rw [hxpp]
      · rw [beginExcursion_pp hxsteady, hxpp]

end Sys2Proof.Machine

/-! The opening and the end of an upgrade bid (R71, R72, R91 to R93, O43). -/

namespace Sys2Proof.Machine

section
variable {s u : State} {p : ProfileData} {v : Nat} {n : Notice}

/-! ## The window's expiry -/

theorem exec_upgradeWindowExpiry (he : s.ae.engine = .admitted .upgradeBid) (hw : s.ae.window.isSome = true)
    (hp : s.sc.profile = some p) (hv : s.ae.vC = some v) : exec .upgradeWindowExpiry s
      = answer s (if upgradeResolution p v s then evaluateAdmitted (upgraded s) else failUpgrade s) := by
  refine (congrArg (answer s) (if_pos ⟨he, hw⟩)).trans ?_
  unfold resolveUpgrade
  rw [hp, hv]

theorem upgradeResolution_iff : upgradeResolution p v s = true ↔ s.sli.line ≠ .stuck ∧ s.sli.impaired = false
    ∧ committedLoad s.sv.table + betterBids (ownRank s) s.sv.table + sFull p v ≤ cEff p s.sv.table := by
  unfold upgradeResolution lineFine
  simp [and_assoc]

/-- An upgrade that resolves fits C_eff with the better-ranked loads alone, and so leaves the station not over (R69, R72). -/
theorem upgraded_fits (h : committedLoad s.sv.table + betterBids (ownRank s) s.sv.table + sFull p v ≤ cEff p s.sv.table) :
    sFull p v + ((s.sv.table.filter (fun e => e.rank < ownRank s)).map loadOf).sum ≤ cEff p s.sv.table := by
  have hle := betterLoads_le (ownRank s) s.sv.table
  omega

/-- The station behind a successful upgrade, any excursion ended (R88, R92). -/
def upgradeDone (s : State) : State :=
  { s with ae := { s.ae with engine := .admitted .steady, profile := .full, bid := none, window := none,
                             profFullPending := true, excursion := false },
           sli := beganBeforeUpgrade s.sli }

theorem evaluateAdmitted_upgraded (hp : s.sc.profile = some p) (hv : s.ae.vC = some v)
    (h : committedLoad s.sv.table + betterBids (ownRank s) s.sv.table + sFull p v ≤ cEff p s.sv.table) :
    evaluateAdmitted (upgraded s) = upgradeDone s := by
  have hnot : isOver (upgraded s) = false := by
    rw [isOver_of_admitted (s := upgraded s) hp hv ⟨.steady, rfl⟩]
    exact decide_eq_false (Nat.not_lt.2 (upgraded_fits h))
  rw [evaluateAdmitted_notOver (sub := .steady) rfl hnot]
  unfold openUpgrade
  split
  · exact if_neg (fun hc => absurd hc.2.1 nofun)
  · rfl

theorem leaveUnderway_beganBeforeUpgrade (l : LineInterface) : leaveUnderway (beganBeforeUpgrade l) = leaveUnderway l := by
  cases h : l.inFlight <;> simp [leaveUnderway, beganBeforeUpgrade, h]

theorem lineFrame_beganBeforeUpgrade (l : LineInterface) : lineFrame (beganBeforeUpgrade l) = lineFrame l := by
  cases h : l.inFlight <;> simp [lineFrame, beganBeforeUpgrade, h]

theorem Requests.upgradeDone (hr : Requests s) : Requests (upgradeDone s) :=
  hr.of_engine rfl nofun (leaveUnderway_beganBeforeUpgrade s.sli)

theorem Requests.failUpgrade (hr : Requests s) : Requests (failUpgrade s) :=
  hr.of_engine (failUpgrade_sc s ▸ rfl) (show Engine.admitted .steady ≠ .stopped from nofun) (leaveUnderway_closeBid s)

/-- A bid that opens or closes calls for a STANDING (R41). -/
theorem standingDue_of_bid (h : bidOpen s ≠ bidOpen u) : standingDue s u = true := by
  simp [standingDue, h]

/-! ## An opening -/

theorem lineFine_iff : lineFine s = true ↔ s.sli.line ≠ .stuck ∧ s.sli.impaired = false := by simp [lineFine]

/-- With P_red present, the amount is S_full less S_red (R71). -/
theorem upgradeAmount_eq (h : p.pRed.isSome = true) : upgradeAmount p v = sFull p v - (sRed p v).getD 0 := by
  obtain ⟨x, hx⟩ := Option.isSome_iff_exists.1 h
  simp [upgradeAmount, sRed, hx]

/-- In ADMITTED's evaluation, the upgrade opens on the obligations' conditions (R71, R88, R91). -/
theorem openUpgrade_steady (hp : s.sc.profile = some p) (hv : s.ae.vC = some v) (hred : s.ae.profile = .reduced) : openUpgrade .steady s
    = if p.pRed.isSome = true ∧ s.ae.profFullPending = false ∧ s.ae.retryHold = none ∧ s.ae.upgradeHold = none
        ∧ lineFine s = true ∧ committedLoad s.sv.table + sFull p v + p.u ≤ cEff p s.sv.table then enterUpgradeBid p v s else s := by
  unfold openUpgrade
  rw [hp, hv]
  refine if_congr ?_ rfl rfl
  unfold upgradeOpening running
  simp [hred]
  tauto

/-- The station in UPGRADE_BID, its BID not yet requested (R91). -/
theorem enterUpgradeBid_ae : (enterUpgradeBid p v s).ae
    = { s.ae with engine := .admitted .upgradeBid, bid := some (upgradeAmount p v), window := none } := by
  unfold enterUpgradeBid
  rw [requestNotice_ae]

theorem enterUpgradeBid_sli (hr : Requests s) : (enterUpgradeBid p v s).sli = { s.sli with queue := joinTail .bid s.sli.queue } := by
  obtain ⟨b, hb⟩ : ∃ b : State, b = { s with
    ae := { s.ae with engine := .admitted .upgradeBid, bid := some (upgradeAmount p v), window := none } } := ⟨_, rfl⟩
  have hbr : Requests b := hr.of_engine (by rw [hb]) (by rw [hb]; exact nofun) (by rw [hb])
  have henter : enterUpgradeBid p v s = requestNotice .bid b := by rw [hb]; rfl
  rw [henter, requestNotice_taken .bid b hbr, hb]
  rfl

end

/-- Settles O43. -/
theorem upgradeWindowExpiry : Obligations.UpgradeWindowExpiry := by
  intro p v n s hp hv hstart hred hr hs
  refine ⟨fun he hbid hw hdue => ⟨fun hline himp hfits => ?resolves, fun hno => ?fails⟩, fun he ho hrec hsl hnew hmate ht hbid hfits => ?opens⟩
  case resolves =>
    obtain ⟨u, hu⟩ : ∃ u, u = upgradeDone s := ⟨_, rfl⟩
    have hexec : exec .upgradeWindowExpiry s = answer s u := by
      rw [exec_upgradeWindowExpiry he hw hp hv, if_pos (upgradeResolution_iff.2 ⟨hline, himp, hfits⟩), evaluateAdmitted_upgraded hp hv hfits, hu]
    have hur : Requests u := hu ▸ hr.upgradeDone
    have hudue : NotDue u := by
      rw [hu]
      exact hs.2
    have hstanding : standingDue s u = true := standingDue_of_bid (by rw [hu]; simp [bidOpen, upgradeDone, hbid])
    refine ⟨settle s u, hexec, upgraded_fits hfits, by rw [settle_ae, hu]; rfl, ?_, by rw [settle_held, hu]; rfl,
      standing_queued_settle s u hstanding hur, portAfter_settle (.of_lpi (by rw [hu]; rfl)) hudue, ?_, by rw [settle_pp, hu]; rfl,
      by rw [settle_bp, hu]; rfl, by rw [settle_rc, hu]; rfl, settle_outerKept ?_ ?_⟩
    · rw [ownClaim_settle, hu]
      exact ownClaim_of_admitted (s := upgradeDone s) hp hv ⟨.steady, rfl⟩
    · rw [settle_sli_of_due hr.1 hur hudue hstanding, hu]
      rfl
    · rw [hu]
      exact lineFrame_beganBeforeUpgrade s.sli
    · rw [hu]
      exact ⟨rfl, rfl, rfl, rfl, rfl, rfl⟩
  case fails =>
    obtain ⟨u, hu⟩ : ∃ u, u = failUpgrade s := ⟨_, rfl⟩
    have hexec : exec .upgradeWindowExpiry s = answer s u := by
      rw [exec_upgradeWindowExpiry he hw hp hv, if_neg, hu]
      rw [upgradeResolution_iff]
      rintro ⟨hline, himp, hfits⟩
      rcases hno with h | h | h
      · exact hline h
      · simp [himp] at h
      · omega
    have husli : u.sli = (closeBid s).sli := by rw [hu]; rfl
    have hur : Requests u := hu ▸ hr.failUpgrade
    have hudue : NotDue u := by
      unfold NotDue
      rw [husli]
      exact closeBid_notDue hs.2 (fun _ => hdue)
    have huae := failUpgrade_ae hbid
    rw [← hu] at huae
    refine ⟨settle s u, hexec, by rw [settle_ae, huae], ?_, standing_queued_settle s u (standingDue_of_bid ?_) hur, fun hnone => ?_,
      portAfter_settle (.of_lpi (by rw [hu, failUpgrade_lpi])) hudue, settle_bladeKept ?_, settle_outerKept ?_ ?_⟩
    · rw [isQueued_settle_ne (k := .bid) nofun, husli, isQueued_bid_closeBid hr]
      simp [Option.isSome_iff_ne_none.1 hbid]
    · simp [bidOpen, huae, hbid]
    · rw [isQueued_settle_ne (k := .yield) nofun, husli]
      exact isQueued_yield_closeBid hr hbid hnone
    · rw [hu]
      exact ⟨failUpgrade_pp s, failUpgrade_held s, failUpgrade_bp s, failUpgrade_rc s⟩
    · rw [hu, failUpgrade_line]
    · rw [hu]
      exact ⟨failUpgrade_fs s, failUpgrade_sv s, failUpgrade_inp s, failUpgrade_sc s, failUpgrade_freeCount s, failUpgrade_pending s⟩
  case opens =>
    obtain ⟨x, hx⟩ : ∃ x, x = viewEvents (afterFrame s) (standingSeen n s) := ⟨_, rfl⟩
    have hh : Heard n s x := hx ▸ heard n s
    obtain ⟨hxpp, hxheld, hxbp, hxrc⟩ := hh.blade
    obtain ⟨hxfs, hxsc, hxinp, hxfree, hxpend⟩ := hh.rest
    have hxe : x.ae.engine = .admitted .steady := by rw [hh.ae]; exact he
    have hxrank : ownRank x = ownRank s := by
      unfold ownRank
      rw [hxsc]
    have hxnot : isOver x = false := by
      rw [isOver_of_admitted (p := p) (v := v) (by rw [hxsc]; exact hp) (by rw [hh.ae]; exact hv) ⟨.steady, hxe⟩, hh.ae, hh.sv, hxrank, hred]
      exact decide_eq_false (Nat.not_lt.2 hfits)
    obtain ⟨y, hy⟩ : ∃ y : State, y = { x with ae := { x.ae with excursion := false } } := ⟨_, rfl⟩
    have hyae : y.ae = { s.ae with excursion := false } := by rw [hy, hh.ae]
    have hysc : y.sc = s.sc := by rw [hy]; exact hxsc
    have hysv : y.sv = { s.sv with table := insertEntry (entryOf .standing n) s.sv.table } := by rw [hy]; exact hh.sv
    have hysli : y.sli = endFrame s.sli := by rw [hy]; exact hh.sli
    have heval : evaluateAdmitted x = openUpgrade .steady y := by rw [evaluateAdmitted_notOver hxe hxnot, hy]
    have hchanged : viewChanged (afterFrame s) (standingSeen n s) = openUpgrade .steady y := by
      rw [← heval, hx]
      refine viewChanged_unmated (w := standingSeen n s) ⟨.steady, he⟩ hmate ?_
      rw [← hx, heval, openUpgrade_held, hy]
      show x.held.takeover = false
      rw [hxheld]
      exact ht
    obtain ⟨u, hu⟩ : ∃ u, u = openUpgrade .steady y := ⟨_, rfl⟩
    have hexec : exec (.standingNotice n) s = answer s u := by rw [exec_standing_changes ho hsl hrec hnew, hchanged, hu]
    have hyfine : lineFine y = true ↔ s.sli.line ≠ .stuck ∧ s.sli.impaired = false := by
      rw [← lineFine_iff, ← lineFine_afterFrame hrec]
      unfold lineFine
      rw [hysli]
      rfl
    refine ⟨settle s u, hexec, ?upgrade, settle_bladeKept ?_, ?_, ?_, ?_, ?_⟩
    case upgrade =>
      have hopens := openUpgrade_steady (s := y) (p := p) (v := v) (by rw [hysc]; exact hp) (by rw [hyae]; exact hv) (by rw [hyae]; exact hred)
      rw [← hu, hyae, hysv] at hopens
      have hysilent : silent y = false := silent_eq_false_of (by rw [hysc]; exact hstart) (by rw [hyae]; simp [he])
      have hyreq : Requests y := ⟨hysilent, by rw [hysli]; exact hr.2⟩
      have hydue : NotDue y := by
        unfold NotDue
        rw [hysli]
        exact hs.2
      split
      · next hc =>
        obtain ⟨hsome, hpf, hretry, hhold, hline, himp, hload⟩ := hc
        rw [if_pos ⟨hsome, hpf, hretry, hhold, hyfine.2 ⟨hline, himp⟩, hload⟩] at hopens
        have huae : u.ae = { s.ae with engine := .admitted .upgradeBid, excursion := false, window := none,
                                       bid := some (sFull p v - (sRed p v).getD 0) } := by
          rw [hopens, enterUpgradeBid_ae, hyae, upgradeAmount_eq hsome]
        have husli : u.sli = { y.sli with queue := joinTail .bid y.sli.queue } := by
          rw [hopens]
          exact enterUpgradeBid_sli hyreq
        have hur : Requests u := by
          refine hyreq.of_engine (by rw [hopens, enterUpgradeBid_sc]) (by rw [huae]; exact nofun) ?_
          rw [hopens]
          exact leaveUnderway_requestNotice (k := .bid) nofun _
        refine ⟨by rw [settle_ae, huae], isQueued_settle .bid s u ?_, standing_queued_settle s u (standingDue_of_bid ?_) hur⟩
        · rw [husli]
          exact isQueued_joinTail_self .bid y.sli.queue
        · simp [bidOpen, huae, hbid]
      · next hc =>
        rw [if_neg (fun ⟨hsome, hpf, hretry, hhold, hline, hload⟩ =>
          hc ⟨hsome, hpf, hretry, hhold, (hyfine.1 hline).1, (hyfine.1 hline).2, hload⟩)] at hopens
        have hstanding : standingDue s y = false := by
          have hclaim : ownClaim y = ownClaim s := by
            rw [ownClaim_of_admitted (s := y) (p := p) (v := v) (by rw [hysc]; exact hp) (by rw [hyae]; exact hv) ⟨.steady, by rw [hyae]; exact he⟩,
              ownClaim_of_admitted hp hv ⟨.steady, he⟩, hyae]
          simp [standingDue, hclaim, bidOpen, hyae, show y.rc = s.rc by rw [hy]; exact hxrc]
        rw [settle_ae, hopens]
        refine ⟨hyae, ?_⟩
        rw [settle_sli s y hydue (by simp [hysilent]) (by simp [hr.1]), standingAsked_of_requests s y hyreq, hstanding, hysli]
        rfl
    · unfold BladeKept
      rw [hu, openUpgrade_pp, openUpgrade_held, openUpgrade_bp, openUpgrade_rc, hy]
      exact hh.blade
    · rw [settle_sv, hu, openUpgrade_sv, hysv]
    · rw [settle_fs, hu, openUpgrade_fs, hy, hxfs]
    · rw [settle_sc, hu, openUpgrade_sc, hysc]
    · rw [settle_inp, hu, openUpgrade_inp, hy, hxinp]

end Sys2Proof.Machine
